-- ==== Sys2Proof/Word.lean ====
section
/-! DEFINITION. The plain words of the model: bytes and byte strings.
Byte order, fields of payloads and every other helper that a rule of the spec shapes stand in
Machine/Bytes.lean. -/

namespace Sys2Proof

/-- One byte of a payload, a buffer or a memory. -/
abbrev Byte := BitVec 8

/-- A byte string: offset 0 first. -/
abbrev Bytes := List Byte

/-- A sparse table: an index and its record, indices strictly rising; an index that is not listed
holds the reset record of its kind. -/
abbrev Tab (α : Type) := List (Nat × α)

end Sys2Proof
end

