-- ==== Sys2Proof/Machine/Records/Events.lean ====
section
/-! DEFINITION. The names, severities and codes of the device's events (R518, R519 and the chapters
that raise them), and what an event names as its source. -/

namespace Sys2Proof.Machine

/-- The events the spec names (R519: each is identified by its unique name). -/
inductive EventName where
  | cmdComplete
  | cmdEffect
  | eventSummary
  | fenceApplied
  | fenceReleased
  | deviceDimmed
  | deviceRestored
  | unitTestFailed
  | fencedEffectSkipped
  | thermalStep
  | thermalRetreat
  | thermalTrip
  | eventPendingCritical
  | alignMemberAsync
  | aoXoLost
  | asrcExhausted
  | audioBurstSlip
  | audioSyncChanged
  | canvasCommitExpired
  | canvasLateLine
  | cascadeIdentityConflict
  | cascadePathChanged
  | cascadeTimeRole
  | cascadeTopology
  | ccpDmaFault
  | ccpDoorbellBusy
  | ccpMailboxTimeout
  | ccpPrivilegeRefused
  | clockLost
  | codingChannelStopped
  | cvuMismatch
  | cvuScanDone
  | decodeError
  | decodeHolding
  | decodeRecovered
  | dtStepped
  | exactRangeExceeded
  | flowLegLost
  | formatChanged
  | frameError
  | fwSwapFailed
  | glint
  | hbmEccCorrected
  | hbmEccUncorrectable
  | hbmStackFenced
  | headerTaskLate
  | inputLoss
  | inputRestored
  | journalDecisionsLost
  | journalUnsealed
  | laneDown
  | laneFailed
  | laneHiBer
  | laneSkewExceeded
  | laneUp
  | lanternAuthLockout
  | lanternError
  | lanternFuseFault
  | lanternRecordInvalid
  | lanternZeroised
  | mirrorClear
  | mirrorMismatch
  | mirrorNoSignal
  | nightlightAdopted
  | nightlightMapMismatch
  | nvCounterFault
  | nvRecordConflict
  | nvRecordLost
  | nvWearWarning
  | panelTeLost
  | panelTeRestored
  | partnerLost
  | pipeCropInvalid
  | pipeDelayChanged
  | pipeMethodFallback
  | pipeMethodRestored
  | pllFailed
  | pllGlideRefused
  | pllLockLost
  | pllRelocked
  | powerFailAsserted
  | rateChanged
  | rateOutOfRange
  | rcInputMissing
  | rcPictureFloored
  | refreshCatchup
  | refreshForced
  | refLost
  | routeHotCut
  | scanoutLateLine
  | sramEccUncorrectable
  | standingMismatch
  | streamKeyExpired
  | streamKeyRekeyDue
  | surfaceLost
  | surfaceWriteBlocked
  | sysXoLost
  | tallyChanged
  | tgJump
  | tgRealign
  | ttcHeaderInvalid
  | ttcTileError
  | watchFailover
  | watchNoCandidate
  | watchReturn
  | watchSuspended
  | zeroizeGlitch
  deriving DecidableEq, Repr

/-- The source of an event: its class code and its index in the class (R518). -/
structure Src where
  /-- source class code of R518. -/
  cls : Nat
  /-- index within the class; 0xFFFF for none. -/
  idx : Nat
  deriving DecidableEq, Repr

/-- An event record (R518); DT is held in nanoseconds since the PTP epoch. -/
structure EventRec where
  /-- u16 code; 23 R518: held as the event's name. -/
  name : EventName
  /-- u8; 23 R518: 0 CRITICAL to 4 TRACE. -/
  severity : Nat
  /-- class and index; 23 R518. -/
  src : Src
  /-- u16; 23 R518: occurrences the record stands for. -/
  count : Nat
  /-- u48 seconds and u32 nanoseconds; 23 R518. -/
  dt : Nat
  /-- u48; 23 R518: HRT frame, 0 when none. -/
  frame : Nat
  /-- u16; 23 R518: HRT line, 0 when none. -/
  line : Nat
  /-- u8; 23 R518: timing group, 0xFF when none. -/
  tg : Nat
  /-- u8; 23 R518: bit 0 SUMMARY, 1 COALESCED, 2 SATURATED, 3 FROM_BOOT_BUFFER. -/
  flags : Nat
  /-- u32; 23 R518: event-specific detail. -/
  detail : Nat
  deriving DecidableEq, Repr

end Sys2Proof.Machine
end

