-- ==== Sys2Proof/Operand.lean ====
section
/-! DEFINITION. The shapes of the commands' operands that more than one row shares: a request as the
host writes it into a mailbox (R59), and what host memory answers to its DMA (R72). -/

namespace Sys2Proof

/-- The two PCIe functions (R56, R87): PF0 is the privileged view, PF1 the shaded view. -/
inductive View where
  | pf0
  | pf1
  deriving DecidableEq, Repr

/-- The instructions of the JTAG port (R567, IEEE 1149.1 and 1149.6). -/
inductive JtagInstr where
  | bypass
  | idcode
  | sample
  | preload
  | extest
  | extestPulse
  | extestTrain
  | other
  deriving DecidableEq, Repr

/-- What host memory does for a request that carries the DMA flag (R72): the bytes its request
descriptors name, in descriptor order; whether a read of them fails; and, where a write of response
data fails, after how many bytes. -/
structure DmaHost where
  data : Bytes
  readFails : Bool
  writeStop : Option Nat
  deriving DecidableEq, Repr

/-- A request (R59) on one mailbox of one view. The opcode is the row's own; the payload length of
the header is the length of `payload`. -/
structure Request where
  view : View
  /-- mailbox number: 0 to 15 on PF0, 0 to 3 on PF1 (R56). -/
  mailbox : Nat
  major : BitVec 8
  minor : BitVec 8
  flags : BitVec 16
  token : BitVec 64
  atFrame : BitVec 48
  atLine : BitVec 16
  group : BitVec 8
  /-- the 7 reserved bytes of the header. -/
  reserved : BitVec 56
  payload : Bytes
  dma : DmaHost
  deriving DecidableEq, Repr

/-- An ancillary packet as ingest finds it (R127). -/
structure AncPacket where
  did : Nat
  sdid : Nat
  /-- line of the frame it came in. -/
  line : Nat
  /-- its place is in the VANC (R127). -/
  vanc : Bool
  /-- its checksum holds. -/
  sumOk : Bool
  data : Bytes
  deriving DecidableEq, Repr

/-- The level of one associated audio channel over a frame (R178): digital zero, an RMS level in
1/100 dBFS, or a channel that carries non-audio payload. -/
inductive Level where
  | zero
  | rms (hundredths : Int)
  | nonAudio
  deriving DecidableEq, Repr

/-- What is measured on the picture of one input frame (R178). -/
structure Measures where
  /-- mean absolute luma difference from the previous input frame on the grid of R178, in 1/256 of a
  10-bit code. -/
  diff : Nat
  /-- mean active luma, in 1/256 of a 10-bit code. -/
  mean : Nat
  /-- peak active luma, 10-bit code. -/
  peak : Nat
  /-- associated channels 1 to 16, in order; none where the source has no audio association. -/
  levels : List Level
  /-- for each field of the frame, in order: it comes from the same source picture as the field before
  it (R189). -/
  samePicture : List Bool
  /-- the luma histogram differs from that of the picture before it by more than the pipe's fixed limit
  (R197). -/
  cut : Bool
  deriving DecidableEq, Repr

/-- What the deframer finds on one link of a frame (R123 to R125). -/
structure LinkFrame where
  /-- lines with a CRC or EDH error. -/
  crcLines : List Nat
  trsErrors : Nat
  /-- ST 352 link number, when a packet carries one. -/
  number : Option Nat
  underrun : Bool
  /-- arrival against the earliest link, ns. -/
  delay : Nat
  deriving DecidableEq, Repr

/-- A deframed SDI frame (R119 to R127). -/
structure SdiFrame where
  /-- DT of the frame's start. -/
  start : Nat
  /-- DT of the start of the frame that follows, when one does. -/
  next : Option Nat
  /-- every active line was written (R150). -/
  complete : Bool
  /-- raster and rate as measured; none when the raster is no row of R44. -/
  measured : Option (Nat × Nat)
  /-- raster and rate that ST 352 names. -/
  st352 : Option (Nat × Nat)
  /-- the interface that ST 352 or the data-stream structure names, when it differs (R375). -/
  iface : Option Nat
  /-- the payload is one of those of R119. -/
  unsupported : Bool
  /-- link 1 first. -/
  links : List LinkFrame
  anc : List AncPacket
  picture : Measures
  deriving DecidableEq, Repr

/-- A packet of a receive flow on one leg (R135 to R144). -/
structure IpPacket where
  /-- RTP sequence number, extended by the flow's own count of wraps (R140). -/
  seq : Nat
  /-- RTP timestamp, 90 kHz (R137). -/
  ts : Nat
  payloadType : Nat
  ssrc : Nat
  /-- RTP marker bit. -/
  marker : Bool
  /-- the packet is an IP fragment (R133). -/
  fragment : Bool
  /-- the receive buffer has no room for it (R138). -/
  overrun : Bool
  /-- SRTP: the packet authenticates (R144). -/
  authentic : Bool
  /-- sample rows carried: line, first sample, samples (R137). -/
  rows : List (Nat × Nat × Nat)
  /-- the packet's length fits its sampling (R150). -/
  fits : Bool
  /-- ancillary packets it carries. -/
  anc : List AncPacket
  /-- the frame this packet ends, deframed, for ST 2022-6 (R139). -/
  sdi : Option SdiFrame
  /-- what the picture of the frame that this packet ends measures (R178). -/
  picture : Measures
  deriving DecidableEq, Repr

/-- What the active parameter sets of a coded stream say (R259, R304, R314). -/
structure CodedStream where
  codec : Nat
  profile : Nat
  level : Nat
  tier : Nat
  chroma : Nat
  depth : Nat
  width : Nat
  height : Nat
  interlaced : Bool
  /-- picture rate in mHz. -/
  rate : Nat
  /-- buffers the stream needs. -/
  pool : Nat
  /-- VVC reference picture resampling is used. -/
  resampled : Bool
  /-- split into left and right halves as R304 has it. -/
  split : Bool
  deriving DecidableEq, Repr

/-- Coded data as a decode channel takes them in: a host-ring record, or the packets of one picture that came
together, with what their NAL units say (R308 to R318). -/
structure CodedData where
  /-- coded bytes. -/
  bytes : Nat
  /-- RTP timestamp, PTS or record stamp (R310). -/
  stamp : Nat
  ssrc : Nat
  /-- TS discontinuity indicator or host-ring flag (R310). -/
  discont : Bool
  /-- they begin the picture. -/
  first : Bool
  /-- they end it. -/
  last : Bool
  poc : Int
  /-- 0 IRAP, 1 GDR, 2 P, 3 B, 4 other intra. -/
  type : Nat
  /-- its reference set; true for long-term. -/
  refs : List (Int × Bool)
  /-- the recovery POC count, for a GDR picture or a recovery point SEI. -/
  recovery : Option Nat
  noPrior : Bool
  /-- a POC or frame_num gap shows an access unit absent. -/
  gap : Bool
  /-- error classes 1, 3 and 4 met in these data. -/
  errors : List Nat
  /-- CTUs that these data leave to be concealed. -/
  damaged : Nat
  stream : CodedStream
  anc : List AncPacket
  deriving DecidableEq, Repr

/-- What a source endpoint brings to an audio block (R337 to R349). -/
structure AudioIn where
  source : Nat
  /-- for each channel its samples in house time, as its crossing delivers them. -/
  samples : List (List Int)
  /-- samples that had not arrived by their playout time (R349). -/
  lacking : Nat
  /-- late samples discarded. -/
  late : Nat
  /-- packets found in other data streams (R334). -/
  others : Nat
  /-- pairs with a burst preamble or a non-PCM channel status in the block (R344). -/
  nonAudio : List Nat
  /-- deviation of the buffer fill from its centre, in 1/1000 sample (R339). -/
  dev : Int
  deriving DecidableEq, Repr

/-- A record at the consumer index of an audio host input ring (R367). -/
structure AudioRecord where
  ring : Nat
  length : Nat
  channels : Nat
  packing : Nat
  /-- stamp, ns since the PTP epoch. -/
  stamp : Nat
  samples : List (List Int)
  deriving DecidableEq, Repr

/-- Who reads HBM, and for what (R466). -/
inductive Reader where
  | other
  /-- a synchroniser or egress read of a line of a destination. -/
  | egress (dest line : Nat)
  /-- a canvas's fetch (false) or scan-out (true) of a line. -/
  | canvas (c line : Nat) (scan : Bool)
  | pipe (n : Nat)
  /-- the input of a DU of an encode channel. -/
  | encInput (n number du : Nat)
  /-- a reference of an encode channel. -/
  | encRef (n : Nat)
  /-- reference or de-jitter data of a decode channel, and how many CTUs they cost. -/
  | decRef (n ctus : Nat)
  | dejitter (n ctus : Nat)
  /-- a DU in the stream ring of an encode channel. -/
  | packetiser (n number du : Nat)
  /-- audio block data of a source endpoint, and its samples. -/
  | audio (e samples : Nat)
  /-- a page of the journal ring. -/
  | journal (page : Nat)
  | pcie
  | cvu (n : Nat)
  | cpc
  deriving DecidableEq, Repr

/-- What a CONTROL packet of the cascade says (R403, R404; log entry 40). -/
inductive ControlMsg where
  | subscribe (origin slot taker : Nat)
  | release (origin slot taker : Nat)
  /-- the raster, rate, phase offset of the export's group at the origin, and whether its cascade time is LOCKED or it is
  the master. -/
  | describe (origin slot raster rate : Nat) (phase : Int) (locked : Bool)
  deriving DecidableEq, Repr

/-- A VIDEO, ANCILLARY or AUDIO packet of the cascade (R397). -/
structure MediaPacket where
  /-- 5 VIDEO, 6 ANCILLARY, 7 AUDIO. -/
  type : Nat
  origin : Nat
  hops : Nat
  slot : Nat
  /-- payload bytes. -/
  length : Nat
  crcOk : Bool
  /-- DT of the start of the frame that the packet begins. -/
  dt : Nat
  /-- it begins a frame. -/
  first : Bool
  /-- it ends a frame. -/
  last : Bool
  /-- every line of that frame has arrived. -/
  whole : Bool
  anc : List AncPacket
  picture : Measures
  deriving DecidableEq, Repr

/-- What the world brings to a frame that starts in a group (R35), beside what the state holds. -/
structure FrameFacts where
  /-- for each decode channel, how many CTUs of a picture that misses this frame were not decoded (R316). -/
  decode : List (Nat × Nat)
  /-- for each SDI output that Mirror found at fault in the frame before, the mismatched lines by link (R241). -/
  mirror : List (Nat × List Nat)
  /-- for each panel port, the tiles of which a pixel has changed (R249). -/
  tiles : List (Nat × List Nat)
  /-- late egress lines of the frame before: destination and line (R126). -/
  egressLate : List (Nat × Nat)
  /-- sources of which a line was not completely written when the egress read it in the frame before (R150). -/
  writeLate : List Nat
  /-- late canvas lines of the frame before: canvas and line (R237). -/
  canvasLate : List (Nat × Nat)
  /-- late lines of a raster engine in the frame before: canvas and line (R239). -/
  scanLate : List (Nat × Nat)
  /-- what the last frame of a source of class 0x2 to 0x5 measures (R178). -/
  measures : List (Nat × Measures)
  deriving DecidableEq, Repr

end Sys2Proof
end

