-- ==== Sys2Proof/Syntax.lean ====
section
/-! DEFINITION. The commands of the block: one constructor for each row of spec/opcode_table.json, in
the table's order. Rows 0 to 113 are the commands of the Carren Command Protocol, each with the
request that carries it; the others are events of the block and accesses of its registers, each with
what the world outside the block brings to it. -/

namespace Sys2Proof

inductive Instr where
  /-- SESSION_OPEN (R76). Opens a session on the mailbox and negotiates the protocol major and effective minor. -/
  | sessionOpen (r : Request)
  /-- SESSION_ATTACH (R76). Binds a further mailbox of the same view to an open session. -/
  | sessionAttach (r : Request)
  /-- SESSION_CLOSE (R75). Unbinds all mailboxes of the session, returns them to IDLE and ends its Lantern roles. -/
  | sessionClose (r : Request)
  /-- COMMAND_CANCEL (R84). Cancels a scheduled command, or a whole salvo, that has not yet passed its governing Dusk line. -/
  | commandCancel (r : Request)
  /-- SESSION_INFO (R83). Query that returns information about the session. -/
  | sessionInfo (r : Request)
  /-- CAPACITY_REPORT (R27). Returns the budget records and the counted-resource records. -/
  | capacityReport (r : Request)
  /-- COMMAND_RESULT (R74). Returns the cached result of a JSN, or JOURNAL_GAP when the JSN is no longer held. -/
  | commandResult (r : Request)
  /-- REFERENCE_SET (R41). Sets the ordered reference candidates, the revert hold, the REF polarity and the PTP domain. -/
  | referenceSet (r : Request)
  /-- TIMING_GROUP_SET (R42). Enables, disables or reconfigures a timing group's format, phase offset, Dusk offset and re-alignment setting. -/
  | timingGroupSet (r : Request)
  /-- DT_SET (R43). Sets Device Time according to the selected reference. -/
  | dtSet (r : Request)
  /-- SYNTH_CONFIGURE (R511). Sets the dither seed, divider, phase delay or enable of a host-controlled synthesiser output. -/
  | synthConfigure (r : Request)
  /-- TIME_STATUS (R576). Returns DT, the reference state, the candidates and the group records captured at one instant. -/
  | timeStatus (r : Request)
  /-- CLOCK_STATUS (R517). Returns the state, tuning word and counters of every PLL and the Glint counts. -/
  | clockStatus (r : Request)
  /-- QUAD_ALLOCATE (R370). Allocates a quad to a protocol and retunes its QPLL by Eclipse. -/
  | quadAllocate (r : Request)
  /-- LANE_CONFIGURE (R373). Applies line-exact lane settings, including enables, interfaces, links and equalisation. -/
  | laneConfigure (r : Request)
  /-- LANE_REARM (R385). Resets a training unit's attempt count and begins an attempt at once. -/
  | laneRearm (r : Request)
  /-- FLOW_CONFIGURE (R135). Configures, enables or disables an IP receive or transmit flow. -/
  | flowConfigure (r : Request)
  /-- LANE_TEST_SET (R392). Sets a lane's PRBS generator, checker, error injection and quad loopback. -/
  | laneTestSet (r : Request)
  /-- LANE_STATUS (R393). Returns the training, equaliser, counter and checker status of each lane. -/
  | laneStatus (r : Request)
  /-- FLOW_STATUS (R153). Returns the counters and input state of each flow. -/
  | flowStatus (r : Request)
  /-- FLOW_SDP (R145). Returns the SDP description of a transmit flow. -/
  | flowSdp (r : Request)
  /-- ROUTE_SET (R171). Routes one source to one destination on the stream path or the lane path. -/
  | routeSet (r : Request)
  /-- SALVO (R172). Applies up to 1,024 route entries whole in one frame. -/
  | salvo (r : Request)
  /-- DESTINATION_LOCK (R173). Locks or unlocks a destination against changes of source or path. -/
  | destinationLock (r : Request)
  /-- WATCH_RULE_SET (R176). Sets or deletes the watch rule of a destination. -/
  | watchRuleSet (r : Request)
  /-- SYNC_CONFIGURE (R148). Sets the synchroniser parameters for a pair of source and timing group. -/
  | syncConfigure (r : Request)
  /-- DESTINATION_CONFIGURE (R158). Sets a destination's timing group, fine offset, lane-path loss behaviour and tally class. -/
  | destinationConfigure (r : Request)
  /-- TEST_GENERATOR_SET (R157). Configures, enables or disables a test generator. -/
  | testGeneratorSet (r : Request)
  /-- TALLY_READ (R175). Returns the 2-bit tally of every source and destination. -/
  | tallyRead (r : Request)
  /-- ROUTE_READ (R171). Returns the routing state of the named destinations. -/
  | routeRead (r : Request)
  /-- WATCH_STATUS (R182). Returns the state, conditions and hold counts of each watch rule. -/
  | watchStatus (r : Request)
  /-- PIPE_CONFIGURE (R186). Configures a conversion pipe or gang. -/
  | pipeConfigure (r : Request)
  /-- PIPE_GANG (R203). Forms or dissolves a gang of 2 or 4 conversion pipes. -/
  | pipeGang (r : Request)
  /-- PIPE_LUT_LOAD (R194). Loads colour tables into the pipe's inactive bank. -/
  | pipeLutLoad (r : Request)
  /-- PIPE_STATUS (R211). Returns the state and counters of each pipe or gang. -/
  | pipeStatus (r : Request)
  /-- CANVAS_CONFIGURE (R215). Configures a canvas's enable, timing group, colour and background. -/
  | canvasConfigure (r : Request)
  /-- LAYER_COMMIT (R225). Commits up to 16 layer records of a canvas at the canvas-commit effect point. -/
  | layerCommit (r : Request)
  /-- SURFACE_ALLOCATE (R216). Allocates a graphics surface in HBM and returns its handle and address. -/
  | surfaceAllocate (r : Request)
  /-- SURFACE_RELEASE (R235). Frees an IDLE surface, or places an ACTIVE surface in AFTERGLOW. -/
  | surfaceRelease (r : Request)
  /-- SURFACE_WRITE (R220). Writes surface data by DMA and sets READY. -/
  | surfaceWrite (r : Request)
  /-- SURFACE_READY (R220). Sets the READY flag of a surface after aperture writes. -/
  | surfaceReady (r : Request)
  /-- CLONE_GROUP_SET (R238). Sets the members and shared fine offset of a canvas's clone group. -/
  | cloneGroupSet (r : Request)
  /-- FLATTEN_BUDGET_SET (R233). Divides the flatten cache among the canvases. -/
  | flattenBudgetSet (r : Request)
  /-- PANEL_CONFIGURE (R245). Configures a panel port and enables or disables it. -/
  | panelConfigure (r : Request)
  /-- PANEL_SEQUENCE_SET (R246). Loads the INIT, IDLE or ACTIVE command sequence of a panel port. -/
  | panelSequenceSet (r : Request)
  /-- PANEL_CONTENT_SET (R248). Selects the CANVAS, SURFACES or BLANK content of a panel port. -/
  | panelContentSet (r : Request)
  /-- CANVAS_STATUS (R243). Returns each canvas's state, layers and counters. -/
  | canvasStatus (r : Request)
  /-- SURFACE_STATUS (R243). Returns each surface's state, READY flag and blocked-write count. -/
  | surfaceStatus (r : Request)
  /-- MIRROR_STATUS (R243). Returns the Mirror counters of each output. -/
  | mirrorStatus (r : Request)
  /-- PANEL_STATUS (R254). Returns each panel port's state, TE status and counters. -/
  | panelStatus (r : Request)
  /-- ENCODE_CHANNEL_OPEN (R261). Opens an encode channel on a core or ganged pair, and admits its capacity. -/
  | encodeChannelOpen (r : Request)
  /-- ENCODE_CHANNEL_SET (R264). Changes an encode channel's bit rate, effort, refresh period or minimum QP, or forces a refresh. -/
  | encodeChannelSet (r : Request)
  /-- ENCODE_CHANNEL_CLOSE (R266). Closes an encode channel at picture F. -/
  | encodeChannelClose (r : Request)
  /-- PACKETISER_SET (R280). Sets the RTP and TS packetiser options of an encode channel. -/
  | packetiserSet (r : Request)
  /-- ENCODE_HOST_RING_SET (R282). Sets up or disables an encode channel's host-memory DU ring. -/
  | encodeHostRingSet (r : Request)
  /-- DECODE_CHANNEL_OPEN (R305). Opens a decode channel. -/
  | decodeChannelOpen (r : Request)
  /-- DECODE_HOST_RING_SET (R309). Sets up a decode channel's host input ring. -/
  | decodeHostRingSet (r : Request)
  /-- DECODE_CHANNEL_SET (R307). Changes a decode channel's output delay, loss behaviour or loss timeout. -/
  | decodeChannelSet (r : Request)
  /-- DECODE_CHANNEL_CLOSE (R307). Closes a decode channel at source frame F. -/
  | decodeChannelClose (r : Request)
  /-- CHANNEL_STATISTICS (R284). Returns the encode and decode channel statistics and records. -/
  | channelStatistics (r : Request)
  /-- CORE_STATUS (R255). Returns each coding core's mode, channels, charge and gang partner. -/
  | coreStatus (r : Request)
  /-- AUDIO_ROUTE_SET (R329). Sets, changes or removes audio cross-points. -/
  | audioRouteSet (r : Request)
  /-- AUDIO_GAIN_SET (R329). Changes the gain and MUTE of existing cross-points. -/
  | audioGainSet (r : Request)
  /-- TDM_PORT_CONFIGURE (R354). Configures, enables or disables a TDM port. -/
  | tdmPortConfigure (r : Request)
  /-- AUDIO_HOST_RING_SET (R365). Sets up an audio host input or output ring. -/
  | audioHostRingSet (r : Request)
  /-- AUDIO_DESTINATION_SET (R333). Sets an audio destination's group, change mode, timeout, delay and follow flows. -/
  | audioDestinationSet (r : Request)
  /-- AUDIO_SOURCE_SET (R340). Sets an audio source endpoint's ASRC policy, alignment group, playout delay and exact mask. -/
  | audioSourceSet (r : Request)
  /-- AUDIO_SYSTEM_SET (R326). Sets the system audio rate. -/
  | audioSystemSet (r : Request)
  /-- AUDIO_MCLK_SET (R358). Sets the multiple of an AMCLK output or turns it off. -/
  | audioMclkSet (r : Request)
  /-- AUDIO_STATUS (R351). Returns the audio matrix usage, endpoint states and counters. -/
  | audioStatus (r : Request)
  /-- TDM_PORT_STATUS (R368). Returns the state, rates and counters of each TDM port and host ring. -/
  | tdmPortStatus (r : Request)
  /-- NV_COMMIT (R493). Forces a commit of the gather buffer and returns the commit number. -/
  | nvCommit (r : Request)
  /-- APERTURE_SET (R471). Sets the base of the BAR4 HBM aperture. -/
  | apertureSet (r : Request)
  /-- CVU_SCAN (R504). Runs a CRC scan on one of CVU2 to CVU7 and returns its result. -/
  | cvuScan (r : Request)
  /-- NIGHTLIGHT_POLICY_SET (R412). Sets the Nightlight policy of a lane destination to AUTO or EXCLUDE. -/
  | nightlightPolicySet (r : Request)
  /-- MEMORY_QOS_SET (R462). Sets a BULK port's rate cap and the scrub period. -/
  | memoryQosSet (r : Request)
  /-- MEMORY_STATUS (R475). Returns the HBM, port and SRAM status and counters. -/
  | memoryStatus (r : Request)
  /-- NIGHTLIGHT_MAP_READ (R412). Returns the committed Nightlight map and the currently derived one. -/
  | nightlightMapRead (r : Request)
  /-- NV_STATUS (R493). Returns the store's commit number, buffer state, counters and wear. -/
  | nvStatus (r : Request)
  /-- NV_LOG_READ (R493). Returns valid NV event log records by DMA. -/
  | nvLogRead (r : Request)
  /-- CO_CHALLENGE (R432). Returns a nonce for a Crypto Officer response. -/
  | coChallenge (r : Request)
  /-- CO_RESPOND (R432). Verifies a Crypto Officer response and grants the role. -/
  | coRespond (r : Request)
  /-- USER_CHALLENGE (R432). Returns a nonce for a User response. -/
  | userChallenge (r : Request)
  /-- USER_RESPOND (R432). Verifies a User response and grants the role. -/
  | userRespond (r : Request)
  /-- ATTEST (R447). Returns a signed attestation report over a host nonce. -/
  | attest (r : Request)
  /-- STREAM_KEY_ESTABLISH (R448). Runs the OFFER or ACCEPT phase of an authenticated ECDH stream-key exchange. -/
  | streamKeyEstablish (r : Request)
  /-- STREAM_KEY_WITHDRAW (R449). Zeroises the key slot named by a handle. -/
  | streamKeyWithdraw (r : Request)
  /-- ZEROIZE (R452). Performs VOLATILE or DECOMMISSION zeroisation of the Lantern. -/
  | zeroize (r : Request)
  /-- REGISTER_LOCK (R436). Sets or clears the register lock of the PF0 configuration registers. -/
  | registerLock (r : Request)
  /-- USER_KEY_SET (R439). Sets or clears a User key slot. -/
  | userKeySet (r : Request)
  /-- PEER_KEY_SET (R439). Sets or clears a stream peer key slot. -/
  | peerKeySet (r : Request)
  /-- CO_PROVISION (R434). Registers the first Crypto Officer key pair and burns PROVISIONED. -/
  | coProvision (r : Request)
  /-- FUSE_POLICY_SET (R438). Burns a fuse policy, revokes a slot, registers CO slot 1 or raises the fuse security version. -/
  | fusePolicySet (r : Request)
  /-- SELF_TEST_RUN (R451). Runs the Lantern self-tests on demand after the next seal. -/
  | selfTestRun (r : Request)
  /-- LANTERN_STATUS (R456). Returns the Lantern state, fuses, versions, roles and counters. -/
  | lanternStatus (r : Request)
  /-- DEVID_CERT_READ (R446). Returns the DevID and attestation certificate chains. -/
  | devidCertRead (r : Request)
  /-- UNIT_FENCE (R529). Fences a unit by command. -/
  | unitFence (r : Request)
  /-- UNIT_UNFENCE (R531). Tests a fenced unit and unfences it on PASS. -/
  | unitUnfence (r : Request)
  /-- UNIT_TEST (R526). Runs an intrusive unit test, moving the unit's work first under AUTO_FENCE. -/
  | unitTest (r : Request)
  /-- DEVICE_RESTART (R424). Restarts the module in FULL or KEEP_NIGHTLIGHT mode. -/
  | deviceRestart (r : Request)
  /-- EVENT_ROUTE_SET (R523). Sets a PF0 ring's watermark, severity mask and TRACE class mask. -/
  | eventRouteSet (r : Request)
  /-- FENCE_POLICY_SET (R532). Sets the threshold and window of a fencing policy condition. -/
  | fencePolicySet (r : Request)
  /-- HEALTH_STATUS (R523). Returns the event counters per ring, severity and source class. -/
  | healthStatus (r : Request)
  /-- EVENT_CATALOGUE (R519). Returns every event code with its name, severity, class and detail meaning. -/
  | eventCatalogue (r : Request)
  /-- JOURNAL_HEAD (R104). Returns the epoch, chain, JSN bounds, head hash, seal and standing JSNs. -/
  | journalHead (r : Request)
  /-- JOURNAL_READ (R104). Returns journal pages and seals from a start JSN by DMA. -/
  | journalRead (r : Request)
  /-- STATE_SNAPSHOT (R108). Captures and returns an atomic snapshot of device state. -/
  | stateSnapshot (r : Request)
  /-- FIRMWARE_LOAD (R113). Writes a firmware image to the inactive flash slot and has the Lantern verify it. -/
  | firmwareLoad (r : Request)
  /-- FIRMWARE_ACTIVATE (R113). Schedules a live firmware swap at a Dusk line of TG0. -/
  | firmwareActivate (r : Request)
  /-- FIRMWARE_STATUS (R83). Query that returns the firmware update status. -/
  | firmwareStatus (r : Request)
  /-- BOOT_IMAGE_PUSH (R416). Pushes a firmware image to the boot mailbox in WAIT_IMAGE for verification and start. -/
  | bootImagePush (r : Request)
  /-- CASCADE_CONFIGURE (R396). Configures the module's cascade number, topology, time role and links. -/
  | cascadeConfigure (r : Request)
  /-- CASCADE_EXPORT_SET (R402). Sets the timing group of an export slot. -/
  | cascadeExportSet (r : Request)
  /-- CASCADE_STATUS (R406). Returns the cascade configuration, time state, links, exports and remote sources. -/
  | cascadeStatus (r : Request)
  /-- CCP_MB_DOORBELL (R65). A doorbell write submits the mailbox's request, or is ignored and counted when the mailbox is busy. -/
  | ccpMbDoorbell (opcode : BitVec 16) (r : Request)
  /-- LOCKED_REQUEST_BUFFER_WRITE (R65). A host write to a locked request buffer is dropped and counted in BUSY_RINGS. -/
  | lockedRequestBufferWrite (v : View) (m : Nat)
  /-- MAILBOX_TIMEOUT (R69). After 100 ms in SUBMITTED or ACCEPTED the mailbox ends the command with INTERNAL_FAULT. -/
  | mailboxTimeout (v : View) (m : Nat)
  /-- CMD_COMPLETE (R68). Background work of a command answered PENDING finishes, its result is cached and CMD_COMPLETE is written. -/
  | cmdComplete (jsn : Nat)
  /-- SCHEDULED_EFFECT (R48). An armed scheduled command reaches its effect point and takes effect. -/
  | scheduledEffect (jsn part : Nat) (ext : Int)
  /-- SWAP_END (R115). The new firmware completes its takeover, journals the logged decisions and writes SWAP_END. -/
  | swapEnd (mismatch : Bool)
  /-- SWAP_WATCHDOG_EXPIRY (R116). No SWAP_END within 1.5 s, so the Lantern restarts the previous image, which writes SWAP_FAILED. -/
  | swapWatchdogExpiry
  /-- DUSK_FREEZE (R45). At the end of line D the group's configuration for the next picture freezes. -/
  | duskFreeze (g : Nat) (lateHeaders : List Nat)
  /-- CANVAS_COMMIT_EXPIRED (R230). A layer record pending for 64 frames, or overtaken, is discarded. -/
  | canvasCommitExpired (c l : Nat)
  /-- WATCH_DECISION_EFFECT (R180). A watch decision taken at D of F switches the destination at line S of F+1. -/
  | watchDecisionEffect (d : Nat)
  /-- TG_FRAME_START (R35). A timing group starts a frame and its frame count increases by 1. -/
  | tgFrameStart (g : Nat) (f : FrameFacts)
  /-- TG_ENABLE_START (R42). After RSYN locks, a newly enabled group starts at the first frame start at the called-for phase. -/
  | tgEnableStart (g : Nat)
  /-- PTP_SYNC_MESSAGE (R574). A Sync message is received and its offset from master is measured. -/
  | ptpSyncMessage (cand : Nat) (origin correction : Int)
  /-- REFERENCE_LOCKED (R40). A candidate meets its lock criteria and selection is made. -/
  | referenceLocked (cand : Nat) (newTime : Option Nat) (errors : List Int)
  /-- REFERENCE_LOST (R40). A candidate meets its loss criteria and the next locked candidate is selected, or holdover begins. -/
  | referenceLost (cand : Nat) (newTime : Option Nat) (errors : List Int)
  /-- REVERT_HOLD_EXPIRY (R40). A higher-priority candidate has stayed locked for the revert hold and is selected again. -/
  | revertHoldExpiry (cand : Nat) (newTime : Option Nat) (errors : List Int)
  /-- PPS_EDGE (R33). A valid 1PPS edge forces the DT nanosecond field to zero. -/
  | ppsEdge
  /-- SDI_FRAME_RECEIVED (R125). A deframed SDI frame is checked for TRS, CRC and EDH errors and written to its synchroniser. -/
  | sdiFrameReceived (n : Nat) (f : SdiFrame)
  /-- INPUT_LOSS (R150). An input enters LOSS and its synchroniser sends its loss behaviour. -/
  | inputLoss (src reason link : Nat)
  /-- INPUT_RESTORED (R150). An input leaves LOSS after 4 consecutive complete frames. -/
  | inputRestored (src : Nat)
  /-- FLOW_NO_PACKET_TIMEOUT (R150). No valid packet for 2 frame periods puts a receive flow in LOSS. -/
  | flowNoPacketTimeout (n : Nat)
  /-- IP_PACKET_RECEIVED (R140). A packet of a receive flow is taken, merged by sequence number and placed in its frame. -/
  | ipPacketReceived (n leg : Nat) (p : IpPacket)
  /-- MERGE_WINDOW_EXPIRY (R140). A packet missing on both legs is declared lost after the merge window. -/
  | mergeWindowExpiry (n : Nat)
  /-- FLOW_LEG_LOST (R141). No valid packet on a leg for the leg loss timeout makes it LOST. -/
  | flowLegLost (n leg : Nat)
  /-- FLOW_LEG_RESTORED (R141). A leg becomes good again after one timeout with packets. -/
  | flowLegRestored (n leg : Nat)
  /-- MIRROR_CLEAR (R242). Raised after 60 consecutive frames without a mismatch. -/
  | mirrorClear (n : Nat)
  /-- MIRROR_NO_SIGNAL (R242). Raised when an unsquelched output shows no TRS for 2 frame periods. -/
  | mirrorNoSignal (n link : Nat)
  /-- LANE_PASS_LOSS (R162). A lane-path destination takes its loss behaviour when its source unlocks or leaves range. -/
  | lanePassLoss (n : Nat)
  /-- LANE_PASS_RESUME (R162). A lane-path destination resumes passing 1 ms after its source is locked and in range again. -/
  | lanePassResume (n : Nat)
  /-- SURFACE_LAST_USE_PASSED (R235). When a surface's last use passes, an AFTERGLOW surface is freed and an ACTIVE one returns to IDLE. -/
  | surfaceLastUsePassed (h : Nat)
  /-- FLATTEN_BUILD_COMPLETE (R234). The flattened image is built and used from the next frame whose Dusk line follows. -/
  | flattenBuildComplete (c : Nat)
  /-- PANEL_TE_EDGE (R250). A TE edge after a completed fill starts a push of the dirty regions. -/
  | panelTeEdge (n : Nat)
  /-- PANEL_INTERNAL_TICK (R250). Under NONE or lost TE a push starts at the internal tick. -/
  | panelInternalTick (n : Nat)
  /-- PANEL_PUSH_COMPLETE (R250). A push completes and its tiles' dirty marks are cleared. -/
  | panelPushComplete (n : Nat)
  /-- PANEL_TE_LOST (R252). No TE edge for 2 nominal periods switches the port to the internal tick. -/
  | panelTeLost (n : Nat)
  /-- PANEL_STRETCH_ENTRY (R253). N static frames without a dirty tile put the port in STRETCHED and send the IDLE sequence. -/
  | panelStretchEntry (n : Nat)
  /-- ENCODE_DU_READY (R267). A DU's last source line is in memory and it enters the row pipeline. -/
  | encodeDuReady (n number r : Nat)
  /-- ENCODE_DU_ANALYSIS_START (R298). At the start of a DU's analysis period its input is checked and late input is coded as repeat or floor. -/
  | encodeDuAnalysisStart (n number r complexity : Nat)
  /-- ENCODE_DU_DECISION (R293). The decision stage computes the DU limit and tests each CTU against it. -/
  | encodeDuDecision (n number r : Nat) (left right : List Nat) (qp : Nat)
  /-- ENCODE_DU_CLOSE (R287). A DU is closed, padded with filler in CBR and handed to the packetiser. -/
  | encodeDuClose (n number r packets consumer : Nat)
  /-- CODING_CORE_FAULT (R271). A hard core fault sends floor slices for the rest of the picture and moves or stops its channels. -/
  | codingCoreFault (core : Nat)
  /-- DECODE_DATA_ARRIVAL (R313). Coded data arrive in the de-jitter buffer and are parsed into NAL units. -/
  | decodeDataArrival (n : Nat) (x : CodedData)
  /-- REORDER_WINDOW_EXPIRY (R308). A missing RTP sequence number is declared lost one reorder window after a later packet. -/
  | reorderWindowExpiry (n : Nat)
  /-- DECODE_HOST_RING_POLL (R309). The device reads the decode host ring's producer index at least every 100 µs. -/
  | decodeHostRingPoll (n producer : Nat)
  /-- DECODE_PICTURE_DONE (R311). A picture finishes decoding and waits in its buffer. -/
  | decodePictureDone (n : Nat)
  /-- DECODE_DEADLINE (R316). A picture not complete at its deadline is concealed and the previous picture is repeated. -/
  | decodeDeadline (n ctus : Nat)
  /-- DECODE_LOSS_TIMEOUT (R321). A decoder source is HOLDING, STOPPED or without a new picture for the loss timeout and enters LOSS. -/
  | decodeLossTimeout (n : Nat)
  /-- DECODER_CORE_FAULT (R320). A hard core fault treats the picture as absent and moves or stops the decode channel. -/
  | decoderCoreFault (core : Nat)
  /-- AUDIO_BLOCK (R337). A 1 ms audio block begins where the DT nanosecond field is a multiple of 1,000,000. -/
  | audioBlock (n : Nat) (ins : List AudioIn) (recs : List AudioRecord) (consumers : List (Nat × Nat))
  /-- AUDIO_SYNC_WINDOW (R339). Each 10 s window measures an endpoint's drift against DT. -/
  | audioSyncWindow (e : Nat) (drift ratio : Int)
  /-- EXACT_SLIP_DUE (R342). A buffer deviation of 1.5 samples makes an exact channel drop or repeat a sample. -/
  | exactSlipDue (e : Nat)
  /-- NON_AUDIO_GAP_SLIP (R344). A deferred slip of a NON_AUDIO pair is made in its next gap. -/
  | nonAudioGapSlip (e pair : Nat)
  /-- AUDIO_BURST_SLIP (R344). No gap within 40 ms, so the slip is made inside a burst. -/
  | audioBurstSlip (e pair : Nat)
  /-- NON_AUDIO_RETURN_PCM (R344). A pair returns to PCM after 200 ms with no indication. -/
  | nonAudioReturnPcm (e pair : Nat)
  /-- AUDIO_CHANGE_DUE (R346). A route, gain, follow or delay change falls due and is applied at a zero crossing. -/
  | audioChangeDue (d ch : Nat)
  /-- ZERO_CROSS_TIMEOUT (R346). No zero crossing within the timeout, so the change is made with a 64-sample crossfade. -/
  | zeroCrossTimeout (d ch : Nat)
  /-- TDM_FRAME_RECEIVED (R360). A slave port frame is received and judged good or bad. -/
  | tdmFrameReceived (n fault hz : Nat)
  /-- CLOCK_LOST (R361). No BCLK or FSYNC for the threshold mutes a slave port. -/
  | clockLost (n : Nat)
  /-- TDM_RATE_WINDOW (R360). Each 1,024-frame window measures the port's frame rate against DT. -/
  | tdmRateWindow (n hz : Nat)
  /-- RATE_CHANGED (R362). Re-measurement over 1,024 samples completes and an allowed rate becomes nominal. -/
  | rateChanged (n hz : Nat)
  /-- TDM_FADE_IN_COMPLETE (R363). A 64-sample unmute fade ends. -/
  | tdmFadeInComplete (n : Nat)
  /-- MCLK_RESTART (R358). After 1 µs low an MCLK output restarts on a whole period at its new multiple. -/
  | mclkRestart (o : Nat)
  /-- LANE_SIGNAL_PRESENT (R384). Signal appears on a lane and an attempt begins once every lane of the unit has signal. -/
  | laneSignalPresent (n : Nat)
  /-- LANE_SIGNAL_LOST (R384). Amplitude below 40 mVppd for 100 µs aborts an attempt or takes the unit out of UP. -/
  | laneSignalLost (n : Nat)
  /-- LANE_UP (R385). A training attempt completes its last phase and the unit enters UP. -/
  | laneUp (n iface family : Nat) (offset : Int) (ctle : Nat) (dfe : List Int)
  /-- TRAINING_ATTEMPT_TIMEOUT (R385). An attempt timer expires, the attempt is counted and the unit enters BACKOFF or FAILED. -/
  | trainingAttemptTimeout (n phase : Nat) (skews : List Nat)
  /-- BACKOFF_EXPIRY (R385). The backoff time ends and a new attempt begins. -/
  | backoffExpiry (n : Nat)
  /-- LANE_DOWN (R385). Loss of CDR, block or marker lock in UP starts a new attempt. -/
  | laneDown (n : Nat)
  /-- LANE_HI_BER (R379). A high bit error rate signals a link fault to the MAC. -/
  | laneHiBer (n : Nat)
  /-- EYE_MONITOR_REPORT (R377). Every 100 ms the eye monitor reports the eye openings. -/
  | eyeMonitorReport (n h v : Nat)
  /-- PRBS_CHECKER_LOCK (R389). The checker locks after 1,024 error-free bits, or loses lock and reseeds. -/
  | prbsCheckerLock (n : Nat) (locked : Bool) (bitsIn errors : Nat)
  /-- CASCADE_HELLO (R398). A HELLO packet is exchanged in the NEGOTIATE phase. -/
  | cascadeHello (k id peer versions : Nat) (isMaster : Bool)
  /-- CASCADE_TIME_PACKET (R400). A follower receives a TIME packet, answers with TIME_ECHO and forwards time. -/
  | cascadeTimePacket (k origin hops dep delay : Nat)
  /-- CASCADE_TIME_ECHO (R400). A TIME_ECHO is received and the one-way delay is computed. -/
  | cascadeTimeEcho (k trip turn : Nat)
  /-- CASCADE_TIME_TICK (R400). The master sends a TIME packet on every link at each DT millisecond. -/
  | cascadeTimeTick
  /-- CASCADE_TIME_LOST (R401). No TIME packet for 10 ms returns the module to its own candidates. -/
  | cascadeTimeLost (newTime : Option Nat) (sdiRate : Nat) (errors : List Int)
  /-- CASCADE_CONTROL_PACKET (R403). A CONTROL packet subscribes to an export, subject to link admission. -/
  | cascadeControlPacket (k : Nat) (m : ControlMsg)
  /-- CASCADE_MEDIA_PACKET (R397). A VIDEO, ANCILLARY or AUDIO packet is received, CRC-checked and delivered or forwarded. -/
  | cascadeMediaPacket (k : Nat) (p : MediaPacket)
  /-- CASCADE_PATH_CHANGED (R405). A subscription is moved to a new path at the next frame start of its export's group. -/
  | cascadePathChanged (origin slot taker : Nat) (link : Option Nat) (hops : Nat)
  /-- PORST_N_ASSERT (R424). PORST_N assertion of at least 10 µs resets the module. -/
  | porstNAssert
  /-- PORST_N_RELEASE (R407). Release of PORST_N starts the staged start-up. -/
  | porstNRelease
  /-- MRAM_READABLE (R407). At 0.2 ms the boot sequencer reads and checks the Nightlight map. -/
  | mramReadable (bad : List (Nat × Bool))
  /-- NIGHTLIGHT_SOURCE_LOCK (R413). A pass source locks and the pass goes live. -/
  | nightlightSourceLock (d : Nat) (backup : Bool)
  /-- NIGHTLIGHT_PRIMARY_TIMEOUT (R414). The primary has not locked within 20 ms, so a locked backup is chosen. -/
  | nightlightPrimaryTimeout (d : Nat)
  /-- NIGHTLIGHT_SOURCE_SWITCH (R414). The selected source loses lock and the pass switches once to the other source. -/
  | nightlightSourceSwitch (d : Nat)
  /-- PCIE_LINK_UP (R415). The PCIe link reaches L0 and BAR0 exposes the identity block and boot mailbox. -/
  | pcieLinkUp
  /-- PCIE_PERST_N_ASSERT (R560). PCIE_PERST_N resets only the PCIe endpoint and both functions as at FLR. -/
  | pciePerstNAssert
  /-- FUNCTION_LEVEL_RESET (R90). An FLR closes the function's sessions and returns its mailboxes and rings to reset. -/
  | functionLevelReset (v : View)
  /-- LANTERN_SELF_TEST_DONE (R450). The power-up self-tests complete and the Lantern verifies stage 1. -/
  | lanternSelfTestDone (pass : Bool)
  /-- COMPONENT_VERIFY_FAILED (R443). A stage 1 reports a failed component and the Lantern starts the other slot. -/
  | componentVerifyFailed
  /-- HBM_TRAINED (R419). HBM training completes, failed stacks are fenced and CPC firmware starts. -/
  | hbmTrained (failed : List Nat)
  /-- FIRMWARE_START (R420). Firmware increments the epoch, writes JOURNAL_START and restores the standing configuration. -/
  | firmwareStart (badHmac : List Nat) (badCells : List (Nat × Nat))
  /-- FULL_FUNCTION (R407). The device reaches RUNNING or DIMMED and adoption of the passes begins. -/
  | fullFunction
  /-- NIGHTLIGHT_ADOPT (R421). A live pass is adopted by the lane path, a clean switch or a hot cut. -/
  | nightlightAdopt (d : Nat) (lines : Int) (within : Bool)
  /-- ADOPTION_JOIN (R422). The follow raster reaches the group's phase and the destination joins its group. -/
  | adoptionJoin (d : Nat)
  /-- POWER_FAIL_N_ASSERT (R490). POWER_FAIL_N makes the MRAM controller finish counter writes and commit the buffer at once. -/
  | powerFailNAssert
  /-- POWER_FAIL_N_RELEASE (R491). POWER_FAIL_N high for 10 ms resumes gathering. -/
  | powerFailNRelease
  /-- RAIL_OUT_OF_TOLERANCE (R559). A rail out of tolerance for more than 10 µs resets the module as PORST_N does. -/
  | railOutOfTolerance
  /-- ZEROIZE_N_LOW (R453). ZEROIZE_N low for 1 µs performs VOLATILE zeroisation. -/
  | zeroizeNLow
  /-- ZEROIZE_GLITCH (R453). A low pulse of 100 ns to 1 µs is counted and raised as a glitch. -/
  | zeroizeGlitch
  /-- ZEROISATION_COMPLETE (R453). CSPs are overwritten, the ball is high and the Lantern returns to OPERATIONAL. -/
  | zeroisationComplete
  /-- LANTERN_ERROR (R455). A self-test, entropy, environmental, fuse or processor fault puts the Lantern in ERROR. -/
  | lanternError (cause : Nat)
  /-- ENTROPY_HEALTH_TEST (R450). The continuous repetition and proportion tests check each entropy sample. -/
  | entropyHealthTest (pass : Bool)
  /-- ENVIRONMENTAL_FAILURE (R429). The Lantern's supply or temperature leaves its window and it zeroises. -/
  | environmentalFailure
  /-- AUTH_LOCKOUT_EXPIRY (R433). The 10-minute lockout of a role's responses ends. -/
  | authLockoutExpiry (officer : Bool)
  /-- EXCHANGE_EXPIRY (R448). A key exchange expires 30 s after its OFFER. -/
  | exchangeExpiry (id : Nat)
  /-- STREAM_KEY_REKEY_DUE (R449). Raised when a slot has protected 2^31 packets. -/
  | streamKeyRekeyDue (slot : Nat)
  /-- STREAM_KEY_EXPIRED (R449). A slot that has protected 2^32 packets is withdrawn. -/
  | streamKeyExpired (slot : Nat)
  /-- RECEIVE_KEY_OVERLAP_END (R449). After 1 s a receive flow stops accepting its old key. -/
  | receiveKeyOverlapEnd (n : Nat)
  /-- SEAL_TICK (R101). Once per Lantern second the open page may close and a seal is made and anchored. -/
  | sealTick
  /-- NV_GATHER_AGE_EXPIRY (R484). The oldest gathered entry reaches 100 ms and a commit starts. -/
  | nvGatherAgeExpiry
  /-- NV_SPACING_EXPIRY (R484). The 50 ms spacing after a flip ends and a waiting commit starts. -/
  | nvSpacingExpiry
  /-- NV_FLIP (R485). Phase 1 completes, the directory entry is written and the repair writes follow. -/
  | nvFlip
  /-- THERMAL_SAMPLE (R533). Every 10 ms Tj is sampled and thermal steps are entered. -/
  | thermalSample (tj : Int)
  /-- THERMAL_STEP_LEFT (R533). Tj has stayed 1 °C below a step's entry for 1 s and the step is left. -/
  | thermalStepLeft
  /-- THERMAL_RETREAT_EXIT (R426). After 10 s at or below 100 °C the stopped units restart and passes are adopted. -/
  | thermalRetreatExit
  /-- THERMAL_TRIP (R534). At 120 °C hardware disables transmitters, stops clocks and asserts THERM_TRIP_N. -/
  | thermalTrip (tj : Int)
  /-- HBM_REFRESH_INTERVAL (R463). A refresh interval ends and each bank's owed count increases. -/
  | hbmRefreshInterval (h : Nat)
  /-- HBM_TEMP_READ (R463). Every 100 µs the stack temperature is read and the refresh rate doubles or returns. -/
  | hbmTempRead (h : Nat) (temp : Int)
  /-- BULK_CAP_WINDOW (R462). Each 10 µs window resets the BULK rate caps. -/
  | bulkCapWindow (p : Nat)
  /-- HBM_READ_COMPLETE (R466). An HBM read completes and its data are checked by ECC and delivered. -/
  | hbmReadComplete (p addr len age : Nat) (corrected : List Nat) (poisoned : List Nat) (reader : Reader)
  /-- SCRUB_READ (R467). Background scrub reads a granule and records weak words. -/
  | scrubRead (corrected : List Nat) (poisoned : List Nat)
  /-- HBM_STACK_FENCED (R469). A stack is fenced, requests stop and HBM objects are re-created in the new map. -/
  | hbmStackFenced (h : Nat)
  /-- HBM_REBUILD_COMPLETE (R469). Re-creation completes and units write afresh from the next frame start. -/
  | hbmRebuildComplete
  /-- SRAM_BANK_WAKE (R473). A bank in retention finishes waking and stalled accesses proceed. -/
  | sramBankWake (b stalled : Nat)
  /-- SRAM_ECC_UNCORRECTABLE (R474). A double-bit SRAM error is handled by the bank's use. -/
  | sramEccUncorrectable (b master addr : Nat) (write : Bool) (tiles : List Nat)
  /-- AUTO_FENCE_MOVE (R528). At a frame or picture boundary the unit's work moves to a spare and the unit is fenced for its test. -/
  | autoFenceMove (c i : Nat)
  /-- UNIT_TEST_COMPLETE (R528). A unit test ends, and the unit is unfenced on PASS or left fenced on FAIL. -/
  | unitTestComplete (c i : Nat) (pass : Bool) (failing : Nat)
  /-- HARD_FAULT_FENCE (R530). A hard fault fences a unit at once and its work is handled by class. -/
  | hardFaultFence (c i : Nat)
  /-- COMMANDED_FENCE_EFFECT (R529). A commanded fence takes effect at the frame start after its Dusk line. -/
  | commandedFenceEffect (jsn : Nat)
  /-- PLL_LOCK_LOST (R512). A loop loses lock and enters holdover at the frozen word. -/
  | pllLockLost (p : Nat)
  /-- PLL_RELOCKED (R513). A PLL in holdover relocks and moves to the loop word in small steps. -/
  | pllRelocked (p : Nat) (word error : Int)
  /-- ECLIPSE_END (R514). The loop locks at the new word and after 50 µs the gates open. -/
  | eclipseEnd (p : Nat)
  /-- GLIDE_STEP (R514). A Glide moves the tuning word by at most 1,000 ppm once the loop has settled. -/
  | glideStep (p : Nat)
  /-- PLL_FAILED (R515). An Eclipse not locked after 3 lock periods enters FAILED and retries every 1 s. -/
  | pllFailed (p : Nat)
  /-- PLL_FAILED_RETRY (R515). A FAILED loop tries again to lock every 1 s. -/
  | pllFailedRetry (p : Nat) (locks : Bool)
  /-- GLINT (R516). A short or missing edge on an external clock input is reported and ignored by the loop. -/
  | glint (input : Nat) (isMissing : Bool)
  /-- SYS_XO_LOST (R516). SYS_XO is lost and every PLL enters holdover on its own oscillator. -/
  | sysXoLost
  /-- AO_XO_LOST (R516). AO_XO is lost and the always-on domain switches to its internal oscillator. -/
  | aoXoLost
  /-- CVU_START (R498). CVU_START checks the configuration and begins a scan. -/
  | cvuStart (fw : Bool) (n ctrl : Nat)
  /-- CVU_ABORT (R499). CVU_ABORT ends a scan in progress as ABORTED. -/
  | cvuAbort (fw : Bool) (n k : Nat) (data : Bytes)
  /-- CVU_SCAN_END (R499). A scan ends COMPLETE or ERROR, compares its result and may interrupt. -/
  | cvuScanEnd (n : Nat) (data : Bytes) (error : Option Nat)
  /-- EVR_ENABLE (R549). A write of 1 to EVR_ENABLE checks the ring settings and starts the ring. -/
  | evrEnable (v : View) (r : Nat)
  /-- EVR_DISABLE (R549). Clearing EVR_ENABLE stops writing after the record in progress. -/
  | evrDisable (v : View) (r : Nat)
  /-- EVR_CONSUMER_WRITE (R549). A consumer index write frees space or is ignored as invalid. -/
  | evrConsumerWrite (v : View) (r value : Nat)
  /-- EVR_MODERATION_WRITE (R94). A moderation write sets the count and holdoff or is refused. -/
  | evrModerationWrite (v : View) (r count holdoff : Nat)
  /-- MODERATION_HOLDOFF_EXPIRY (R94). The holdoff time since the first unsignalled record passes and the vector is sent. -/
  | moderationHoldoffExpiry (r : Nat)
  /-- COALESCE_WINDOW_CLOSE (R520). A 100 ms coalescing window closes and one coalesced record is written. -/
  | coalesceWindowClose (n : Machine.EventName) (src : Machine.Src) (failRing : Option Nat)
  /-- EVENT_SUMMARY (R522). At most every 100 ms a summary of replaced or dropped records is written. -/
  | eventSummary (r : Nat) (failRing : Bool)
  /-- HELD_CRITICAL_WRITE (R522). Held CRITICAL records are written oldest first as ring space frees. -/
  | heldCriticalWrite (r : Nat) (failRing : Bool)
  /-- HRT_DT_LO_READ (R539). A read of HRT_DT_LO latches HRT_DT_HI for the reading master. -/
  | hrtDtLoRead (master n : Nat)
  /-- HRT_TG_FRAME_READ (R539). A read of HRT_TG_FRAME latches the group's HRT_TG_POS for the reading master. -/
  | hrtTgFrameRead (master g n : Nat)
  /-- DIRECT_CONFIG_WRITE (R542). A direct write to a lockable configuration register changes the setting and is logged and journalled. -/
  | directConfigWrite (master off : Nat) (data : Bytes)
  /-- DECODE_ERROR_ACCESS (R544). An access no target decodes returns zero or is dropped and logged in the fault log. -/
  | decodeErrorAccess (master addr n : Nat) (write : Bool)
  /-- LOCK_FORCED_RELEASE (R545). A locked sequence holding its target 64 cycles is released by force. -/
  | lockForcedRelease (master addr : Nat) (write : Bool)
  /-- APERTURE_WRITE (R471). A host write through the BAR4 aperture is performed into an IDLE surface or dropped. -/
  | apertureWrite (offset : Nat) (data : Bytes)
  /-- APERTURE_READ (R471). A host read through the aperture returns surface bytes or zero. -/
  | apertureRead (offset n : Nat)
  /-- GENERIC_REGISTER_WRITE (R538). A write to a register with no row of its own is applied by its access code or dropped by width. -/
  | genericRegisterWrite (master off : Nat) (data : Bytes)
  /-- DONE_WITH_PENDING (R68). A command whose work is still running 10 ms after acceptance reaches DONE with status PENDING while its work continues in the background. -/
  | doneWithPending (v : View) (m : Nat)
  /-- PTP_DELAY_RESPONSE (R574). A delay response of the end-to-end delay request-response mechanism is received and the mean path delay used by the offset is updated. -/
  | ptpDelayResponse (cand : Nat) (delay : Int)
  /-- ARP_NDP_ICMP_ECHO (R132). An ARP, NDP or ICMP echo request arriving on an Ethernet port is answered by firmware. -/
  | arpNdpIcmpEcho (port : Nat)
  /-- PANEL_SEQUENCE_DELAY_EXPIRY (R247). A wait of the panel enable or disable sequence, or the delay after a sequence entry, expires and the port sends the next command or drives PPn_RESET_N. -/
  | panelSequenceDelayExpiry (n : Nat)
  /-- PER_BANK_REFRESH_COMPLETE (R465). A per-bank refresh ends after 200 ns, the bank's owed count falls, and the bank may leave CATCH-UP or FORCED. -/
  | perBankRefreshComplete (h bank : Nat)
  /-- LAST_DU_LEFT (R266). After ENCODE_CHANNEL_CLOSE the packetiser sends the last DU of the channel, and its pool buffers become UNUSED and its rings are freed. -/
  | lastDuLeft (n : Nat)
  /-- RAIL_GOOD_RESTART (R559). After a rail excursion has reset the module, every rail has been good for 1 ms with PORST_N high, and the module starts again under R407. -/
  | railGoodRestart
  /-- JTAG_TAP_OPERATION (R567). A JTAG instruction is shifted in and run, and while PORST_N is high only BYPASS, IDCODE and SAMPLE take effect. -/
  | jtagTapOperation (i : JtagInstr)
  deriving DecidableEq, Repr

end Sys2Proof
end

