-- ==== Sys2Proof/Decode.lean ====
section
/-! DEFINITION. The commands that a word spells: spec/opcode_table.json gives no row any bits, so no word spells one. -/

namespace Sys2Proof

/-- The command that a word of so many bits spells by the bits of the table. -/
def decodeTableWord (_nbits _w : Nat) : Option Instr := none

end Sys2Proof
end

