-- ==== Sys2Proof/Config.lean ====
section
/-! DEFINITION. The values the spec leaves open and the functions it names by another standard.
Every constant here is opaque: nothing in Lean can see a value of it, so a statement that mentions
one holds for every value. -/

namespace Sys2Proof.Config

/-- A value the spec leaves open, the n-th of a run; `n` is the counter `State.freeCount`
(log entry 3). -/
opaque freeValue : Nat → Nat

/-- SHA-384 of a byte string (FIPS 180-4, named by R73, R98, R100, R101, R110). -/
opaque sha384 : List (BitVec 8) → BitVec 384

/-- The low byte of the event code that EVENT_CATALOGUE gives an event whose code the spec does
not state (R519): the n-th name of the model's catalogue. -/
opaque eventCodeLow : Nat → BitVec 8

/-- The detail field of an event whose detail the spec does not lay out (R518, R519): by the event, its source class and index,
and the number that the spec says the event reports, or 0. -/
opaque eventDetail : Nat → Nat → Nat → Nat → Nat

/-- An ECDSA P-384 signature by the attestation key of a security version and an authority slot over a digest (R101, R446). -/
opaque ecdsaSign : Nat → Nat → BitVec 384 → BitVec 768

/-- Whether an ECDSA P-384 signature verifies under a public key (R432, R441). -/
opaque ecdsaVerify : List (BitVec 8) → BitVec 384 → BitVec 768 → Bool

/-- Whether an ML-DSA-87 signature verifies under a public key (R441). -/
opaque mldsaVerify : List (BitVec 8) → List (BitVec 8) → List (BitVec 8) → Bool

/-- HMAC-SHA-384 of a message under a key. -/
opaque hmac384 : BitVec 384 → List (BitVec 8) → BitVec 384

/-- A response payload whose layout the spec does not give: the bytes of the values it lists, for an
opcode. -/
opaque layout : Nat → List Int → List (BitVec 8)

/-- The VCO frequency of a raster synthesiser over its word clock, for a raster and rate (R505 gives
the VCO's range only). -/
opaque rsynRatio : Nat → Nat → Nat

/-- The n-th output of the Lantern's random bit generator, 384 bits. -/
opaque drbg : Nat → BitVec 384

/-- The transmit rate in bit/s of a flow by its 152-byte configuration and the bit rate of its coding
channel, packet headers included: the packet sizes are those of the flow's standard (R134, R143). -/
opaque flowRate : List (BitVec 8) → Nat → Nat

/-- The room for ancillary packets in the HANC (0) or VANC (1) of a line, in words, by raster and rate code: the standards
of the rasters give it (R130, R208). -/
opaque ancRoom : Nat → Nat → Nat → Nat → Nat

/-- The packets that a frame takes on a transmit flow, by its 152-byte configuration: the packing of its standard gives them
(R137). -/
opaque flowPackets : List (BitVec 8) → Nat

/-- The bits that the header task places in DU 0 of a refresh, by the 48-byte configuration of the encode
channel (R290, R294). -/
opaque headerBits : List (BitVec 8) → Nat

/-- The bits that the header task places in a DU, by the configuration, the picture's number and the DU's
index (R290). -/
opaque duHeaderBits : List (BitVec 8) → Nat → Nat → Nat

/-- The profile, level and tier of a channel's configuration allow its picture size, sample rate, bit rate and
tiles, by the standard that R259 names. -/
opaque levelAllows : List (BitVec 8) → Bool

/-- A sample times the linear gain of a setting in 0.01 dB other than 0 (R330): the spec does not say how the gain is
rounded. -/
opaque gained : Int → Int → Int

/-- The protocol majors, with their minors, that the firmware of a build serves (R77). -/
opaque majorsOf : Nat → List (Nat × Nat)

/-- A pair of coordinates is a point of P-384 (R439). -/
opaque onCurve : List (BitVec 8) → Bool

/-- SHA-384 of the DevID P-384 public key (R447). -/
opaque devidHash : BitVec 384

/-- SHA-384 of the attestation P-384 public key of a security version and an authority slot (R446). -/
opaque attestHash : Nat → Nat → BitVec 384

/-- The n-th ephemeral P-384 public key of the Lantern (R448): 96 bytes. -/
opaque ephemeral : Nat → BitVec 768

/-- An ML-DSA-87 signature by the attestation key of a security version and an authority slot (R447): 4,627 bytes. -/
opaque mldsaSign : Nat → Nat → List (BitVec 8) → List (BitVec 8)

/-- The bytes that a record of the non-volatile store takes for a standing configuration with a given standing JSN (R477). -/
opaque standingBytes : Nat → Nat

/-- The standing records that the configuration would need after the effect of a command at its largest size (R478): by
opcode, arguments and the standing JSN queued last. How firmware packs them is not given. -/
opaque standingNeeds : Nat → List (BitVec 8) → Nat → Nat

/-- What a register whose bit layout the spec does not give (R552) reads: by block, instance and index in the instance, from
the values that its owning chapter defines. -/
opaque register : Nat → Nat → Nat → List Int → Nat

/-- The settings in a value of PLL_OUTPUT (R542), whose bit layout the spec does not give: divider, phase delay and enable
of an RSYN's output 1, or the phase delays of an ASYN's outputs 2 and 3. -/
opaque pllOutput : Nat → Nat → Nat × Nat × Nat

/-- Bits [31:28] of IDCODE, by stepping letter and digit (R567): how the stepping is coded there is not given. -/
opaque idStepping : Nat → Nat → Nat

/-- Bits [11:0] of IDCODE (R567), which the spec does not give. -/
opaque idLow : Nat

end Sys2Proof.Config
end

