-- ==== Sys2Proof/Machine/Operands.lean ====
section
/-! DEFINITION. The operand forms: byte order and the fields of payloads (R8: every structure the device defines is
little-endian), the two's-complement readings, and sparse tables. -/

namespace Sys2Proof.Machine

/-- The byte at an offset; past the end, zero. -/
def u8 (b : Bytes) (o : Nat) : Nat := (b.getD o 0).toNat

/-- The n-byte little-endian field at an offset (R8). -/
def ule (b : Bytes) (o : Nat) : Nat → Nat
  | 0 => 0
  | n + 1 => u8 b o + 256 * ule b (o + 1) n

/-- A u16 field (R8). -/
def u16 (b : Bytes) (o : Nat) : Nat := ule b o 2
/-- A u32 field (R8). -/
def u32 (b : Bytes) (o : Nat) : Nat := ule b o 4
/-- A u48 field (R8). -/
def u48 (b : Bytes) (o : Nat) : Nat := ule b o 6
/-- A u64 field (R8). -/
def u64 (b : Bytes) (o : Nat) : Nat := ule b o 8

/-- The two's-complement reading of an n-bit value. -/
def toSigned (n v : Nat) : Int := if v < 2 ^ (n - 1) then (v : Int) else (v : Int) - 2 ^ n

/-- An i8 field. -/
def i8 (b : Bytes) (o : Nat) : Int := toSigned 8 (u8 b o)
/-- An i16 field. -/
def i16 (b : Bytes) (o : Nat) : Int := toSigned 16 (u16 b o)
/-- An i32 field. -/
def i32 (b : Bytes) (o : Nat) : Int := toSigned 32 (u32 b o)

/-- n bytes, little-endian, of a number; higher bits are dropped (R8). -/
def le : Nat → Nat → Bytes
  | 0, _ => []
  | n + 1, v => BitVec.ofNat 8 v :: le n (v / 256)

/-- n bytes of zero. -/
def zeros (n : Nat) : Bytes := List.replicate n 0

/-- The n-bit two's-complement code of an integer. -/
def ofSigned (n : Nat) (v : Int) : Nat := (v % (2 ^ n : Int)).toNat

/-- The n bytes from an offset; past the end, zeros. -/
def slice (b : Bytes) (o n : Nat) : Bytes :=
  let t := (b.drop o).take n
  t ++ zeros (n - t.length)

/-- Whether the n bytes from an offset are all zero (a reserved field, R9). -/
def zeroAt (b : Bytes) (o n : Nat) : Bool := (slice b o n).all (· == 0)

/-- Whether every reserved field of a list (offset, size) is zero (R9). -/
def zeroFields (b : Bytes) (fs : List (Nat × Nat)) : Bool := fs.all fun f => zeroAt b f.1 f.2

/-- One bit of a number. -/
def bit (v k : Nat) : Bool := v / 2 ^ k % 2 == 1

/-- The bits [hi:lo] of a number. -/
def bits (v hi lo : Nat) : Nat := v / 2 ^ lo % 2 ^ (hi + 1 - lo)

/-- A truth value as a bit. -/
def b2n (b : Bool) : Nat := if b then 1 else 0

/-- A byte string cut or padded with zeros to n bytes. -/
def padTo (n : Nat) (b : Bytes) : Bytes := slice b 0 n

/-- The 48 bytes of a SHA-384 digest, first byte first. -/
def digestBytes (d : BitVec 384) : Bytes := (le 48 d.toNat).reverse

/-- The number a 48-byte field names, first byte most significant. -/
def digestOf (b : Bytes) : BitVec 384 := BitVec.ofNat 384 (ule b.reverse 0 48)

/-- The smallest whole number not below a / b. -/
def ceilDiv (a b : Nat) : Nat := (a + b - 1) / b

/-! ## Sparse tables -/

/-- The record at an index; an unlisted index holds the reset record `d`. -/
def tabGet {α : Type} (t : Tab α) (k : Nat) (d : α) : α :=
  match t with
  | [] => d
  | (i, v) :: r => if k = i then v else tabGet r k d

/-- Put a record at an index, indices kept rising. -/
def tabPut {α : Type} (t : Tab α) (k : Nat) (v : α) : Tab α :=
  match t with
  | [] => [(k, v)]
  | (i, w) :: r =>
    if k < i then (k, v) :: (i, w) :: r
    else if k = i then (k, v) :: r
    else (i, w) :: tabPut r k v

/-- Drop an index: it holds its reset record again. -/
def tabDrop {α : Type} (t : Tab α) (k : Nat) : Tab α := t.filter fun e => e.1 != k

/-- Whether an index is listed. -/
def tabHas {α : Type} (t : Tab α) (k : Nat) : Bool := t.any fun e => e.1 == k

/-- Change every listed record. -/
def tabMap {α : Type} (f : Nat → α → α) (t : Tab α) : Tab α := t.map fun e => (e.1, f e.1 e.2)

end Sys2Proof.Machine
end

