-- ==== Sys2Proof/Machine/Records/Base.lean ====
section
/-! DEFINITION. State records of the part, of house time, of the command protocol, of the journal and
of the event rings. A field's first line says its width, the rule that names it and its value at
reset; DC n is a DESIGN CHOICE and PR n a PRESUMED value of log entry n. -/

namespace Sys2Proof.Machine

/-! ## Part -/

/-- The feature codes of R3. -/
inductive Feature where
  | e
  | x
  | a
  deriving DecidableEq, Repr

/-- What the part is: never changed by a command. -/
structure Part where
  /-- 2 bits; 00 R3, 24 R547 ID_PART_FEATURE; reset DC 5 E. -/
  feature : Feature := .e
  /-- 2 bits; 00 R3, 24 R547 ID_PART_GRADE, 0 C, 1 I; reset DC 5 1. -/
  grade : Nat := 1
  /-- 4 bits; 24 R547 ID_STEPPING_LETTER, 0 = A; reset DC 5 1 (B). -/
  steppingLetter : Nat := 1
  /-- 4 bits; 24 R547 ID_STEPPING_DIGIT; reset DC 5 0. -/
  steppingDigit : Nat := 0
  /-- 128 bits; 24 R547 ID_SERIAL_LO and ID_SERIAL_HI; reset DC 5 0. -/
  serial : Nat := 0
  /-- 48 bits; 24 R547 ID_MAC_BASE; reset DC 5 0. -/
  macBase : Nat := 0
  /-- list of (class, index); 00 R5 units fused off; reset DC 5 none. -/
  fusedOff : List (Nat × Nat) := []
  deriving DecidableEq, Repr

/-! ## House time -/

/-- A position in a timing group's raster (R34). -/
structure Hrt where
  /-- 48 bits; 02 R34. -/
  frame : Nat
  /-- 16 bits; 02 R34: from 1. -/
  line : Nat
  /-- 16 bits; 02 R34: from 0. -/
  sample : Nat
  deriving DecidableEq, Repr

/-- Group states of R40. -/
inductive TgState where
  | disabled
  | freerun
  | locked
  | holdover
  | slewing
  deriving DecidableEq, Repr

/-- One timing group (R37, R550). -/
structure Tg where
  /-- 1 bit; 24 R550 HRT_TG_ENABLED; reset TG0 1, others 0 (R37). -/
  enabled : Bool := false
  /-- 4 bits; 24 R550 HRT_TG_RASTER; reset TG0 4, others 0. -/
  raster : Nat := 0
  /-- 4 bits; 24 R550 HRT_TG_RATE; reset TG0 6, others 0. -/
  rate : Nat := 0
  /-- i32; 02 R37, 24 R550 HRT_TG_PHASE_OFFSET; reset 0. -/
  phaseOffset : Int := 0
  /-- 7 bits; 02 R37, 24 R550 HRT_TG_DUSK_OFFSET; reset TG0 8, others 0. -/
  dusk : Nat := 0
  /-- 1 bit; 02 R37, 24 R550 HRT_TG_REALIGN: JUMP when true; reset 0 SLEW. -/
  jump : Bool := false
  /-- 3 bits; 02 R40, 24 R550 HRT_TG_STATE; reset TG0 FREERUN (DEDUCED 9), others DISABLED. -/
  state : TgState := .disabled
  /-- 48, 16, 16 bits; 02 R34, 24 R550 HRT_TG_FRAME and HRT_TG_POS; reset frame 0, line 1, sample 0
  (DC 9). -/
  pos : Hrt := ⟨0, 1, 0⟩
  /-- the model's own: fraction of a sample passed since the sample began (DC 4); reset 0. -/
  frac : Nat := 0
  /-- 1 bit; 24 R550 HRT_TG_LAST_JUMP; reset 0. -/
  lastJump : Bool := false
  /-- 1 bit; 02 R54: the frame in progress is flagged JUMP; reset 0. -/
  jumpNow : Bool := false
  /-- lines; 02 R54: lines of the frame in progress that a JUMP adds or cuts; reset 0. -/
  jumpLines : Int := 0
  /-- lines; 02 R54: the JUMP that the next frame takes; reset 0. -/
  jumpNext : Int := 0
  /-- i32; 02 R52, 24 R550 HRT_TG_PHASE; reset 0. -/
  phaseError : Int := 0
  /-- 16 bits; 24 R550 lines of SLEW remaining; reset 0. -/
  slewLines : Nat := 0
  /-- DT in ns; 02 R36 DT of line 1 of the frame in progress; reset 0. -/
  frameStart : Nat := 0
  /-- list of (line, DT); 02 R36 the line starts recorded in the frame in progress; reset none. -/
  lineDt : List (Nat × Nat) := []
  /-- 1 bit; 02 R42: enabled by command, waiting for RSYN lock and the first frame start; reset 0. -/
  starting : Bool := false
  /-- 48 bits; 02 R35: the first frame of the format epoch; reset 0. -/
  epochFrame : Nat := 0
  deriving DecidableEq, Repr

/-- A candidate's lock state (R576). -/
inductive CandState where
  | none
  | acquiring
  | locked
  deriving DecidableEq, Repr

/-- A reference candidate (R40, R41). -/
structure Cand where
  /-- u8; 02 R41: 1 PTP, 2 SDI, 3 REF H/F/V, 4 REF 1PPS; reset no candidate. -/
  kind : Nat
  /-- u8; 02 R41. -/
  transport : Nat
  /-- u16; 02 R41. -/
  port : Nat
  /-- u16; 02 R41. -/
  vlan : Nat
  /-- u8; 02 R41. -/
  raster : Nat
  /-- u8; 02 R41. -/
  rate : Nat
  /-- 02 R576: candidate state. -/
  state : CandState
  /-- DT in ns; 02 R576: when it last locked. -/
  lockedAt : Nat
  /-- count; 02 R40: consecutive good Syncs, frames or pulses. -/
  good : Nat
  /-- count; 02 R40: consecutive Syncs out of 10 µs. -/
  bad : Nat
  deriving DecidableEq, Repr

/-- Reference states of R40. -/
inductive RefState where
  | freerun
  | acquiring
  | locked
  | holdover
  deriving DecidableEq, Repr

/-- Device Time, the reference and the timing groups. -/
structure Time where
  /-- 80 bits, seconds and nanoseconds, in ns; 02 R32, 24 R550 HRT_DT_LO and HRT_DT_HI; reset 0. -/
  dt : Nat := 0
  /-- ns; 02 R33: slew left to run, signed; reset 0. -/
  dtSlew : Int := 0
  /-- 1 bit; 02 R33 DT_TRACEABLE; reset 0. -/
  traceable : Bool := false
  /-- 64 bits; 24 R550 HRT_DT_STEPS; reset 0. -/
  steps : Nat := 0
  /-- seconds; 02 R43: the value commanded for the next 1PPS edge; reset none. -/
  ppsSeconds : Option Nat := none
  /-- 1 bit; 02 R33: the 1PPS seconds were commanded; reset 0. -/
  ppsCommanded : Bool := false
  /-- up to 3; 02 R40, 24 R550 HRT_REF_CANDIDATE0-2; reset none. -/
  cands : List Cand := []
  /-- u16 s; 02 R41 revert hold; reset 10. -/
  revertHold : Nat := 10
  /-- 3 bits; 02 R41 REF polarity; reset 0. -/
  polarity : Nat := 0
  /-- u8; 02 R41 PTP domain; reset 0. -/
  ptpDomain : Nat := 0
  /-- 3 bits; 24 R550 HRT_REF_STATE; reset 0 FREERUN. -/
  refState : RefState := .freerun
  /-- 2 bits; 24 R550 HRT_REF_SELECTED; reset 3 none. -/
  selected : Option Nat := none
  /-- 1 bit; 02 R40: a reference was locked since reset; reset 0. -/
  everLocked : Bool := false
  /-- i32 ns; 24 R550 HRT_REF_OFFSET; reset 0. -/
  offset : Int := 0
  /-- i32 0.001 ppm; 02 R574, R576, 24 R550 HRT_REF_OFFSET: a free value of each offset (log entry 68); reset 0. -/
  servoFreq : Int := 0
  /-- ns; 02 R574 mean path delay of the PTP port; reset 0. -/
  pathDelay : Int := 0
  /-- 1 bit; 16 R401, 02 R576: cascade time is in use; reset 0. -/
  cascadeTime : Bool := false
  /-- 8 groups; 02 R37; reset TG0 enabled, TG1 to TG7 disabled. -/
  groups : Tab Tg := []
  deriving DecidableEq, Repr

/-- A group at reset (R37, R550: HRT_TG_CONFIG of TG0 is 0x0008_0641). -/
def Tg.reset (n : Nat) : Tg :=
  if n = 0 then { enabled := true, raster := 4, rate := 6, dusk := 8, state := .freerun } else {}

/-! ## Command protocol -/

/-- An HRT of effect: timing group, frame and line (R63). -/
structure Effect where
  /-- u8; 03 R63. -/
  tg : Nat
  /-- u48; 03 R63. -/
  frame : Nat
  /-- u16; 03 R63. -/
  line : Nat
  deriving DecidableEq, Repr

/-- Mailbox states (R64). -/
inductive MbState where
  | idle
  | submitted
  | accepted
  | done
  | error
  deriving DecidableEq, Repr

/-- One mailbox (R56, R548). -/
structure Mailbox where
  /-- 3 bits; 24 R548 CCP_MB_STATE; reset 0 IDLE. -/
  state : MbState := .idle
  /-- 16 bits; 24 R548 CCP_MB_BUSY_RINGS; reset 0. -/
  busyRings : Nat := 0
  /-- 1 bit; 24 R548 CCP_MB_INT_EN; reset 0. -/
  intEn : Bool := false
  /-- 32 bits; 24 R548 CCP_MB_SESSION; reset 0. -/
  session : Nat := 0
  /-- 64 bits; 24 R548 CCP_MB_TOKEN; reset 0. -/
  token : Nat := 0
  /-- 64 bits; 24 R548 CCP_MB_JSN; reset 0. -/
  jsn : Nat := 0
  /-- 64 bits; 24 R548 CCP_MB_STAMP; reset 0. -/
  stamp : Nat := 0
  /-- 8 positions; 03 R67: HRT of every group at the doorbell; reset none. -/
  stampPos : List Hrt := []
  /-- 1 bit; 24 R548 CCP_MB_BOOT; reset 0. -/
  boot : Bool := false
  /-- 4 KiB; 03 R56 request buffer: the opcode and the request as last submitted; reset empty (DC 6). -/
  request : Option (Nat × Request) := none
  /-- u16; 03 R63 status; reset 0. -/
  status : Nat := 0
  /-- u16; 03 R63 result status; reset 0. -/
  result : Nat := 0
  /-- u48, u16, u8; 03 R63 effect fields; reset none. -/
  effect : Option Effect := none
  /-- up to 4,064 bytes; 03 R63 response payload; reset zeros. -/
  payload : Bytes := []
  /-- bytes; 03 R72 response data written to host memory; reset none. -/
  dmaOut : Bytes := []
  deriving DecidableEq, Repr

/-- A session (R75). -/
structure Session where
  /-- u32; 03 R75 session ID. -/
  id : Nat
  /-- 03 R75 view. -/
  view : View
  /-- u8; 03 R77 chosen major. -/
  major : Nat
  /-- u8; 03 R77 effective minor. -/
  minor : Nat
  /-- 16 bytes; 03 R76 client label. -/
  label : Bytes
  /-- 03 R88, 18 R432: holds the Crypto Officer role. -/
  crypto : Bool
  /-- 03 R88, 18 R432: holds the User role. -/
  user : Bool
  deriving DecidableEq, Repr

/-- An entry of the result cache (R73). -/
structure Cached where
  view : View
  /-- u64; 03 R73. -/
  token : Nat
  /-- u16; 03 R73. -/
  opcode : Nat
  /-- 384 bits; 03 R73 digest of the request. -/
  digest : BitVec 384
  /-- u16; 03 R73 status, PENDING while it runs. -/
  status : Nat
  /-- u64; 03 R73. -/
  jsn : Nat
  /-- 03 R73 HRT of effect. -/
  effect : Option Effect
  /-- 03 R73 response payload. -/
  payload : Bytes
  deriving DecidableEq, Repr

/-- A budget or counted resource that a scheduled command takes or releases (R26): the object's
charge after the effect, in 1/16 K6 or items. -/
structure Charge where
  /-- 01 R27: budget 0 coding, 1 conversion, 2 composition; 100 + resource code of R27. -/
  pool : Nat
  /-- the object charged. -/
  item : Nat
  /-- the charge once the effect has taken place. -/
  amount : Nat
  deriving DecidableEq, Repr

/-- A scheduled command waiting for its effect point (R50). -/
structure Sched where
  /-- u64; 03 R84. -/
  jsn : Nat
  /-- u16. -/
  opcode : Nat
  view : View
  /-- u32. -/
  session : Nat
  /-- u16; 03 R60. -/
  flags : Nat
  /-- u64. -/
  token : Nat
  /-- u8; protocol major and minor of the request. -/
  major : Nat
  minor : Nat
  /-- the arguments that the effect applies. -/
  args : Bytes
  /-- 02 R48: effect point. -/
  effect : Effect
  /-- 02 R48: the kind of effect point, by its row. -/
  kind : Nat
  /-- u16: the status the command was answered with. -/
  status : Nat
  /-- 01 R26: charges held from acceptance. -/
  charges : List Charge
  /-- 02 R49: the effect is a part of a salvo whose last part writes the OUTCOME. -/
  last : Bool
  /-- 02 R49: another part of the same salvo has taken effect. -/
  begun : Bool
  /-- DT in ns; 02 R39: where the command stands while its group changes format. -/
  atDt : Option Int
  deriving DecidableEq, Repr

/-- Work of a command that was answered PENDING (R68). -/
structure Job where
  /-- u64. -/
  jsn : Nat
  /-- u16. -/
  opcode : Nat
  view : View
  /-- u32. -/
  session : Nat
  /-- u16. -/
  flags : Nat
  /-- u64. -/
  token : Nat
  /-- u8. -/
  major : Nat
  /-- u8. -/
  minor : Nat
  /-- the arguments of the work. -/
  args : Bytes
  /-- the mailbox that carries the command while it is in ACCEPTED (R68). -/
  key : Nat
  deriving DecidableEq, Repr

/-- The command protocol. -/
structure Ccp where
  /-- 20 mailboxes (PF0 0 to 15, PF1 16 to 19); 03 R56, 24 R548; reset IDLE. -/
  mailboxes : Tab Mailbox := []
  /-- at most 16 and 4; 03 R75; reset none. -/
  sessions : List Session := []
  /-- u32; 03 R75 the next session ID; reset DC 8 1. -/
  nextSession : Nat := 1
  /-- 4,096; 03 R73 result cache, newest first; reset empty. -/
  cache : List Cached := []
  /-- count; 03 R87 refused attempts of PF0; reset 0. -/
  refused0 : Nat := 0
  /-- count; 03 R87 refused attempts of PF1; reset 0. -/
  refused1 : Nat := 0
  /-- 8,192; 02 R50 the hardware schedule, in JSN order; reset empty. -/
  schedule : List Sched := []
  /-- list; 03 R68 background work; reset none. -/
  jobs : List Job := []
  /-- 64 bits; 24 R548 control-fabric cycle count; reset 0. -/
  cycle : Nat := 0
  /-- list of (jsn, CMD_COMPLETE status, effect); 03 R89 completions owed after a swap; reset none. -/
  owed : List (Nat × Nat) := []
  deriving DecidableEq, Repr

/-! ## Journal -/

/-- A journal entry (R98). -/
structure Entry where
  /-- u64; 04 R98. -/
  jsn : Nat
  /-- u48 and u32, in ns; 04 R98. -/
  dt : Nat
  /-- u8; 04 R96: 0 COMMAND, 1 OUTCOME, 2 DECISION, 3 DEVICE, 4 FILL. -/
  kind : Nat
  /-- u8; 04 R98: 0 PF0, 1 PF1, 2 device. -/
  view : Nat
  /-- u32; 04 R98. -/
  session : Nat
  /-- u48, u16, u8; 04 R98. -/
  frame : Nat
  line : Nat
  tg : Nat
  /-- u8; 04 R98: 0 inline, 1 digest. -/
  form : Nat
  /-- u16; 04 R98. -/
  opcode : Nat
  /-- u16; 04 R98. -/
  status : Nat
  /-- u16; 04 R98. -/
  flags : Nat
  /-- u64; 04 R98. -/
  token : Nat
  /-- u16; 04 R98 argument length. -/
  argLen : Nat
  /-- u8; 04 R98. -/
  major : Nat
  minor : Nat
  /-- u16; 04 R98: bit 0 EFFECT_TAKEN, 1 CANCELLED, 2 CUT_BY_JUMP, 3 MAILBOX_TIMEOUT, 4 STANDING. -/
  outcome : Nat
  /-- u64; 04 R98 page index. -/
  page : Nat
  /-- 176 bytes; 04 R98 inline arguments (the rest of the area is zero), or the digest. -/
  args : Bytes
  /-- u64; 04 R98 referenced JSN. -/
  ref : Nat
  deriving DecidableEq, Repr

/-- A closed page of the journal (R99, R100). -/
structure Page where
  /-- u64; 04 R99. -/
  index : Nat
  /-- 64 entries; 04 R99. -/
  entries : List Entry
  /-- 384 bits; 04 R100 H(p). -/
  hash : BitVec 384
  /-- 04 R104 flag DAMAGED (R466). -/
  damaged : Bool
  deriving DecidableEq, Repr

/-- A seal record (R101). -/
structure Seal where
  /-- u64; 04 R101. -/
  seq : Nat
  /-- u64; 04 R101. -/
  page : Nat
  /-- u64; 04 R101. -/
  lastJsn : Nat
  /-- u48 and u32, in ns; 04 R101. -/
  dt : Nat
  /-- u32; 04 R101 chain epoch. -/
  epoch : Nat
  /-- 48 bytes; 04 R101 H(page). -/
  hash : BitVec 384
  /-- 96 bytes; 04 R101 signature. -/
  sign : BitVec 768
  /-- u32; 04 R101: an ML-DSA-87 extension is present. -/
  dual : Bool
  /-- u32; 04 R100 number of the chain it covers. -/
  chain : Nat
  /-- 18 R446 security version and authority slot of the key that signed it. -/
  key : Nat × Nat
  deriving DecidableEq, Repr

/-- The journal. -/
structure Journal where
  /-- 24 bits; 04 R95 journal epoch; reset 0 until firmware starts. -/
  epoch : Nat := 0
  /-- 40 bits; 04 R95 SEQ of the newest entry; reset 0. -/
  seq : Nat := 0
  /-- u32; 04 R100 chain number within the epoch; reset 0. -/
  chain : Nat := 0
  /-- 384 bits; 04 R100 hash of the genesis block; reset 0 (DC 10). -/
  genesis : BitVec 384 := 0
  /-- 64; 04 R99 entries of the open page, newest first; reset none. -/
  open_ : List Entry := []
  /-- u64; 04 R99 index of the open page; reset 0. -/
  page : Nat := 0
  /-- 16,384; 04 R99 closed pages held, newest first; reset none. -/
  pages : List Page := []
  /-- 384 bits; 04 R100, R104 H of the page before the oldest one held; reset 0 (DC 10). -/
  pageBefore : BitVec 384 := 0
  /-- 16,384; 04 R101 seals held, newest first; reset none. -/
  seals : List Seal := []
  /-- u64; 04 R101 seal sequence; reset 0. -/
  sealSeq : Nat := 0
  /-- u64; 04 R103 oldest JSN of the chain; reset 0. -/
  chainFirst : Nat := 0
  /-- u64; 04 R108 JSN of the last OUTCOME, DECISION or DEVICE entry; reset 0. -/
  reflected : Nat := 0
  /-- 384 bits of MRAM; 04 R102 page hash of the newest seal; reset DC 10 0 (kept over a reset). -/
  lastSealHash : BitVec 384 := 0
  /-- u64 of MRAM; 04 R102 last JSN of the newest seal; reset DC 10 0 (kept over a reset). -/
  lastSealJsn : Nat := 0
  /-- u64; 04 R106 JSN of the newest entry that carries STANDING; reset 0. -/
  standingQueued : Nat := 0
  /-- u64; 04 R106 standing JSN last committed to MRAM; reset 0. -/
  standingJsn : Nat := 0
  /-- 1 bit; 04 R103: the next entry starts a new chain; reset 0. -/
  newChain : Bool := false
  /-- 1 bit; 04 R114: a swap is in progress; reset 0. -/
  swapping : Bool := false
  /-- 4,096; 04 R114 decision log, oldest first: entries the new firmware will write; reset none. -/
  decisionLog : List Entry := []
  /-- list; 04 R114 effect log, oldest first; reset none. -/
  effectLog : List Entry := []
  /-- u32; 04 R115 decisions not logged; reset 0. -/
  decisionsLost : Nat := 0
  /-- u64; 04 R113 JSN of the scheduled FIRMWARE_ACTIVATE; reset none. -/
  swapJsn : Option Nat := none
  deriving DecidableEq, Repr

/-! ## Events -/

/-- A coalescing window (R520). -/
structure Window where
  /-- 23 R520: code and source of its occurrences. -/
  name : EventName
  src : Src
  /-- DT; 23 R520: when it opened. -/
  opened : Nat
  /-- 23 R520: further occurrences counted. -/
  count : Nat
  /-- 23 R520: the last of them. -/
  last : EventRec
  deriving DecidableEq, Repr

/-- The rate of one source at one ring (R521): records left of the burst, in 1/1000 record. -/
structure Bucket where
  ring : Nat
  src : Src
  /-- 23 R521: thousandths of a record. -/
  level : Nat
  /-- DT of the last change. -/
  at_ : Nat
  deriving DecidableEq, Repr

/-- Records that a summary stands for (R522). -/
structure Summary where
  /-- 23 R522: source class. -/
  cls : Nat
  /-- 23 R522: severity. -/
  severity : Nat
  /-- 23 R522: records replaced or dropped. -/
  count : Nat
  /-- 23 R522: the records were dropped, not replaced. -/
  dropped : Bool
  deriving DecidableEq, Repr

/-- An event ring (R91, R549); the boot buffer of R524 has the same shape. -/
structure Ring where
  /-- 1 bit; 24 R549 EVR_ENABLE; reset 0. -/
  enabled : Bool := false
  /-- 64 bits; 24 R549 EVR_BASE; reset 0. -/
  base : Nat := 0
  /-- 5 bits; 24 R549 EVR_SIZE; reset 6. -/
  sizeLog : Nat := 6
  /-- 64 bits; 24 R549 EVR_WRITEBACK; reset 0. -/
  writeback : Nat := 0
  /-- 32 bits; 24 R549 EVR_PRODUCER; reset 0. -/
  producer : Nat := 0
  /-- 32 bits; 24 R549 EVR_CONSUMER; reset 0. -/
  consumer : Nat := 0
  /-- 11 bits; 24 R549 EVR_MODERATION count; reset 1. -/
  modCount : Nat := 1
  /-- 10 bits; 24 R549 EVR_MODERATION holdoff in µs; reset 0. -/
  holdoff : Nat := 0
  /-- 8 bits; 24 R549 EVR_ROUTE watermark in %; reset 75. -/
  watermark : Nat := 75
  /-- 5 bits; 24 R549 EVR_ROUTE severity mask; reset ER0 0x00, ER1 0x07, ER2 0x18, ER3 0x07. -/
  mask : Nat := 0
  /-- 32 bits; 24 R549 EVR_ROUTE TRACE class mask; reset 0. -/
  trace : Nat := 0
  /-- 1 bit; 24 R549 EVR_DMA_FAULT; reset 0. -/
  dmaFault : Bool := false
  /-- 1 bit; 24 R549 EVR_CONFIG_ERROR; reset 0. -/
  configError : Bool := false
  /-- 1 bit; 24 R549 EVR_CONSUMER_INVALID; reset 0. -/
  consumerInvalid : Bool := false
  /-- 5 × 64 bits; 23 R523 records written by severity; reset 0. -/
  written : List Nat := [0, 0, 0, 0, 0]
  /-- 5 × 64 bits; 23 R523 records replaced by severity; reset 0. -/
  replaced : List Nat := [0, 0, 0, 0, 0]
  /-- 5 × 64 bits; 23 R523 records dropped by severity; reset 0. -/
  dropped : List Nat := [0, 0, 0, 0, 0]
  /-- 5 × 64 bits; 23 R523 records held by severity; reset 0. -/
  held : List Nat := [0, 0, 0, 0, 0]
  /-- 64 bits; 24 R549 EVR_SIGNALS; reset 0. -/
  signals : Nat := 0
  /-- 11 bits; 24 R549 EVR_UNSIGNALLED; reset 0. -/
  unsignalled : Nat := 0
  /-- size × 32 bytes of host memory; 03 R91 the newest records of the ring, oldest first, as many
  as it holds; reset none. -/
  records : List EventRec := []
  /-- 32 bits of host memory; 03 R92 producer index at the write-back address; reset 0. -/
  backIndex : Nat := 0
  /-- 1,024; 23 R522 held CRITICAL records, oldest first; reset none. -/
  queue : List EventRec := []
  /-- one per CRITICAL code; 23 R522 coalescing slots; reset none. -/
  slots : List EventRec := []
  /-- list; 23 R522 summaries still to be written; reset none. -/
  summaries : List Summary := []
  /-- 1 bit; 23 R522 EVENT_PENDING_CRITICAL was raised for this holding; reset 0. -/
  holding : Bool := false
  deriving DecidableEq, Repr

/-- A ring at reset (R549). -/
def Ring.reset (r : Nat) : Ring :=
  { mask := if r = 1 then 0x07 else if r = 2 then 0x18 else if r = 3 then 0x07 else 0 }

/-- One entry of a function's MSI-X table (R93, R537). -/
structure MsixEntry where
  /-- 64 bits; 24 R537 message address; reset DC 11 0. -/
  addr : Nat := 0
  /-- 32 bits; 24 R537 message data; reset DC 11 0. -/
  data : Nat := 0
  /-- 1 bit; 03 R93 mask, as PCI Express has it; reset PR 11 1. -/
  masked : Bool := true
  /-- 1 bit; 03 R93 pending bit; reset 0. -/
  pending : Bool := false
  /-- the model's own count of requests to signal the vector; reset 0. -/
  signalled : Nat := 0
  deriving DecidableEq, Repr

/-- Event delivery. -/
structure Events where
  /-- 4 rings; 03 R91, 24 R549; reset disabled. -/
  rings : Tab Ring := []
  /-- 256 records; 17 R419, 23 R524 boot buffer; reset empty. -/
  boot : Ring := { sizeLog := 8, enabled := true, mask := 0x1F }
  /-- 1 bit; 17 R419: events go to the boot buffer; reset 1. -/
  toBoot : Bool := true
  /-- list; 23 R520 open windows; reset none. -/
  windows : List Window := []
  /-- list; 23 R521 rates; reset none. -/
  buckets : List Bucket := []
  /-- 64 bits per class; 23 R523 rate-limited records; reset 0. -/
  rateLimited : Tab Nat := []
  /-- 64 bits per severity; 23 R523 records that no PF0 ring takes; reset 0. -/
  unrouted : List Nat := [0, 0, 0, 0, 0]
  /-- list; 23 R525 records staged for the NV event log, oldest first; reset none. -/
  staged : List EventRec := []
  /-- list; 23 R525 staged records not yet taken by the store; reset 0. -/
  coalesced : Nat := 0
  /-- 64 bits; 23 R522 summaries written; reset 0. -/
  summariesWritten : Nat := 0
  /-- 64 + 8 entries, PF1 from 64; 03 R93, 24 R537; reset masked. -/
  msix : Tab MsixEntry := []
  deriving DecidableEq, Repr

end Sys2Proof.Machine
end

