-- ==== Sys2Proof/Machine/Flags.lean ====
section
/-! DEFINITION. Status codes (R85), request flags (R60), event severities and codes (R518, R519), the
sources of events, and the formats of R44 and R117 with their lines, rates and K6 cost (R23). -/

namespace Sys2Proof.Machine

/-! ## Status codes of R85 -/

abbrev stOk : Nat := 0x0000
abbrev stPending : Nat := 0x0001
abbrev stScheduled : Nat := 0x0002
abbrev stAppliedLate : Nat := 0x0003
abbrev stDuplicate : Nat := 0x0004
abbrev stBadVersion : Nat := 0x0100
abbrev stUnknown : Nat := 0x0101
abbrev stBadArgument : Nat := 0x0102
abbrev stNotPrivileged : Nat := 0x0103
abbrev stAuthRequired : Nat := 0x0104
abbrev stNoCapacity : Nat := 0x0200
abbrev stUnitFenced : Nat := 0x0201
abbrev stUnitBusy : Nat := 0x0202
abbrev stDestinationLocked : Nat := 0x0203
abbrev stLinebuf : Nat := 0x0204
abbrev stSurfaceInUse : Nat := 0x0205
abbrev stLateDiscarded : Nat := 0x0206
abbrev stFormatMismatch : Nat := 0x0207
abbrev stSecurity : Nat := 0x0300
abbrev stJournalGap : Nat := 0x0301
abbrev stUpdating : Nat := 0x0302
abbrev stInternalFault : Nat := 0x0303

/-! ## Request flags of R60 -/

/-- Request flag 0, DISCARD_IF_LATE. -/
def flagDiscard (f : Nat) : Bool := bit f 0
/-- Request flag 1, AUTO_FENCE. -/
def flagAutoFence (f : Nat) : Bool := bit f 1
/-- Request flag 2, DMA. -/
def flagDma (f : Nat) : Bool := bit f 2
/-- Request flag 3, NOTIFY_EFFECT. -/
def flagNotify (f : Nat) : Bool := bit f 3
/-- Reserved request flags are zero. -/
def flagsValid (f : Nat) : Bool := f < 16

/-! ## Events -/

/-- The severity of an event (R518 and the rule that raises it). EVENT_SUMMARY takes the severity of
what it replaces. -/
def EventName.severity : EventName → Nat
  | .thermalRetreat | .thermalTrip | .eventPendingCritical | .aoXoLost | .hbmStackFenced |
    .lanternError | .lanternFuseFault | .nvCounterFault | .pllFailed | .sysXoLost => 0
  | .fenceApplied | .deviceDimmed | .unitTestFailed | .thermalStep | .asrcExhausted |
    .cascadeIdentityConflict | .ccpDmaFault | .ccpMailboxTimeout | .codingChannelStopped |
    .dtStepped | .fwSwapFailed | .hbmEccUncorrectable | .journalDecisionsLost | .journalUnsealed |
    .laneFailed | .lanternAuthLockout | .lanternRecordInvalid | .lanternZeroised | .mirrorMismatch |
    .mirrorNoSignal | .nightlightMapMismatch | .nvRecordConflict | .nvRecordLost | .nvWearWarning |
    .pllLockLost | .powerFailAsserted | .refreshForced | .refLost | .sramEccUncorrectable |
    .standingMismatch | .streamKeyExpired | .surfaceLost | .tgJump | .watchFailover |
    .watchNoCandidate => 1
  | .fencedEffectSkipped | .alignMemberAsync | .audioBurstSlip | .canvasCommitExpired |
    .canvasLateLine | .cascadeTimeRole | .cascadeTopology | .ccpDoorbellBusy | .ccpPrivilegeRefused
    | .clockLost | .cvuMismatch | .decodeError | .decodeHolding | .exactRangeExceeded | .flowLegLost
    | .frameError | .glint | .headerTaskLate | .inputLoss | .laneDown | .laneHiBer |
    .laneSkewExceeded | .panelTeLost | .partnerLost | .pipeCropInvalid | .pipeMethodFallback |
    .pllGlideRefused | .rateOutOfRange | .rcInputMissing | .rcPictureFloored | .refreshCatchup |
    .scanoutLateLine | .streamKeyRekeyDue | .surfaceWriteBlocked | .tgRealign | .ttcHeaderInvalid |
    .ttcTileError | .watchSuspended | .zeroizeGlitch => 2
  | _ => 3

/-- The code of an event (R519): the codes this manual states; any other has the high byte of its
subject's opcode family and a low byte that only EVENT_CATALOGUE tells. -/
def EventName.code (family : Nat) (n : EventName) : Nat :=
  match n with
  | .cmdComplete => 0x0101
  | .cmdEffect => 0x0102
  | .eventSummary => 0x0B01
  | .fenceApplied => 0x0B02
  | .fenceReleased => 0x0B03
  | .deviceDimmed => 0x0B04
  | .deviceRestored => 0x0B05
  | .unitTestFailed => 0x0B06
  | .fencedEffectSkipped => 0x0B07
  | .thermalStep => 0x0B08
  | .thermalRetreat => 0x0B09
  | .thermalTrip => 0x0B0A
  | .eventPendingCritical => 0x0B0B
  | _ => family * 256 + (Config.eventCodeLow n.ctorIdx).toNat

/-- The source classes of R518. -/
def srcDevice : Src := ⟨0, 0xFFFF⟩
def srcLane (i : Nat) : Src := ⟨1, i⟩
def srcQuad (i : Nat) : Src := ⟨2, i⟩
def srcSector (i : Nat) : Src := ⟨3, i⟩
def srcHbm (i : Nat) : Src := ⟨4, i⟩
def srcCore (i : Nat) : Src := ⟨5, i⟩
def srcPipe (i : Nat) : Src := ⟨6, i⟩
def srcCanvas (i : Nat) : Src := ⟨7, i⟩
def srcCpc (i : Nat) : Src := ⟨8, i⟩
def srcSource (i : Nat) : Src := ⟨9, i⟩
def srcDestination (i : Nat) : Src := ⟨10, i⟩
def srcFlowRx (i : Nat) : Src := ⟨11, i⟩
def srcFlowTx (i : Nat) : Src := ⟨11, 0x8000 + i⟩
def srcEncode (i : Nat) : Src := ⟨12, i⟩
def srcDecode (i : Nat) : Src := ⟨12, 0x8000 + i⟩
def srcAudio (i : Nat) : Src := ⟨13, i⟩
def srcPll (i : Nat) : Src := ⟨14, i⟩
def srcTg (i : Nat) : Src := ⟨15, i⟩
def srcPanel (i : Nat) : Src := ⟨16, i⟩
def srcSurface (h : Nat) : Src := ⟨17, h % 65536⟩
def srcCvu (i : Nat) : Src := ⟨18, i⟩
def srcLantern : Src := ⟨19, 0xFFFF⟩
def srcStore (i : Nat) : Src := ⟨20, i⟩
def srcCascade (i : Nat) : Src := ⟨21, i⟩
def srcCommand (jsn : Nat) : Src := ⟨22, jsn % 65536⟩
def srcMailbox (i : Nat) : Src := ⟨23, i⟩

/-- The number of a view: 0 PF0, 1 PF1. -/
def viewNo : View → Nat
  | .pf0 => 0
  | .pf1 => 1

/-- The key of a mailbox: PF0 MBm at m, PF1 MBn at 16 + n (R548). -/
def mbKey (v : View) (m : Nat) : Nat := viewNo v * 16 + m

/-! ## Formats of R44 and R117 -/

/-- Total lines of a raster (R44). -/
def totalLines (raster : Nat) : Nat :=
  match raster with
  | 0 => 525
  | 1 => 625
  | 2 => 750
  | 6 => 2250
  | 7 => 4500
  | _ => 1125

/-- First active line of field 1 (R44). -/
def firstActive (raster : Nat) : Nat :=
  match raster with
  | 0 => 21
  | 1 => 23
  | 2 => 26
  | 3 => 21
  | 6 => 83
  | 7 => 165
  | _ => 42

/-- Switching line S (R44). -/
def switchLine (raster : Nat) : Nat :=
  match raster with
  | 0 => 10
  | 1 => 6
  | 6 => 13
  | 7 => 25
  | _ => 7

/-- Largest Dusk offset (R44). -/
def largestDusk (raster : Nat) : Nat :=
  match raster with
  | 0 => 10
  | 1 => 16
  | 2 => 18
  | 3 => 13
  | 4 => 34
  | 5 => 34
  | _ => 64

/-- Active width of a raster (R117). -/
def activeWidth (raster : Nat) : Nat :=
  match raster with
  | 0 => 720
  | 1 => 720
  | 2 => 1280
  | 6 => 3840
  | 7 => 7680
  | _ => 1920

/-- Active lines of a whole frame (R117). -/
def activeLines (raster : Nat) : Nat :=
  match raster with
  | 0 => 486
  | 1 => 576
  | 2 => 720
  | 6 => 2160
  | 7 => 4320
  | _ => 1080

/-- Interlaced raster codes (R117): 0, 1 and 3, whose rate code names the field rate. -/
def interlaced (raster : Nat) : Bool := raster == 0 || raster == 1 || raster == 3

/-- The frequency a rate code names, as a fraction in Hz (R117). -/
def rateFraction (rate : Nat) : Nat × Nat :=
  match rate with
  | 0 => (24000, 1001)
  | 1 => (24, 1)
  | 2 => (25, 1)
  | 3 => (30000, 1001)
  | 4 => (30, 1)
  | 5 => (50, 1)
  | 6 => (60000, 1001)
  | 7 => (60, 1)
  | 8 => (100, 1)
  | 9 => (120000, 1001)
  | _ => (120, 1)

/-- The frame frequency of a format as a fraction in Hz: an interlaced format has half its field
rate (R117). -/
def frameFraction (raster rate : Nat) : Nat × Nat :=
  let f := rateFraction rate
  if interlaced raster then (f.1, 2 * f.2) else f

/-- Whether raster and rate are a row of the table of R44. -/
def formatValid (raster rate : Nat) : Bool :=
  match raster with
  | 0 => rate == 6
  | 1 => rate == 5
  | 2 => rate == 5 || rate == 6 || rate == 7
  | 3 => rate == 5 || rate == 6 || rate == 7
  | 4 => rate ≤ 7
  | 5 => rate ≤ 7
  | 6 => rate ≤ 10
  | 7 => rate ≤ 10
  | _ => false

/-- The rate family of a frame rate (R40): 0 the ÷1.001 rates, 1 the 25 Hz rates, 2 the 24 and 30 Hz
rates. -/
def rateFamily (rate : Nat) : Nat :=
  match rate with
  | 0 | 3 | 6 | 9 => 0
  | 2 | 5 | 8 => 1
  | _ => 2

/-- Total luma samples of a line. PRESUMED (log entry 7): the SMPTE standards of the formats. -/
def samplesPerLine (raster rate : Nat) : Nat :=
  match raster with
  | 0 => 858
  | 1 => 864
  | 2 => if rate == 5 then 1980 else 1650
  | 3 => if rate == 5 then 2640 else 2200
  | _ =>
    let k := if raster == 7 then 4 else if raster == 6 then 2 else 1
    k * (if rate == 0 || rate == 1 then 2750
         else if rate == 2 || rate == 5 || rate == 8 then 2640 else 2200)

/-- The frame period in ns, rounded down. -/
def framePeriod (raster rate : Nat) : Nat :=
  let f := frameFraction raster rate
  1000000000 * f.2 / f.1

/-- The K6 cost of a format in 1/16 K6: its active pixel rate over 497,664,000 px/s, rounded up to
the next 1/16 (R23). -/
def k6Cost (width height : Nat) (hz : Nat × Nat) : Nat :=
  ceilDiv (16 * width * height * hz.1) (497664000 * hz.2)

/-- The K6 cost of a raster and rate, in 1/16 K6 (R23). -/
def formatCost (raster rate : Nat) : Nat :=
  k6Cost (activeWidth raster) (activeLines raster) (frameFraction raster rate)

/-! ## SDI interfaces of R118 and R373 -/

/-- Links of an SDI interface code (R373). -/
def ifaceLinks (i : Nat) : Nat :=
  match i with
  | 8 => 4
  | 9 => 4
  | 10 => 2
  | 11 => 4
  | _ => 1

/-- The rates 23.98 to 30 Hz. -/
def slowRate (rate : Nat) : Bool := decide (rate ≤ 4)
/-- The rates 50 to 60 Hz. -/
def midRate (rate : Nat) : Bool := decide (5 ≤ rate ∧ rate ≤ 7)
/-- The rates 100 to 120 Hz. -/
def fastRate (rate : Nat) : Bool := decide (8 ≤ rate ∧ rate ≤ 10)

/-- Raster and rate are a row of the table of R118 for an interface code. -/
def ifaceCarries (i raster rate : Nat) : Bool :=
  formatValid raster rate &&
  match i with
  | 1 => raster == 0 || raster == 1
  | 2 => (raster == 2 && midRate rate) || (raster == 3 && midRate rate)
      || ((raster == 4 || raster == 5) && slowRate rate)
  | 3 => raster == 4 && midRate rate
  | 4 => raster == 4 && midRate rate
  | 5 => raster == 6 && slowRate rate
  | 6 => raster == 6 && midRate rate
  | 7 => raster == 6 && fastRate rate
  | 8 => raster == 6 && midRate rate
  | 9 => raster == 6 && midRate rate
  | 10 => raster == 6 && fastRate rate
  | 11 => raster == 7 && (slowRate rate || midRate rate)
  | _ => false

/-- The interface that transmit AUTO sends for a format: the lowest-rate single-link one; level A for
1080p at 50 to 60 Hz; none when no single-link interface carries it (R373, R374). -/
def autoIface (raster rate : Nat) : Option Nat :=
  [1, 2, 3, 5, 6, 7].find? fun i => ifaceCarries i raster rate

end Sys2Proof.Machine
end

