-- ==== Sys2Proof/Machine/Records/Audio.lean ====
section
/-! DEFINITION. State records of the audio router, the TDM ports and the audio host rings (R326 to R368). -/

namespace Sys2Proof.Machine

/-- A cross-point (R329). -/
structure Cross where
  /-- u16; 13 R329 source endpoint. -/
  source : Nat
  /-- u8; 13 R329 source channel. -/
  chan : Nat
  /-- i16 0.01 dB; 13 R329. -/
  gain : Int
  /-- 1 bit; 13 R329 MUTE. -/
  mute : Bool
  deriving DecidableEq, Repr

/-- A change of a destination channel that has fallen due and waits for its zero crossing (R346). -/
structure AudioChange where
  /-- u64; the command's JSN, 0 for a follow change. -/
  jsn : Nat
  /-- u16; 13 R329 destination endpoint. -/
  dest : Nat
  /-- u8; destination channel. -/
  chan : Nat
  /-- list of (cross-point, its new value, or none when it is removed). -/
  set : List (Nat × Option Cross)
  /-- sample periods; 13 R333 a new delay. -/
  delay : Option Nat
  /-- DT; 13 R346 when it fell due. -/
  due : Nat
  deriving DecidableEq, Repr

/-- What is kept of a destination channel (R333, R351). -/
structure DestChan where
  /-- u32 sample periods; 13 R333 delay in use; reset 0. -/
  delay : Nat := 0
  /-- 64 bits; 13 R345, R351 NON_AUDIO_MUTED blocks; reset 0. -/
  muted : Nat := 0
  /-- 64 bits; 13 R330, R351 CLIP samples; reset 0. -/
  clip : Nat := 0
  /-- 64 bits; 13 R346, R351 CROSSFADE changes; reset 0. -/
  fades : Nat := 0
  /-- 64 bits; 13 R347, R351 AUDIO_BURST_CUT; reset 0. -/
  cuts : Nat := 0
  /-- 24-bit samples; 13 R330, R333 its sums of the last second, newest first; reset none. -/
  line : List Int := []
  /-- samples; 13 R337 what it sends of the last block; reset none. -/
  out : List Int := []
  deriving DecidableEq, Repr

/-- Counters of a source channel (R351). -/
structure SrcChan where
  /-- 64 bits; 13 R342, R351 slips; reset 0. -/
  slips : Nat := 0
  /-- 64 bits; 13 R344, R351 burst-damaging slips; reset 0. -/
  burst : Nat := 0
  /-- 64 bits; 13 R343, R351 SLIP_FALLBACK blocks; reset 0. -/
  fallback : Nat := 0
  deriving DecidableEq, Repr

/-- A source endpoint (R339 to R349). -/
structure AudioSource where
  /-- u8; 13 R340 ASRC: 0 AUTO, 1 RESERVED; reset 0. -/
  asrcMode : Nat := 0
  /-- u8; 13 R340 alignment group, 0xFF none; reset 0xFF. -/
  align : Nat := 0xFF
  /-- u16 µs; 13 R340 playout delay; reset 3,000. -/
  playout : Nat := 3000
  /-- u64; 13 R340 exact mask; reset 0. -/
  exact : Nat := 0
  /-- 24 bytes; 13 R340 settings that the next block takes; reset none. -/
  next : Option Bytes := none
  /-- 1 bit; 13 R339 SYNCHRONOUS; reset 0. -/
  sync : Bool := false
  /-- count; 13 R339 consecutive windows of at most 1 sample of drift; reset 0. -/
  windows : Nat := 0
  /-- i32 ppm; 13 R341, R351 measured ratio; reset 0. -/
  ratio : Int := 0
  /-- i32 1/1000 sample; 13 R339, R342 deviation of the buffer fill from its centre; reset 0. -/
  dev : Int := 0
  /-- 1 bit; 13 R341 its tracked channels are muted for their ratio; reset 0. -/
  outOfRange : Bool := false
  /-- list of channels; 13 R341, R343 that hold an ASRC channel; reset none. -/
  asrc : List Nat := []
  /-- list of channels; 13 R343 SLIP_FALLBACK; reset none. -/
  fallback : List Nat := []
  /-- list of pairs; 13 R344 NON_AUDIO; reset none. -/
  nonAudio : List Nat := []
  /-- list of (pair, DT it fell due); 13 R344 slips deferred; reset none. -/
  owed : List (Nat × Nat) := []
  /-- 64 bits; 13 R349, R351 AUDIO_UNDERRUN samples; reset 0. -/
  underrun : Nat := 0
  /-- 64 bits; 13 R349, R351 discarded late samples; reset 0. -/
  late : Nat := 0
  /-- 64 bits; 13 R334, R351 discarded packets of other data streams; reset 0. -/
  others : Nat := 0
  /-- by channel; 13 R351 counters. -/
  chans : Tab SrcChan := []
  deriving DecidableEq, Repr

/-- Settings of a destination endpoint (R333). -/
structure AudioDest where
  /-- u8; 13 R333 timing group; reset 0. -/
  tg : Nat := 0
  /-- 1 bit; 13 R333 change mode: 0 ZERO_CROSS, 1 GANGED_FADE; reset 0. -/
  mode : Nat := 0
  /-- u8 ms; 13 R333 zero-crossing timeout; reset 10. -/
  timeout : Nat := 10
  /-- u32 sample periods; 13 R333 delay set; reset 0. -/
  delay : Nat := 0
  /-- 16 × u16; 13 R333 follow flows; reset unused. -/
  follow : List Nat := []
  deriving DecidableEq, Repr

/-- Port states of R368. -/
inductive TdmState where
  | disabled
  | running
  | mutedClock
  | mutedFrame
  | mutedRate
  deriving DecidableEq, Repr

/-- A TDM port (R352 to R364). -/
structure Tdm where
  /-- 16 bytes; 14 R354; reset zeros, disabled. -/
  cfg : Bytes := []
  /-- 16 bytes; 14 R354 an enable or disable that the next block takes; reset none. -/
  next : Option Bytes := none
  /-- 3 bits; 14 R368; reset 0 DISABLED. -/
  state : TdmState := .disabled
  /-- u8; 14 R354, R362 nominal rate code in use; reset 0. -/
  nominal : Nat := 0
  /-- u32 Hz; 14 R368 measured rate; reset 0. -/
  measured : Nat := 0
  /-- count; 14 R361, R364 consecutive good frames of the wait in progress; reset 0. -/
  good : Nat := 0
  /-- 1 bit; 14 R361, R364 a re-measurement is to go on after the glitch; reset 0. -/
  measuring : Bool := false
  /-- code + 1; 14 R362 the result last reported while muted, 0 none; reset 0. -/
  told : Nat := 0
  /-- 1 bit; 14 R363 the unmute fade runs; reset 0. -/
  fading : Bool := false
  /-- 1 bit; 14 R362 EXACT_MUTED; reset 0. -/
  exactMuted : Bool := false
  /-- list of channels; 14 R359 transmit channels that hold an ASRC channel; reset none. -/
  txAsrc : List Nat := []
  /-- 64 bits; 14 R368 CLOCK_LOST entries; reset 0. -/
  losses : Nat := 0
  /-- 64 bits; 14 R368 FRAME_ERROR frames; reset 0. -/
  frameErrors : Nat := 0
  /-- 64 bits; 14 R368 RATE_CHANGED reports; reset 0. -/
  rateChanges : Nat := 0
  /-- 64 bits; 14 R368 muted frames; reset 0. -/
  mutedFrames : Nat := 0
  deriving DecidableEq, Repr

/-- An audio host ring (R365 to R367). -/
structure AudioRing where
  /-- 48 bytes; 14 R365; reset zeros, disabled. -/
  cfg : Bytes := []
  /-- 48 bytes; 14 R365 settings that the next block takes; reset none. -/
  next : Option Bytes := none
  /-- u64; 14 R365 producer index; reset 0. -/
  prod : Nat := 0
  /-- u64; 14 R365 consumer index; reset 0. -/
  cons : Nat := 0
  /-- 1 bit; 14 R367 the next record carries DISCONTINUITY; reset 0. -/
  discont : Bool := false
  /-- list of record headers; 14 R367 written to the ring, newest first, at most 64; reset none. -/
  written : List Bytes := []
  /-- 64 bits; 14 R368 late records; reset 0. -/
  late : Nat := 0
  /-- 64 bits; 14 R368 mismatched records; reset 0. -/
  mismatched : Nat := 0
  /-- 64 bits; 14 R368 HOST_RING_OVERRUN; reset 0. -/
  overrun : Nat := 0
  deriving DecidableEq, Repr

/-- An MCLK output (R358). -/
structure Mclk where
  /-- u8; 14 R358 multiple in use: 0 off; reset 0. -/
  multiple : Nat := 0
  /-- u8; 14 R358 the multiple it restarts at after 1 µs low; reset none. -/
  next : Option Nat := none
  deriving DecidableEq, Repr

/-- The audio router. -/
structure Audio where
  /-- 1 bit; 13 R326 system rate: 0 48 kHz, 1 96 kHz; reset 0. -/
  rate : Nat := 0
  /-- by (destination × 256 + channel × 4 + cross-point); 13 R329; reset none. -/
  crosses : Tab Cross := []
  /-- list; 13 R346 changes that wait, in JSN order; reset none. -/
  changes : List AudioChange := []
  /-- by destination endpoint; 13 R333. -/
  dests : Tab AudioDest := []
  /-- by destination × 256 + channel; 13 R351. -/
  chans : Tab DestChan := []
  /-- by source endpoint; 13 R340. -/
  sources : Tab AudioSource := []
  /-- DT in ns; 13 R337 stamp of the block in progress; reset none. -/
  stamp : Option Nat := none
  /-- 16; 14 R352. -/
  tdm : Tab Tdm := []
  /-- 32: input rings 0 to 15, output rings 16 to 31; 14 R365. -/
  rings : Tab AudioRing := []
  /-- 8; 14 R358. -/
  mclk : Tab Mclk := []
  deriving DecidableEq, Repr

end Sys2Proof.Machine
end

