-- ==== Sys2Proof/Machine/Records/Boot.lean ====
section
/-! DEFINITION. State records of start-up (R407 to R426) and of health, fencing and the thermal policy
(R518 to R535). -/

namespace Sys2Proof.Machine

/-! ## Start-up -/

/-- A pass record of the Nightlight map (R409). -/
structure PassRec where
  /-- u16; 17 R409 destination lane. -/
  dest : Nat
  /-- u16; 17 R409 primary source lane. -/
  primary : Nat
  /-- u16; 17 R409 backup source lane, 0xFFFF none. -/
  backup : Nat
  /-- u8; 17 R409 single-link interface code 1 to 7. -/
  iface : Nat
  /-- u8; 17 R409: 0 SQUELCH, 1 PASS. -/
  loss : Nat
  /-- u8; 17 R409 transmit swing. -/
  swing : Nat
  /-- i8; 17 R409 transmit pre-cursor. -/
  pre : Int
  /-- i8; 17 R409 transmit post-cursor. -/
  post : Int
  /-- u8; 17 R409 flags. -/
  flags : Nat
  /-- u8; 17 R409 primary CTLE seed. -/
  seed1 : Nat
  /-- u8; 17 R409 backup CTLE seed. -/
  seed2 : Nat
  /-- u16; 17 R409 reserved field as read. -/
  reserved : Nat
  deriving DecidableEq, Repr

/-- A Nightlight map (R409). -/
structure NlMap where
  /-- u32; 17 R409. -/
  magic : Nat := 0x4E4C4D31
  /-- u16; 17 R409. -/
  version : Nat := 1
  /-- u16; 17 R409 total length. -/
  length : Nat := 32
  /-- u64; 17 R409 standing JSN. -/
  jsn : Nat := 0
  /-- list of (quad, family); 17 R409. -/
  quads : List (Nat × Nat) := []
  /-- list; 17 R409. -/
  passes : List PassRec := []
  /-- 17 R410: the CRC-32C of the slot is valid. -/
  crcOk : Bool := true
  deriving DecidableEq, Repr

/-- A Nightlight pass in being (R413, R414, R421). -/
structure Pass where
  record : PassRec
  /-- 17 R414: the backup source is selected. -/
  onBackup : Bool
  /-- 17 R414: the primary source is locked. -/
  lock1 : Bool
  /-- 17 R414: the backup source is locked. -/
  lock2 : Bool
  /-- 17 R414: the one switch of the pass was made. -/
  switched : Bool
  /-- 17 R413: the pass has been live: its source has locked once. -/
  live : Bool
  /-- 17 R421, R422: 0 not adopted, 1 adopting on a follow raster, 2 adopted. -/
  adopt : Nat
  /-- 17 R422: lines the follow raster still has to move. -/
  follow : Int
  deriving DecidableEq, Repr

/-- Start-up. -/
structure Boot where
  /-- pin; 25 PORST_N; reset DC 13 0 (asserted). -/
  porstN : Bool := false
  /-- pin; 25 PCIE_PERST_N; reset DC 13 1. -/
  perstN : Bool := true
  /-- 8 bits; 17 R418 ID_BOOT_STAGE; reset 0x00. -/
  stage : Nat := 0
  /-- 8 bits; 17 R418 ID_BOOT_FAULT; reset 0x00. -/
  fault : Nat := 0
  /-- 1 bit; 17 R418 ID_BOOT_NL_MAP_VALID; reset 0. -/
  mapValid : Bool := false
  /-- 1 bit; 17 R418 ID_BOOT_WARM; reset 0. -/
  warm : Bool := false
  /-- 1 bit; 17 R418 ID_BOOT_RETREAT; reset 0. -/
  retreat : Bool := false
  /-- 1 bit; 17 R415 PCIe link in L0; reset 0. -/
  pcieUp : Bool := false
  /-- record; 17 R409 the map the sequencer used; reset none. -/
  map : Option NlMap := none
  /-- list; 17 R413 passes; reset none. -/
  passes : List Pass := []
  /-- 1 bit; 17 R410: no pass record was skipped; reset 0. -/
  skipped : Bool := false
  /-- ns; 24 R547 ID_UPTIME, in ns since PORST_N release; reset 0. -/
  uptime : Nat := 0
  /-- list of (major, minor); 03 R77 what the running firmware serves; reset DC 14 (1, 3). -/
  majors : List (Nat × Nat) := [(1, 3)]
  /-- 64 bits; 24 R547 ID_FW_BUILD; reset 0. -/
  fwBuild : Nat := 0
  /-- 16 bits; 24 R547 ID_FW_SECURITY_RUNNING; reset 0. -/
  fwSvn : Nat := 0
  /-- u8; 17 R424 mode of an accepted DEVICE_RESTART: 0 FULL, 1 KEEP_NIGHTLIGHT; reset none. -/
  restart : Option Nat := none
  /-- 1 bit; 17 R407, R419 HBM has been trained in this start; reset 0. -/
  hbmTrained : Bool := false
  /-- 1 bit; 25 R559 a rail excursion holds the module in reset; reset 0. -/
  railBad : Bool := false
  deriving DecidableEq, Repr

/-! ## Health -/

/-- A fenced unit (R529). -/
structure Fence where
  /-- u8; 23 R518 class 1 to 8. -/
  cls : Nat
  /-- u16; 23 R527 physical unit number. -/
  idx : Nat
  /-- 23 R528: 0 hard fault, 1 policy, 2 command, 3 AUTO_FENCE. -/
  cause : Nat
  deriving DecidableEq, Repr

/-- A test in progress (R526). -/
structure UnitTest where
  /-- u8; 23 R526. -/
  cls : Nat
  /-- u16; 23 R526. -/
  idx : Nat
  /-- u8; 23 R526 test code. -/
  code : Nat
  /-- u64; the UNIT_TEST's or UNIT_UNFENCE's JSN. -/
  jsn : Nat
  /-- 23 R526 AUTO_FENCE. -/
  auto : Bool
  /-- 23 R528: the work has moved and the test runs. -/
  running : Bool
  /-- 23 R531: the test of a UNIT_UNFENCE has passed; the unit returns at this position. -/
  due : Option (Nat × Nat × Nat)
  deriving DecidableEq, Repr

/-- A fencing policy (R532). -/
structure Policy where
  /-- u32; 23 R532; reset 0. -/
  threshold : Nat := 0
  /-- u32 s; 23 R532; reset DC 15 1. -/
  window : Nat := 1
  deriving DecidableEq, Repr

/-- Health, fencing and the thermal policy. -/
structure Health where
  /-- list; 23 R529, 24 R552 HLT_FENCE; reset none. -/
  fences : List Fence := []
  /-- 32 × 5 bits; 23 R527 physical pipe of a logical pipe; reset identity. -/
  pipeBind : Tab Nat := []
  /-- 16 × 4 bits; 23 R527 physical canvas of a logical canvas; reset identity. -/
  canvasBind : Tab Nat := []
  /-- list; 23 R526 tests in progress; reset none. -/
  tests : List UnitTest := []
  /-- 4; 23 R532 policies by condition code; reset threshold 0. -/
  policies : Tab Policy := []
  /-- list of (condition, unit, DT); 23 R532 counted occurrences; reset none. -/
  hits : List (Nat × Nat × Nat) := []
  /-- list; 23 R531, 19 R468 stacks that a UNIT_UNFENCE returns at the next start; reset none. -/
  unfencing : List Nat := []
  /-- i16 0.1 °C; 23 R533 Tj; reset DC 15 0. -/
  tj : Int := 0
  /-- i16 0.1 °C; 24 R552 HLT_TJ_PEAK; reset DC 15 0. -/
  tjPeak : Int := 0
  /-- u8; 23 R533 thermal steps in force; reset 0. -/
  steps : Nat := 0
  /-- 1 bit; 23 R534 thermal trip; reset 0. -/
  tripped : Bool := false
  /-- count; 24 R552 HLT_TRIP_COUNT; reset 0. -/
  trips : Nat := 0
  deriving DecidableEq, Repr

end Sys2Proof.Machine
end

