-- ==== Sys2Proof/Machine/Records/Canvases.lean ====
section
/-! DEFINITION. State records of canvases, surfaces, Mirror and panel ports (R212 to R254). -/

namespace Sys2Proof.Machine

/-- A layer record that waits for its layer to be ready (R230). -/
structure Waiting where
  /-- 64 bytes; 08 R225. -/
  rec_ : Bytes
  /-- frames; 08 R230 Dusk lines it has been held at. -/
  held : Nat
  /-- u64; the command it belongs to. -/
  jsn : Nat
  deriving DecidableEq, Repr

/-- A layer of a canvas (R225, R230). -/
structure Layer where
  /-- 64 bytes; 08 R225, R230 the configuration last committed; reset none. -/
  cfg : Option Bytes := none
  /-- 08 R230 the pending record; reset none. -/
  waiting : Option Waiting := none
  /-- 64 bits; 08 R243 LAYER_HELD frames; reset 0. -/
  held : Nat := 0
  /-- 64 bits; 08 R243 expired commits; reset 0. -/
  expired : Nat := 0
  deriving DecidableEq, Repr

/-- The flattened image of a canvas (R233, R234). -/
inductive Flat where
  | none
  | building
  | built
  | inUse
  deriving DecidableEq, Repr

/-- A canvas, by logical number (R212). -/
structure Canvas where
  /-- 24 bytes; 08 R215; reset zeros, disabled. -/
  cfg : Bytes := []
  /-- 16 layers; 08 R212; reset none committed. -/
  layers : Tab Layer := []
  /-- 64 KiB units; 08 R233 flatten budget; reset 0. -/
  budget : Nat := 0
  /-- 2 bits; 08 R234 the flattened image; reset none. -/
  flat : Flat := .none
  /-- at most 16 (destination, enabled, enable in effect); 08 R238 clone group; reset none. -/
  members : List (Nat × Bool × Bool) := []
  /-- u32; 08 R238 shared fine offset; reset 0. -/
  cloneFine : Nat := 0
  /-- list of handles; 08 R235 surfaces read for the frame in composition. -/
  reading : List Nat := []
  /-- 64 bits; 08 R243 frames composed; reset 0. -/
  frames : Nat := 0
  /-- 64 bits; 08 R237 CANVAS_LATE_LINE; reset 0. -/
  lateLines : Nat := 0
  /-- 64 bits; 08 R239 SCANOUT_LATE_LINE; reset 0. -/
  scanLate : Nat := 0
  /-- 64 bits; 08 R224 TTC_TILE_ERROR; reset 0. -/
  tileErrors : Nat := 0
  /-- 64 bits; 08 R243 flatten builds; reset 0. -/
  builds : Nat := 0
  deriving DecidableEq, Repr

/-- Surface states of R219. -/
inductive SurfState where
  | idle
  | active
  | afterglow
  deriving DecidableEq, Repr

/-- A surface (R216). -/
structure Surface where
  /-- u64; 08 R216 HBM address. -/
  addr : Nat
  /-- u64; 08 R216 size in bytes. -/
  size : Nat
  /-- u32; 08 R216 stride. -/
  stride : Nat
  /-- u16; 08 R216 width. -/
  width : Nat
  /-- u16; 08 R216 height. -/
  height : Nat
  /-- u8; 08 R217 format. -/
  format : Nat
  /-- u8; 08 R218 layout. -/
  layout : Nat
  /-- 2 bits; 08 R219. -/
  state : SurfState := .idle
  /-- 1 bit; 08 R220 READY. -/
  ready : Bool := false
  /-- 64 bits; 08 R220 blocked writes. -/
  blocked : Nat := 0
  /-- u64; 08 R235 JSN of the SURFACE_RELEASE that waits. -/
  releaseJsn : Option Nat := none
  deriving DecidableEq, Repr

/-- Mirror of one output (R241, R242). -/
structure Mirror where
  /-- 64 bits by link; 08 R242 mismatched lines; reset 0. -/
  lines : List Nat := [0, 0, 0, 0]
  /-- 64 bits by link; 08 R243 MIRROR_NO_SIGNAL entries; reset 0. -/
  noSignal : List Nat := [0, 0, 0, 0]
  /-- 1 bit; 08 R242 a mismatch was raised and MIRROR_CLEAR not since; reset 0. -/
  bad : Bool := false
  /-- frames; 08 R242 consecutive frames without a mismatch; reset 0. -/
  clean : Nat := 0
  deriving DecidableEq, Repr

/-- Canvases, surfaces and Mirror. -/
structure Pictures where
  /-- 16; 08 R212. -/
  canvases : Tab Canvas := []
  /-- at most 4,096, by handle; 08 R216; reset none. -/
  surfaces : Tab Surface := []
  /-- u32; 08 R216 the next handle; reset DC 21 1. -/
  nextHandle : Nat := 1
  /-- by output; 08 R241. -/
  mirrors : Tab Mirror := []
  deriving DecidableEq, Repr

/-- Panel port states of R254. -/
inductive PanelState where
  | disabled
  | active
  | stretched
  deriving DecidableEq, Repr

/-- A panel port (R244 to R254). -/
structure Panel where
  /-- 24 bytes; 09 R245; reset zeros, disabled. -/
  cfg : Bytes := []
  /-- 3 × up to 256 bytes; 09 R246 INIT, IDLE, ACTIVE; reset empty. -/
  seqs : List Bytes := [[], [], []]
  /-- 56 bytes; 09 R248 content; reset zeros (CANVAS, whole picture). -/
  content : Bytes := []
  /-- 2 bits; 09 R254; reset DISABLED. -/
  state : PanelState := .disabled
  /-- 1 bit; 09 R244, R247 level of PPn_RESET_N; reset low. -/
  resetHigh : Bool := false
  /-- list of (ms to wait, command); 09 R247 what the enable or disable sequence still does. -/
  script : List (Nat × Bytes) := []
  /-- list; 09 R244 the DCS commands sent on the link, newest first, at most 16. -/
  sent : List Bytes := []
  /-- 1 bit; 09 R247 the disable sequence ends by driving PPn_RESET_N low. -/
  closing : Bool := false
  /-- list of tiles; 09 R249 dirty tiles, ascending. -/
  dirty : List Nat := []
  /-- 1 bit; 09 R250 a fill has completed since the last push. -/
  filled : Bool := false
  /-- list of (x, y, width, height); 09 R250 regions of the push in progress. -/
  pushing : List (Nat × Nat × Nat × Nat) := []
  /-- tiles; 09 R250 the tiles of that push. -/
  pushTiles : List Nat := []
  /-- frames; 09 R253 consecutive fills without a dirty tile. -/
  still : Nat := 0
  /-- frames; 09 R253 frames since the last fill in STRETCHED. -/
  skip : Nat := 0
  /-- 1 bit; 09 R253 the ACTIVE sequence is owed before the next push. -/
  oweActive : Bool := false
  /-- 1 bit; 09 R252 TE is lost. -/
  teLost : Bool := false
  /-- count; 09 R252 consecutive well-spaced TE edges. -/
  teGood : Nat := 0
  /-- DT; 09 R252 the last TE edge. -/
  teLast : Option Nat := none
  /-- ns; 09 R254 measured TE period; reset 0. -/
  tePeriod : Nat := 0
  /-- 64 bits; 09 R254 fills. -/
  fills : Nat := 0
  /-- 64 bits; 09 R254 pushes. -/
  pushes : Nat := 0
  /-- 64 bits; 09 R254 pushed tiles. -/
  tiles : Nat := 0
  /-- 64 bits; 09 R254 PANEL_FILL_SKIPPED frames. -/
  skipped : Nat := 0
  /-- 64 bits; 09 R254 PANEL_TE_LOST entries. -/
  teLosses : Nat := 0
  deriving DecidableEq, Repr

/-- The panel ports. -/
structure Panels where
  /-- 2; 09 R244. -/
  ports : Tab Panel := []
  deriving DecidableEq, Repr

end Sys2Proof.Machine
end

