-- ==== Sys2Proof/Machine/Records/Cascade.lean ====
section
/-! DEFINITION. State records of the Lightpipe cascade (R394 to R406). -/

namespace Sys2Proof.Machine

/-- A link of the cascade (R396, R397). -/
structure Link where
  /-- list of quads; 16 R396 its quads, lowest first. -/
  quads : List Nat
  /-- u8; 16 R396 the module expected at the other end. -/
  expected : Nat
  /-- u8; 16 R398 the peer module found. -/
  peer : Option Nat := none
  /-- 1 bit; 16 R398, R400 the peer is configured MASTER. -/
  peerMaster : Bool := false
  /-- count; 16 R398 HELLO packets received in the attempt. -/
  hellos : Nat := 0
  /-- 4 bytes; 16 R396 the link's entry of CASCADE_CONFIGURE. -/
  entry : Bytes := []
  /-- u8; 16 R398 negotiated version. -/
  version : Nat := 0
  /-- ns; 16 R400, R406 measured one-way delay. -/
  delay : Nat := 0
  /-- 64 bits; 16 R397, R406 LP_CRC_ERROR. -/
  crcErrors : Nat := 0
  /-- 64 bits; 16 R406 packets sent. -/
  packetsOut : Nat := 0
  /-- 64 bits; 16 R406 bytes sent. -/
  bytesOut : Nat := 0
  /-- 64 bits; 16 R406 packets received. -/
  packetsIn : Nat := 0
  /-- 64 bits; 16 R406 bytes received. -/
  bytesIn : Nat := 0
  deriving DecidableEq, Repr

/-- A subscription to an export that crosses a link of this module (R403). -/
structure Subscription where
  /-- u8; 16 R402 origin module. -/
  origin : Nat
  /-- u8; 16 R402 slot. -/
  slot : Nat
  /-- u8; 16 R403 the module that takes it. -/
  taker : Nat
  /-- the link it leaves or enters by; none: no path (R405). -/
  link : Option Nat
  /-- hops; 16 R405. -/
  hops : Nat
  /-- 1/160 Gb/s; 16 R403 charge. -/
  charge : Nat
  deriving DecidableEq, Repr

/-- What is known of a remote source (R402, R404). -/
structure Remote where
  /-- 16 R404 raster and rate of its export's group at the origin. -/
  raster : Nat
  rate : Nat
  /-- i32; 16 R404 phase offset of that group. -/
  phase : Int
  /-- 16 R404 the origin's cascade time is LOCKED, or it is the master. -/
  locked : Bool
  deriving DecidableEq, Repr

/-- The cascade. -/
structure Cascade where
  /-- bytes; 16 R396 the configuration as CASCADE_CONFIGURE gave it; reset zeros, no cascade. -/
  cfg : Bytes := []
  /-- by link number LP0 to LP3; 16 R396 configured links; reset none. -/
  links : Tab Link := []
  /-- by slot; 16 R402 timing group of an export slot; reset TG0. -/
  exports_ : Tab Nat := []
  /-- list; 16 R403 subscriptions; reset none. -/
  subs : List Subscription := []
  /-- by source identifier; 16 R404 remote sources heard of; reset none. -/
  remotes : Tab Remote := []
  /-- 1 bit; 16 R400 this module is time master in effect; reset 0. -/
  master : Bool := false
  /-- u8; 16 R400 the link cascade time is taken over; reset none. -/
  timeLink : Option Nat := none
  /-- hops; 16 R400 of the path time is taken over; reset 0. -/
  timeHops : Nat := 0
  /-- count; 16 R401 consecutive TIME packets within 20 ns; reset 0. -/
  timeGood : Nat := 0
  /-- DT; 16 R401 of the last TIME packet; reset none. -/
  timeLast : Option Nat := none
  /-- 1 bit; 16 R401 cascade time LOCKED; reset 0. -/
  timeLocked : Bool := false
  /-- ns; 16 R406 cascade time offset; reset 0. -/
  timeOffset : Int := 0
  deriving DecidableEq, Repr

end Sys2Proof.Machine
end

