-- ==== Sys2Proof/Machine/Records/Clocks.lean ====
section
/-! DEFINITION. State records of the PLLs and clock inputs (R505 to R517). -/

namespace Sys2Proof.Machine

/-- A PLL; indices as in R518: 0 SYSPLL, 1 FPLL, 2 to 37 QPLL00-QPLL35, 38 to 45 RSYN0-RSYN7, 46 to 49
ASYN0-ASYN3. -/
structure Pll where
  /-- 3 bits; 22 R517: 0 OFF, 1 ACQUIRING, 2 LOCKED, 3 HOLDOVER, 4 ECLIPSE, 5 GLIDE, 6 FAILED;
  reset 0 (R544, R552). -/
  state : Nat := 0
  /-- i32 0.001 ppm; 22 R517, 24 R552 PLL_WORD; reset 0. -/
  word : Int := 0
  /-- 0.001 ppm; 22 R514 what a Glide still has to move; reset 0. -/
  left : Int := 0
  /-- u32; 22 R508 dither seed; reset 0x1357_0000 + i for synthesiser i, others DC 18 0. -/
  seed : Nat := 0
  /-- 1 bit; 22 R509 output 1 of an RSYN (RCLK) enabled; reset 0. -/
  rclkOn : Bool := false
  /-- 7 bits; 22 R509 divider of RCLK; reset DC 18 1. -/
  rclkDiv : Nat := 1
  /-- u32; 22 R510 phase delay of RCLK, or of ASYN output 2; reset 0. -/
  delay2 : Nat := 0
  /-- u32; 22 R510 phase delay of ASYN output 3; reset 0. -/
  delay3 : Nat := 0
  /-- 64 bits; 22 R517 lock losses; reset 0. -/
  losses : Nat := 0
  /-- 64 bits; 22 R517 Eclipses; reset 0. -/
  eclipses : Nat := 0
  /-- 64 bits; 22 R517 Glides; reset 0. -/
  glides : Nat := 0
  /-- 64 bits; 22 R517 FAILED entries; reset 0. -/
  faileds : Nat := 0
  deriving DecidableEq, Repr

/-- A PLL at reset: the default seeds of R508. -/
def Pll.reset (p : Nat) : Pll := if 38 ≤ p ∧ p ≤ 49 then { seed := 0x13570000 + (p - 38) } else {}

/-- An external clock input (R516): 0 SYS_XO, 1 AO_XO, 2 REF, 3 + n TDMn_BCLK. -/
structure ClockIn where
  /-- 64 bits; 22 R517 SHORT Glints; reset 0. -/
  short : Nat := 0
  /-- 64 bits; 22 R517 MISSING Glints; reset 0. -/
  missing : Nat := 0
  /-- list of DT; 22 R516 Glints of the last millisecond; reset none. -/
  recent : List Nat := []
  /-- 1 bit; 22 R516 the input is lost; reset 0. -/
  lost : Bool := false
  deriving DecidableEq, Repr

/-- PLLs and clock inputs. -/
structure Clocks where
  /-- 50 PLLs; 22 R505; reset OFF. -/
  plls : Tab Pll := []
  /-- 8 outputs; 22 R510 VCO periods of a period of ASYNk output 2 or 3; reset DC 18 48. -/
  amclk : Tab Nat := []
  /-- 19 inputs; 22 R516; reset no Glint. -/
  inputs : Tab ClockIn := []
  deriving DecidableEq, Repr

end Sys2Proof.Machine
end

