-- ==== Sys2Proof/Machine/Records/Coding.lean ====
section
/-! DEFINITION. State records of the coding cores, encode and decode channels (R255 to R325). -/

namespace Sys2Proof.Machine

/-- A host-memory ring of a channel (R282, R309). -/
structure HostRing where
  /-- u64; 10 R282, 12 R309 base, 0 disabled; reset 0. -/
  base : Nat := 0
  /-- u32; size in bytes; reset 0. -/
  size : Nat := 0
  /-- u64; producer (write-back) address; reset 0. -/
  prodAddr : Nat := 0
  /-- u64; consumer (write-back) address; reset 0. -/
  consAddr : Nat := 0
  /-- u64; producer index; reset 0. -/
  prod : Nat := 0
  /-- u64; consumer index; reset 0. -/
  cons : Nat := 0
  deriving DecidableEq, Repr

/-- One decoding unit of a picture in coding (R286, R303). -/
structure Du where
  /-- 11 R298 its last source line is in memory. -/
  ready : Bool := false
  /-- 10 R267 it has entered the analysis stage. -/
  analysed : Bool := false
  /-- 11 R298 its input was late. -/
  late : Bool := false
  /-- 11 R297 its complexity: analysed, or of the co-located DU of the picture before. -/
  complexity : Nat := 1
  /-- bits; 11 R297 row target. -/
  target : Nat := 0
  /-- 11 R293 decided: bits spent, filler excluded. -/
  bits : Option Nat := none
  /-- bits; 11 R287 filler. -/
  filler : Nat := 0
  /-- ns; 11 R286 arrival margin. -/
  margin : Nat := 0
  /-- ns; 11 R302 arrival lead, removal less arrival end. -/
  lead : Nat := 0
  /-- CTUs; 11 R303 floored. -/
  floored : Nat := 0
  /-- u8; 11 R303 mean QP. -/
  qp : Nat := 0
  /-- 10 R267 closed and handed to the packetiser. -/
  closed : Bool := false
  deriving DecidableEq, Repr

/-- A picture in coding (R270, R302). -/
structure EncPic where
  /-- u48; 11 R302 input picture F. -/
  frame : Nat
  /-- 10 R260 the second field of an interlaced frame. -/
  second : Bool
  /-- count; 10 R268 pictures since the channel began. -/
  number : Nat
  /-- u8; 11 R302 picture type: 0 IDR, 1 GDR, 2 P, 3 B, 4 intra, 5 repeat. -/
  type : Nat
  /-- u16; 11 R302 flags. -/
  flags : Nat
  /-- u8; 10 R277 effective effort. -/
  effort : Nat
  /-- count; 10 R273 place in the sweep. -/
  sweep : Nat
  /-- u8; 11 R302 picture QP. -/
  qp : Nat := 0
  /-- bits; 11 R296 target. -/
  target : Nat
  /-- DT; 11 R302 DT of the picture's start. -/
  start : Nat
  /-- 10 R275 its buffer in the pool. -/
  buffer : Nat
  /-- list; 10 R267 its DUs. -/
  dus : List Du
  /-- 11 R293, R301 for each half, whether it is at floor. -/
  floors : List Bool := [false, false]
  /-- 11 R293 the DU and CTU at which FLOOR began, and the limit there. -/
  floor : Option (Nat × Nat × Nat) := none
  /-- 10 R265 the refresh of this picture was forced or due. -/
  refresh : Bool
  deriving DecidableEq, Repr

/-- An encode channel (R261). -/
structure Enc where
  /-- 48 bytes; 10 R261 as opened. -/
  cfg : Bytes
  /-- 10 R256, R257 the cores that carry it. -/
  cores : List Nat
  /-- 1 bit; 10 R261 its first picture has begun. -/
  begun : Bool := false
  /-- 1 bit; 10 R266 closed; the packetiser sends its rest. -/
  closed : Bool := false
  /-- 1 bit; 10 R271, R284 STOPPED. -/
  stopped : Bool := false
  /-- u32 kb/s; 10 R264 bit rate in use. -/
  rate : Nat
  /-- u8; 10 R264 effort requested. -/
  effort : Nat
  /-- u16; 10 R264 refresh period in use. -/
  period : Nat
  /-- u8; 10 R264 minimum QP in use. -/
  minQp : Nat
  /-- 1 bit; 10 R265 a refresh is owed. -/
  force : Bool := false
  /-- 1 bit; 11 R299 the next picture begins with a new rate. -/
  rateChanged : Bool := false
  /-- count; 10 R268 pictures begun. -/
  pictures : Nat := 0
  /-- count; 10 R273 pictures since the refresh began. -/
  since : Nat := 0
  /-- list; 11 R297 complexities of the DUs of the last picture analysed. -/
  lastComplex : List Nat := []
  /-- u8; 11 R300 type of the picture before. -/
  lastType : Nat := 0
  /-- 1 bit; 10 R271 a core of the channel failed: it moves at the next frame boundary. -/
  moving : Bool := false
  /-- up to 16 marks; 10 R274 buffer marks. -/
  pool : List Nat
  /-- list of buffers; 10 R272 short-term references, newest first. -/
  shorts : List Nat := []
  /-- 10 R272 long-term reference. -/
  long : Option Nat := none
  /-- 11 R286 arrival end of the last DU, × bit rate, in the channel's time units. -/
  fPrev : Option Nat := none
  /-- 10 R270 pictures in coding, oldest first. -/
  pics : List EncPic := []
  /-- 1 bit; 11 R296 the last picture was FLOORED. -/
  wasFloored : Bool := false
  /-- 32 bytes; 10 R280 packetiser settings; reset zeros. -/
  pack : Bytes := []
  /-- 32 bytes; 10 R280 packetiser settings that wait for the next access unit; reset none. -/
  packNext : Option Bytes := none
  /-- u32; 10 R281 RTP restarts of the stream, each with a new SSRC; reset 0. -/
  streams : Nat := 0
  /-- 10 R282 host ring. -/
  ring : HostRing := {}
  /-- 1 bit; 10 R283 records are omitted up to the next RECOVERY. -/
  omitting : Bool := false
  /-- 1 bit; 10 R271, R283 the next record carries DISCONTINUITY. -/
  discont : Bool := false
  /-- list of record headers; 10 R282 written to the host ring, newest first, at most 64. -/
  written : List Bytes := []
  /-- up to 1,024; 11 R302 picture records, newest first. -/
  records : List Bytes := []
  /-- up to 4 pictures; 11 R302 their row records, newest first. -/
  rows : List (List Bytes) := []
  /-- 64 bits; 10 R284 pictures coded. -/
  nCoded : Nat := 0
  /-- 64 bits; 10 R284 recovery points. -/
  nRecovery : Nat := 0
  /-- 64 bits; 10 R284 REPEAT pictures. -/
  nRepeat : Nat := 0
  /-- 64 bits; 10 R284 FLOORED pictures. -/
  nFloored : Nat := 0
  /-- 64 bits; 10 R284 HEADER_LATE pictures. -/
  nHeaderLate : Nat := 0
  /-- 64 bits; 10 R284 floor-slice DUs. -/
  nFloorDus : Nat := 0
  /-- 64 bits; 10 R284 stops. -/
  nStops : Nat := 0
  /-- 64 bits; 10 R284 restarts. -/
  nRestarts : Nat := 0
  /-- 64 bits; 10 R284 DUs to the stream ring. -/
  nDus : Nat := 0
  /-- 64 bits; 10 R284 bytes to the stream ring. -/
  nBytes : Nat := 0
  /-- 64 bits; 10 R284 HOST_RING_OVERRUN. -/
  nOverrun : Nat := 0
  deriving DecidableEq, Repr

/-- A picture of a decode channel (R310 to R319). -/
structure DecPic where
  /-- i32; 12 R325 POC. -/
  poc : Int
  /-- u8; 12 R325 picture type: 0 IRAP, 1 GDR, 2 P, 3 B, 4 other intra. -/
  type : Nat
  /-- ns; 12 R310 presentation stamp p(i). -/
  stamp : Int
  /-- 12 R311 source frame F(i). -/
  frame : Nat
  /-- 12 R310 all its data has arrived. -/
  arrived : Bool
  /-- 12 R311 decoded. -/
  done : Bool
  /-- 12 R325 flags. -/
  flags : Nat
  /-- 12 R325 error classes. -/
  errors : Nat
  /-- CTUs; 12 R315 concealed. -/
  concealed : Nat
  /-- bytes; 12 R325 coded bytes. -/
  bytes : Nat
  /-- list; 12 R318 POCs of its reference set; true for long-term. -/
  refs : List (Int × Bool)
  /-- 12 R317 the recovery POC count, for a GDR picture or recovery point. -/
  recovery : Option Nat
  /-- 12 R319 an IRAP picture with no_output_of_prior_pics_flag 1. -/
  noPrior : Bool
  /-- 12 R319 its decoding has begun, in this buffer of the pool. -/
  buffer : Option Nat := none
  /-- 12 R316, R317 it is never sent: finished by its deadline, or decoded while HOLDING. -/
  unsent : Bool := false
  /-- 12 R322 its time code and captions. -/
  anc : List AncPacket := []
  deriving DecidableEq, Repr

/-- One buffer of a decode pool (R274, R319). -/
structure Buf where
  /-- 3 bits; 10 R274 mark. -/
  mark : Nat := 0
  /-- i32; 12 R318 the POC it holds or stands for. -/
  poc : Int := 0
  /-- 12 R318 for SUBSTITUTE: the POC of the picture it points to. -/
  points : Option Int := none
  /-- 12 R319 the picture has been output. -/
  output : Bool := false
  /-- 12 R315 the picture is CONCEALED or PROPAGATED, or used a substitute. -/
  damaged : Nat := 0
  deriving DecidableEq, Repr

/-- The state of a decode channel (R317, R320). -/
inductive DecState where
  | decoding
  | holding
  | stopped
  deriving DecidableEq, Repr

/-- A decode channel (R305). -/
structure Dec where
  /-- 48 bytes; 12 R305 as opened. -/
  cfg : Bytes
  /-- 12 R304 the cores that carry it. -/
  cores : List Nat
  /-- 1 bit; 12 R305 its first source frame has begun. -/
  begun : Bool := false
  /-- 12 R317; at open HOLDING. -/
  state : DecState := .holding
  /-- u32 µs; 12 R307 output delay in use. -/
  delay : Nat
  /-- u8; 12 R307 loss behaviour in use. -/
  lossMode : Nat
  /-- u16; 12 R307 loss timeout in use. -/
  lossTimeout : Nat
  /-- ns; 12 R310 FREE offset; reset none until the first picture. -/
  offset : Option Int := none
  /-- 64; 12 R310 last packet's arrival minus p(i), newest first. -/
  lateness : List Int := []
  /-- u32; 12 R310 the stream's SSRC. -/
  ssrc : Option Nat := none
  /-- bytes; 12 R313 fill of the de-jitter buffer. -/
  fill : Nat := 0
  /-- bytes; 12 R325 least fill since open. -/
  least : Nat := 0
  /-- bytes; 12 R325 greatest fill since open. -/
  most : Nat := 0
  /-- list; 12 R311 pictures in decode order. -/
  pics : List DecPic := []
  /-- up to 16; 12 R319 the pool. -/
  pool : List Buf
  /-- u48; 12 R312 frame of the last picture sent. -/
  lastFrame : Option Nat := none
  /-- 12 R317 the POC of the last picture sent; none: house black. -/
  shown : Option Int := none
  /-- 1 bit; 12 R317, R321 the source sends house black: no picture has been sent, or it is in LOSS under BLACK. -/
  black : Bool := true
  /-- frames; 12 R321 since a newly decoded picture was sent. -/
  stale : Nat := 0
  /-- frames; 12 R321 HOLDING or STOPPED. -/
  held : Nat := 0
  /-- 12 R315, R317 POC at which the recovery in progress completes. -/
  recoverAt : Option Int := none
  /-- 1 bit; 12 R315 damage since the recovery in progress began. -/
  damagedSince : Bool := false
  /-- 12 R324 OUTPUT_DELAY_CHANGED in the frame in progress. -/
  delayChanged : Bool := false
  /-- DT; 12 R310 when the FREE offset last slewed; reset none. -/
  slewed : Option Nat := none
  /-- 1 bit; 12 R314 UNSUPPORTED or FORMAT: only an IRAP picture that fits resumes. -/
  irapOnly : Bool := false
  /-- 1 bit; 12 R320 a core of the channel failed: it moves at the next frame boundary. -/
  moving : Bool := false
  /-- list; 12 R322 ancillary packets of the source frame in progress. -/
  anc : List AncPacket := []
  /-- 12 R309 host ring. -/
  ring : HostRing := {}
  /-- up to 1,024; 12 R325 picture records, newest first. -/
  records : List Bytes := []
  /-- 10 × 64 bits; 12 R325 errors by class. -/
  errors : List Nat := [0, 0, 0, 0, 0, 0, 0, 0, 0, 0]
  /-- 64 bits; 12 R325 pictures decoded. -/
  nDecoded : Nat := 0
  /-- 64 bits; 12 R325 frames sent. -/
  nSent : Nat := 0
  /-- 64 bits; 12 R325 REPEAT. -/
  nRepeat : Nat := 0
  /-- 64 bits; 12 R325 DROPPED. -/
  nDropped : Nat := 0
  /-- 64 bits; 12 R325 DEADLINE_MISSED. -/
  nMissed : Nat := 0
  /-- 64 bits; 12 R325 concealed CTUs. -/
  nConcealedCtus : Nat := 0
  /-- 64 bits; 12 R325 CONCEALED pictures. -/
  nConcealed : Nat := 0
  /-- 64 bits; 12 R325 PROPAGATED pictures. -/
  nPropagated : Nat := 0
  /-- 64 bits; 12 R325 SUBSTITUTE_USED pictures. -/
  nSubstitute : Nat := 0
  /-- 64 bits; 12 R325 HOLDING entries. -/
  nHolding : Nat := 0
  /-- 64 bits; 12 R325 pictures discarded while HOLDING. -/
  nDiscarded : Nat := 0
  /-- 64 bits; 12 R325 frames in LOSS. -/
  nLoss : Nat := 0
  /-- 64 bits; 12 R325 stops. -/
  nStops : Nat := 0
  /-- 64 bits; 12 R325 restarts. -/
  nRestarts : Nat := 0
  /-- 64 bits; 12 R325 bytes received. -/
  nBytes : Nat := 0
  /-- 64 bits; 12 R325 LATE_DATA bytes. -/
  nLateBytes : Nat := 0
  deriving DecidableEq, Repr

/-- The coding cores (R255). -/
structure Coding where
  /-- 8 × 2 bits; 10 R255 mode of each core: 0 IDLE, 1 ENCODE, 2 DECODE, 3 CONVERT; reset 0. -/
  modes : Tab Nat := []
  /-- 32; 10 R261 open encode channels; reset none. -/
  encs : Tab Enc := []
  /-- 16; 12 R305 open decode channels; reset none. -/
  decs : Tab Dec := []
  /-- by core; 10 R256 the group at whose frame boundary a core returns to IDLE; reset none. -/
  returning : Tab Nat := []
  deriving DecidableEq, Repr

end Sys2Proof.Machine
end

