-- ==== Sys2Proof/Machine/Records/Conversion.lean ====
section
/-! DEFINITION. State records of the conversion pipes (R183 to R211). -/

namespace Sys2Proof.Machine

/-- A bank of colour tables (R194). -/
structure Bank where
  /-- 24,576 bytes; 07 R194 LUT A; reset zeros. -/
  lutA : Bytes := []
  /-- 32 bytes; 07 R194 matrix; reset zeros. -/
  matrix : Bytes := []
  /-- 24,576 bytes; 07 R194 LUT B; reset zeros. -/
  lutB : Bytes := []
  deriving DecidableEq, Repr

/-- A picture stored by a pipe in capture mode (R196, R197). -/
structure Stored where
  seq : Nat
  /-- DT; 07 R196 its start at the pipe input. -/
  start : Nat
  /-- it is complete. -/
  done : Bool
  /-- 07 R197 its histogram differs from that of the picture before it. -/
  cut : Bool
  anc : List AncPacket
  deriving DecidableEq, Repr

/-- What a pipe sends in an output frame (R196, R197, R200). -/
inductive PipeOut where
  | black
  | selected
  | unmixed (seq : Nat)
  | mixed (a b weight : Nat) (motion : Bool)
  | again
  deriving DecidableEq, Repr

/-- The counters of R211. -/
structure PipeCount where
  /-- 64 bits; 07 R211 output frames; reset 0. -/
  frames : Nat := 0
  /-- 64 bits; 07 R211 repeats; reset 0. -/
  repeats : Nat := 0
  /-- 64 bits; 07 R211 drops; reset 0. -/
  drops : Nat := 0
  /-- 64 bits; 07 R211 blended frames; reset 0. -/
  blended : Nat := 0
  /-- 64 bits; 07 R211 motion-compensated frames; reset 0. -/
  motion : Nat := 0
  /-- 64 bits; 07 R211 unmixed frames; reset 0. -/
  unmixed : Nat := 0
  /-- 64 bits; 07 R211 SCENE_CUT; reset 0. -/
  sceneCut : Nat := 0
  /-- 64 bits; 07 R211 CAPTURE_LATE; reset 0. -/
  captureLate : Nat := 0
  /-- 64 bits; 07 R211 frames in fallback; reset 0. -/
  fallback : Nat := 0
  /-- 64 bits; 07 R211 loss frames; reset 0. -/
  loss : Nat := 0
  /-- 64 bits; 07 R211 cadence locks; reset 0. -/
  locks : Nat := 0
  /-- 64 bits; 07 R211 cadence unlocks; reset 0. -/
  unlocks : Nat := 0
  deriving DecidableEq, Repr

/-- A conversion pipe, by logical number (R183, R527). -/
structure Pipe where
  /-- 48 bytes; 07 R186 parameters in use; reset zeros, stopped. -/
  cfg : Bytes := []
  /-- 1, 2 or 4; 07 R203 size of the gang the pipe is first of; reset 1. -/
  gang : Nat := 1
  /-- 07 R194 active bank. -/
  bank : Bank := {}
  /-- 07 R194 inactive bank. -/
  spare : Bank := {}
  /-- 3 bits; 07 R201 borrowed core; reset none. -/
  core : Option Nat := none
  /-- 2 bits; 07 R202 fallback: 0 none, 1 temperature, 2 want of a core, 3 test; reset 0. -/
  fallback : Nat := 0
  /-- 2 bits; 07 R189, R211 cadence: 0 none, 1 locked 3:2, 2 locked 2:2; reset 0. -/
  cadence : Nat := 0
  /-- 10 fields; 07 R189 whether each of the last fields continued its source picture, newest first. -/
  fields : List Bool := []
  /-- list; 07 R196 pictures stored in capture mode, newest first; reset none. -/
  stored : List Stored := []
  /-- 07 R197 what the output frame in progress carries; reset black. -/
  out : PipeOut := .black
  /-- list; 07 R208 EVENT packets not yet sent. -/
  events : List (Nat × AncPacket) := []
  /-- list; 07 R208 packets of the output frame in progress. -/
  anc : List AncPacket := []
  /-- 1 bit; 07 R187 PIPE_CROP_INVALID holds: the whole picture stands for the crop; reset 0. -/
  cropInvalid : Bool := false
  /-- 1 bit; 07 R210 PIPE_DELAY_CHANGED in the frame status; reset 0. -/
  delayChanged : Bool := false
  /-- 07 R211 counters. -/
  count : PipeCount := {}
  deriving DecidableEq, Repr

/-- The conversion pipes. -/
structure Conversion where
  /-- 32; 07 R183. -/
  pipes : Tab Pipe := []
  deriving DecidableEq, Repr

end Sys2Proof.Machine
end

