-- ==== Sys2Proof/Machine/Records/Cvu.lean ====
section
/-! DEFINITION. State records of the check-value units (R494 to R504). -/

namespace Sys2Proof.Machine

/-- One CVU (R495). -/
structure Cvu where
  /-- 4 bits; 21 R495 CVU_CTRL: CVU_LOAD_INIT, CVU_COMPARE, CVU_IRQ_DONE, CVU_IRQ_MISMATCH from bit 0; reset 0. -/
  ctrl : Nat := 0
  /-- 64 bits; 21 R495 CVU_CONFIG; reset 0. -/
  config : Nat := 0
  /-- 64 bits; 21 R495 CVU_POLY; reset 0. -/
  poly : Nat := 0
  /-- 64 bits; 21 R495 CVU_INIT; reset 0. -/
  init : Nat := 0
  /-- 64 bits; 21 R495 CVU_XOROUT; reset 0. -/
  xorout : Nat := 0
  /-- 64 bits; 21 R495 CVU_ADDR; reset 0. -/
  addr : Nat := 0
  /-- 64 bits; 21 R495 CVU_LENGTH; reset 0. -/
  length : Nat := 0
  /-- 64 bits; 21 R495 CVU_VALUE; reset 0. -/
  value : Nat := 0
  /-- 64 bits; 21 R495 CVU_EXPECT; reset 0. -/
  expect : Nat := 0
  /-- 1 bit; 21 R495 CVU_BUSY; reset 0. -/
  busy : Bool := false
  /-- 1 bit; 21 R495 CVU_DONE; reset 0. -/
  done : Bool := false
  /-- 1 bit; 21 R495 CVU_MATCH; reset 0. -/
  matched : Bool := false
  /-- 4 bits; 21 R495 CVU_END; reset 0. -/
  endCode : Nat := 0
  /-- 1 bit; 21 R495 CVU_WRITE_IGNORED; reset 0. -/
  ignored : Bool := false
  /-- 1 bit; 21 R495 CVU_IRQ; reset 0. -/
  irq : Bool := false
  /-- 64 bits; 21 R495 CVU_PROGRESS; reset 0. -/
  progress : Nat := 0
  /-- u64; 21 R504 the JSN of the CVU_SCAN that holds it; reset none. -/
  holder : Option Nat := none
  deriving DecidableEq, Repr

/-- The CVUs. -/
structure Cvus where
  /-- 8; 21 R494; reset as above. -/
  units : Tab Cvu := []
  deriving DecidableEq, Repr

end Sys2Proof.Machine
end

