-- ==== Sys2Proof/Machine/Records/Lanes.lean ====
section
/-! DEFINITION. State records of the serial lanes and quads (R369 to R393, R551). -/

namespace Sys2Proof.Machine

/-- Training states of R383. -/
inductive Train where
  | disabled
  | waitSignal
  | training
  | up
  | backoff
  | failed
  deriving DecidableEq, Repr

/-- The code of a training state (R383). -/
def Train.code : Train → Nat
  | .disabled => 0
  | .waitSignal => 1
  | .training => 2
  | .up => 3
  | .backoff => 4
  | .failed => 5

/-- A lane (R373, R551). -/
structure Lane where
  /-- 1 bit; 15 R373, 24 R551 LANE_CFG_RX_EN; reset 0. -/
  rxEn : Bool := false
  /-- 1 bit; 15 R373, 24 R551 LANE_CFG_TX_EN; reset 0. -/
  txEn : Bool := false
  /-- 4 bits; 15 R373, 24 R551 LANE_CFG_RX_IFACE; reset 0 AUTO. -/
  rxIface : Nat := 0
  /-- 4 bits; 15 R373, 24 R551 LANE_CFG_TX_IFACE; reset 0 AUTO. -/
  txIface : Nat := 0
  /-- 1 bit; 15 R373, 24 R551 LANE_CFG_RX_FIXED; reset 0. -/
  rxFixed : Bool := false
  /-- 4 bits; 24 R551 LANE_CFG_RX_RASTER; reset 0. -/
  rxRaster : Nat := 0
  /-- 4 bits; 24 R551 LANE_CFG_RX_RATE; reset 0. -/
  rxRate : Nat := 0
  /-- 2 bits; 15 R376, 24 R551 LANE_CFG_EQ_MODE; reset 0 ADAPTIVE. -/
  eqMode : Nat := 0
  /-- 3 × u16; 15 R373 receive links 2 to 4, 0xFFFF unused; reset unused. -/
  rxLinks : List Nat := [0xFFFF, 0xFFFF, 0xFFFF]
  /-- 3 × u16; 15 R373 transmit links 2 to 4, 0xFFFF unused; reset unused. -/
  txLinks : List Nat := [0xFFFF, 0xFFFF, 0xFFFF]
  /-- u8; 15 R373 CTLE boost of FIXED, 0.5 dB; reset 0. -/
  ctleSet : Nat := 0
  /-- 3 bits; 15 R373 flags: receive polarity, transmit polarity, DFE off; reset 0. -/
  flags : Nat := 0
  /-- i8; 24 R551 LANE_TX_PRE; reset 0. -/
  pre : Int := 0
  /-- i8; 24 R551 LANE_TX_POST; reset 0. -/
  post : Int := 0
  /-- 4 bits; 24 R551 LANE_TX_SWING; reset 8. -/
  swing : Nat := 8
  /-- 3 bits; 15 R383, 24 R551 LANE_TRAIN_STATE; reset 0 DISABLED. -/
  state : Train := .disabled
  /-- 3 bits; 24 R551 LANE_TRAIN_PHASE; reset 0. -/
  phase : Nat := 0
  /-- 3 bits; 24 R551 LANE_FAIL_PHASE; reset 0. -/
  failPhase : Nat := 0
  /-- 4 bits; 24 R551 LANE_ATTEMPTS; reset 0. -/
  attempts : Nat := 0
  /-- 1 bit; 15 R384, 24 R551 LANE_SIGNAL; reset 0. -/
  signal : Bool := false
  /-- 1 bit; 24 R551 LANE_CDR_LOCK; reset 0. -/
  cdrLock : Bool := false
  /-- 1 bit; 24 R551 LANE_FRAME_LOCK; reset 0. -/
  frameLock : Bool := false
  /-- 4 bits; 24 R551 LANE_RX_IFACE; reset 0. -/
  detIface : Nat := 0
  /-- 1 bit; 24 R551 LANE_RX_FAMILY; reset 0. -/
  detFamily : Nat := 0
  /-- i16 0.1 ppm; 24 R551 LANE_CDR_OFFSET; reset 0. -/
  cdrOffset : Int := 0
  /-- 6 bits; 24 R551 LANE_RX_EQ CTLE boost in use; reset 0. -/
  ctle : Nat := 0
  /-- 15 taps; 15 R376, 24 R551 LANE_RX_EQ DFE taps in use; reset 0. -/
  dfe : List Int := []
  /-- 15 R384 equaliser values of the last UP since the receiver was enabled; reset none. -/
  lastUp : Option (Nat × List Int) := none
  /-- 6 bits; 15 R384, 17 R413 CTLE seed of a Nightlight pass; reset none. -/
  seed : Option Nat := none
  /-- u8 1/64 UI; 24 R551 LANE_EYE horizontal opening; reset 0. -/
  eyeH : Nat := 0
  /-- u16 mV; 24 R551 LANE_EYE vertical opening; reset 0. -/
  eyeV : Nat := 0
  /-- u32; 24 R551 LANE_EYE reports since lock; reset 0. -/
  eyeReports : Nat := 0
  /-- ps; 15 R382, R393 measured skew within the link; reset 0. -/
  skew : Nat := 0
  /-- 64 bits; 15 R393 block-lock losses; reset 0. -/
  blockLosses : Nat := 0
  /-- 64 bits; 15 R393 LANE_HI_BER entries; reset 0. -/
  hiBer : Nat := 0
  /-- 1 bit; 15 R379 a link fault is signalled to the MAC; reset 0. -/
  linkFault : Bool := false
  /-- 64 bits; 15 R381, R393, 24 R551 BIP3 mismatches; reset 0. -/
  bip3 : Nat := 0
  /-- 64 bits; 24 R551 LANE_FEC corrected codewords; reset 0. -/
  fecCorr : Nat := 0
  /-- 64 bits; 24 R551 LANE_FEC uncorrectable codewords; reset 0. -/
  fecUncorr : Nat := 0
  /-- 64 bits; 24 R551 LANE_ERRORS errored lines; reset 0. -/
  errLines : Nat := 0
  /-- 64 bits; 24 R551 LANE_ERRORS TRS errors; reset 0. -/
  trsErrors : Nat := 0
  /-- 3 bits; 24 R551 LANE_TEST_GEN; reset 0. -/
  gen : Nat := 0
  /-- 3 bits; 24 R551 LANE_TEST_CHK; reset 0. -/
  chk : Nat := 0
  /-- 2 bits; 24 R551 LANE_TEST_GEN_INV and LANE_TEST_CHK_INV; reset 0. -/
  testInv : Nat := 0
  /-- 3 bits; 24 R551 LANE_TEST_INJECT; reset 0. -/
  inject : Nat := 0
  /-- u8; 15 R390 exponent of PRBS_RATE; reset 0. -/
  injExp : Nat := 0
  /-- u16; 15 R390 line of SDI_LINE_CRC; reset 0. -/
  injLine : Nat := 0
  /-- u16; 15 R390 frames of SDI_LINE_CRC left; reset 0. -/
  injFrames : Nat := 0
  /-- 1 bit; 24 R551 LANE_TEST_CHK_LOCK; reset 0. -/
  chkLock : Bool := false
  /-- 64 bits; 15 R389 bits checked; reset 0. -/
  chkBits : Nat := 0
  /-- 64 bits; 15 R389, 24 R551 LANE_TEST_BIT_ERRORS; reset 0. -/
  chkErrors : Nat := 0
  /-- 64 bits; 15 R389 lock losses of the checker; reset 0. -/
  chkLosses : Nat := 0
  deriving DecidableEq, Repr

/-- A quad (R18, R370). -/
structure Quad where
  /-- 3 bits; 15 R370 protocol code, 24 R551 LANE_QUAD_PROTOCOL; reset 0 UNALLOCATED (R18). -/
  protocol : Nat := 0
  /-- u8; 15 R370 mode; reset 0. -/
  mode : Nat := 0
  /-- u8; 15 R370 FEC; reset 0. -/
  fec : Nat := 0
  /-- u32 kHz; 15 R370 TEST VCO, 24 R552 QUAD_TEST_VCO; reset 0. -/
  vco : Nat := 0
  /-- 2 bits; 15 R391, 24 R552 QUAD_LOOPBACK; reset 0. -/
  loopback : Nat := 0
  deriving DecidableEq, Repr

/-- Lanes and quads. -/
structure Lanes where
  /-- 36 quads; 15 R370; reset UNALLOCATED. -/
  quads : Tab Quad := []
  /-- 144 lanes; 15 R373; reset DISABLED. -/
  lanes : Tab Lane := []
  /-- list of lane lists; 15 R383, 16 the lanes of each configured Lightpipe link; reset none. -/
  links : List (List Nat) := []
  /-- list; 15 R382 links whose excess skew was reported; reset none. -/
  skewTold : List Nat := []
  deriving DecidableEq, Repr

end Sys2Proof.Machine
end

