-- ==== Sys2Proof/Machine/Records/Lantern.lean ====
section
/-! DEFINITION. State records of the Lantern (R427 to R456) and of firmware images (R113, R441 to R445). -/

namespace Sys2Proof.Machine

/-- The OTP fuse key store (R437), without its secrets. -/
structure Fuses where
  /-- 4 × 384 bits; 18 R437, R573 authority slots, written at manufacture; reset DC 43 four values 1 to 4. -/
  authorities : List (BitVec 384) := [1, 2, 3, 4]
  /-- 4 bits; 18 R437 authority revoke bits; reset 0 (R573). -/
  revoked : Nat := 0
  /-- 2 × 384 bits; 18 R437 Crypto Officer slots; reset empty (R573). -/
  officers : List (Option (BitVec 384)) := [none, none]
  /-- 2 bits; 18 R437 Crypto Officer revoke bits; reset 0 (R573). -/
  officerRevoked : Nat := 0
  /-- thermometer of 64 bits; 18 R437 fuse security version; reset 0 (R573). -/
  version : Nat := 0
  /-- 1 bit; 18 R437; reset 0 (R573). -/
  dual : Bool := false
  /-- 1 bit; 18 R437; reset 0 (R573). -/
  debugDisable : Bool := false
  /-- 1 bit; 18 R437; reset 0 (R573). -/
  provisioned : Bool := false
  /-- 1 bit; 18 R437; reset 0 (R573). -/
  decommissioned : Bool := false
  deriving DecidableEq, Repr

/-- What the header and the components of a package say (R441). -/
structure Package where
  /-- u32; 18 R441 magic. -/
  magic : Nat
  /-- u16; 18 R441 image format version. -/
  format : Nat
  /-- u16; 18 R441 security version. -/
  version : Nat
  /-- u16; 18 R441 commit version. -/
  commit : Nat
  /-- u8; 18 R441 authority slot. -/
  authority : Nat
  /-- u8; 18 R441 signature set. -/
  signatures : Nat
  /-- u64; 18 R441 build identifier. -/
  build : Nat
  /-- 18 R441 SHA-384 of bytes 544 to 3,231. -/
  keyHash : BitVec 384
  /-- 18 R442 its P-384 signature is valid. -/
  p384Ok : Bool
  /-- 18 R442 its ML-DSA-87 signature is valid. -/
  mldsaOk : Bool
  /-- 18 R441 SHA-384 of the four components as they stand in the package. -/
  measured : List (BitVec 384)
  /-- 18 R442 for each component, its hash matches the header. -/
  hashOk : List Bool
  /-- 18 R447 SHA-384 of header bytes 0 to 3,231. -/
  header : BitVec 384
  /-- list of (major, minor); 03 R77 what its firmware serves. -/
  majors : List (Nat × Nat)
  deriving DecidableEq, Repr

/-- A key slot of the IP flow engines (R427, R449), without its key. -/
structure KeySlot where
  /-- u32; 18 R449 handle. -/
  handle : Nat
  /-- 18 R449 transmit direction. -/
  transmit : Bool
  /-- 64 bits; 18 R449 packets protected. -/
  packets : Nat := 0
  deriving DecidableEq, Repr

/-- An open key exchange (R448). -/
structure Exchange where
  /-- u32; 18 R448. -/
  id : Nat
  /-- 48 bytes; 18 R448. -/
  context : Bytes
  /-- u8; 18 R448 side of the OFFER. -/
  side : Nat
  /-- 96 bytes; 18 R448 E_own. -/
  own : Bytes
  /-- DT; 18 R448 of the OFFER. -/
  since : Nat
  deriving DecidableEq, Repr

/-- A nonce (R432). -/
structure Nonce where
  /-- u32; 18 R432 its session. -/
  session : Nat
  /-- 18 R432 for the Crypto Officer's response, else the User's. -/
  officer : Bool
  /-- 48 bytes; 18 R432. -/
  value : BitVec 384
  /-- DT; 18 R432 of the challenge. -/
  since : Nat
  deriving DecidableEq, Repr

/-- The Lantern. -/
structure Lantern where
  /-- u8; 18 R430: 0 SELF_TEST, 1 OPERATIONAL, 2 ZEROISING, 3 ERROR; reset 0. -/
  state : Nat := 0
  /-- u8; 18 R455, 24 R552 LNT_ERROR_CAUSE, coded in the order of R455 from 1; reset 0. -/
  cause : Nat := 0
  /-- OTP; 18 R437, kept over every reset. -/
  fuses : Fuses := {}
  /-- list; 18 R432 nonces; reset none. -/
  nonces : List Nonce := []
  /-- 2 counts; 18 R433 consecutive failures of Crypto Officer and User; reset 0. -/
  failures : List Nat := [0, 0]
  /-- 2 DTs; 18 R433 end of the lockout of each role; reset none. -/
  lockout : List (Option Nat) := [none, none]
  /-- by slot, 1,024; 18 R427, R449 key slots; reset empty. -/
  slots : Tab KeySlot := []
  /-- u32; 18 R449 the next handle; reset DC 43 1. -/
  nextHandle : Nat := 1
  /-- at most 64; 18 R448 open exchanges; reset none. -/
  exchanges : List Exchange := []
  /-- u32; 18 R448 the next exchange ID; reset DC 43 1. -/
  nextExchange : Nat := 1
  /-- count; the model's own: outputs drawn from the DRBG (R432, R448); reset 0. -/
  drawn : Nat := 0
  /-- 2 numbers; 18 R446 security version and authority slot of the attestation key; reset none. -/
  attest : Option (Nat × Nat) := none
  /-- 18 R443, R447 the package that runs, as measured; reset none. -/
  running : Option Package := none
  /-- 1 bit; 18 R451 SELF_TEST_RUN is waiting or running; reset 0. -/
  testing : Bool := false
  /-- pin; 18 R453 ZEROIZE_N is low; reset 0. -/
  ballLow : Bool := false
  /-- DT; 18 R456 of the last self-test; reset none. -/
  lastTest : Option Nat := none
  /-- 64 bits; 18 R456 authentication failures; reset 0. -/
  authFailures : Nat := 0
  /-- 64 bits; 18 R456 zeroisations; reset 0. -/
  zeroisations : Nat := 0
  /-- 64 bits; 18 R456 ZEROIZE_N glitches; reset 0. -/
  glitches : Nat := 0
  /-- 64 bits; 18 R456 seals made; reset 0. -/
  sealed_ : Nat := 0
  /-- 64 bits; 18 R456 seals skipped; reset 0. -/
  skipped : Nat := 0
  /-- 64 bits; 18 R456 SECURITY_ERROR answers; reset 0. -/
  refusals : Nat := 0
  deriving DecidableEq, Repr

/-- The external flash and what firmware update holds (R113, R443). -/
structure Flash where
  /-- 2 slots; 18 R441, R573 packages in slots A and B, kept over every reset; reset DC 44 none. -/
  slots : List (Option Package) := [none, none]
  /-- 0 or 1; 04 R113, R116 the active slot, kept over every reset; reset DC 44 0 (A). -/
  active : Nat := 0
  /-- 0 or 1; 17 R443 the slot being tried or running; reset none. -/
  trying : Option Nat := none
  /-- list; 17 R443 slots tried in this start; reset none. -/
  tried : List Nat := []
  /-- 04 R113 a verified image that FIRMWARE_ACTIVATE may name: its slot (2: host memory) and package; reset none. -/
  loaded : Option (Nat × Package) := none
  /-- 04 R114 the package that a swap starts, and its slot; reset none. -/
  next : Option (Nat × Package) := none
  /-- 04 R116 the previous image of a swap in progress; reset none. -/
  previous : Option Package := none
  /-- DT; 04 R116 the Dusk line of the swap; reset none. -/
  swapAt : Option Nat := none
  /-- 1 bit; 19 R472 firmware runs from SRAM slot Y, else X; reset 0. -/
  sramY : Bool := false
  deriving DecidableEq, Repr

end Sys2Proof.Machine
end

