-- ==== Sys2Proof/Machine/Records/Memory.lean ====
section
/-! DEFINITION. State records of the memory system (R457 to R475). -/

namespace Sys2Proof.Machine

/-- The refreshes of one bank (R463 to R465). -/
structure RefBank where
  /-- count; 19 R463, R464 refreshes owed; reset 0. -/
  owed : Nat := 0
  /-- 1 bit; 19 R465 it is in CATCH-UP; reset 0. -/
  catchUp : Bool := false
  deriving DecidableEq, Repr

/-- One HBM stack (R457, R463 to R468). -/
structure Stack where
  /-- 1 bit; 17 R419, 19 R458 it is trained and in the address map; reset 0. -/
  mapped : Bool := false
  /-- °C; 19 R463 temperature last read; reset DC 32 0. -/
  temp : Int := 0
  /-- 1 bit; 19 R463 the refresh rate is doubled; reset 0. -/
  doubled : Bool := false
  /-- 19 R463 to R465 the banks that are not listed in `banks`: they all owe the same (log entry 37). -/
  rest : RefBank := {}
  /-- by pseudo-channel × 64 + bank; 19 R463 to R465 refreshes of a bank; reset none. -/
  banks : Tab RefBank := []
  /-- 64 bits; 19 R475 corrected errors; reset 0. -/
  corrected : Nat := 0
  /-- 64 bits; 19 R475 uncorrectable errors; reset 0. -/
  uncorrectable : Nat := 0
  /-- list of DT; 19 R468 uncorrectable errors of the last second; reset none. -/
  recent : List Nat := []
  /-- 64 bits; 19 R465, R475 REFRESH_FORCED refreshes; reset 0. -/
  forced : Nat := 0
  deriving DecidableEq, Repr

/-- What MEMORY_STATUS gives of a requestor port (R475). -/
structure PortUse where
  /-- 64 bits; 19 R475 bytes read; reset 0. -/
  read : Nat := 0
  /-- 64 bits; 19 R475 bytes written; reset 0. -/
  written : Nat := 0
  /-- ns; 19 R475 greatest age; reset 0. -/
  age : Nat := 0
  /-- 4 × ns; 19 R475 time at urgency U0 to U3; reset 0. -/
  urgency : List Nat := [0, 0, 0, 0]
  /-- bytes; 19 R462 moved in the window of 10 µs in progress; reset 0. -/
  window : Nat := 0
  deriving DecidableEq, Repr

/-- The memory system. -/
structure Memory where
  /-- n × 16 GiB; 19 R458 contents by device address, in the form of Memory.wf; an unlisted byte reads DC 6 0. -/
  hbm : List Host.Cell := []
  /-- 4; 19 R457 the stacks; reset not in the map. -/
  hbmStacks : Tab Stack := []
  /-- u64; 19 R471 base of the BAR4 window; reset DC 32 0. -/
  aperture : Nat := 0
  /-- 4 × u16 GB/s; 19 R462 caps of ports 44 to 47; reset 16, 16, 8, 4. -/
  caps : List Nat := [16, 16, 8, 4]
  /-- u16 h; 19 R462, R467 scrub period; reset 8. -/
  scrubPeriod : Nat := 8
  /-- granules; 19 R475 progress of the scrub pass; reset 0. -/
  scrubAt : Nat := 0
  /-- list of (word number, DT); 19 R467 corrections seen by the scrub in 24 h; reset none. -/
  weak : List (Nat × Nat) := []
  /-- up to 64 (stack, pseudo-channel, address in it); 19 R467, 20 R477 words recorded for repair at the next start; reset none. -/
  repair : List (Nat × Nat × Nat) := []
  /-- 48; 19 R460, R475 use of the ports; reset 0. -/
  ports : Tab PortUse := []
  /-- 48 banks; 19 R473 banks in retention; reset those of the disabled panel ports, of the flatten cache and of the
  firmware slot that does not run. -/
  retention : List Nat := (List.range 20).map (8 + ·) ++ (List.range 8).map (32 + ·)
  /-- list; 19 R473 banks waking; reset none. -/
  waking : List Nat := []
  /-- by bank, 64 bits; 19 R475 uncorrectable errors; reset 0. -/
  sramErrors : Tab Nat := []
  /-- 64 bits; 19 R473 SRAM_WAKE_STALL; reset 0. -/
  wakeStalls : Nat := 0
  /-- 64 bits; 19 R459 read-modify-writes; reset 0. -/
  rmw : Nat := 0
  /-- 64 bits; 19 R469 HBM_REBUILD frames; reset 0. -/
  rebuildFrames : Nat := 0
  /-- u64; 19 R466 device address of the last uncorrectable error; reset none. -/
  lastBad : Option Nat := none
  /-- 64 bits; 19 R471 APERTURE_WRITE_BLOCKED; reset 0. -/
  blocked : Nat := 0
  /-- 1 bit; 19 R469 re-creation of the HBM objects is in progress; reset 0. -/
  rebuilding : Bool := false
  /-- list; 19 R469 groups whose units send house black until a frame written in the new map; reset none. -/
  blackGroups : List Nat := []
  deriving DecidableEq, Repr

end Sys2Proof.Machine
end

