-- ==== Sys2Proof/Machine/Records/Registers.lean ====
section
/-! DEFINITION. State records of the register map and the control fabric (R538 to R545) and of the MSI-X requests that
they send. -/

namespace Sys2Proof.Machine

/-- An entry of the fault log (R544). -/
structure FaultEntry where
  /-- 40 bits; 24 R544 CF_FAULT_ADDR. -/
  addr : Nat
  /-- 4 bits; 24 R544 CF_FAULT_MASTER: 0 to 3 CPC core, 4 PF0, 5 PF1, 6 Lantern, 7 CVU, 8 debug. -/
  master : Nat
  /-- 4 bits; 24 R544 CF_FAULT_CAUSE: 1 DECODE, 2 LOCK_RELEASED, 3 REG_LOCKED, 4 WIDTH, 5 RANGE, 6 WRITE_LOG_FULL. -/
  cause : Nat
  /-- 1 bit; 24 R544 CF_FAULT_WRITE. -/
  write : Bool
  /-- 14 bits; 24 R544 CF_FAULT_SEQ. -/
  seq : Nat
  deriving DecidableEq, Repr

/-- A record of the hardware write log (R542). -/
structure WriteRec where
  /-- u8; 24 R542 the writing view: 0 PF0, 2 CPC firmware (log entry 38). -/
  view : Nat
  /-- u32; 24 R542 BAR0 offset. -/
  offset : Nat
  /-- u64; 24 R542. -/
  value : Nat
  /-- 24 R542 the setting is standing. -/
  standing : Bool
  deriving DecidableEq, Repr

/-- The latches of one master (R539). -/
structure Latch where
  /-- 16 bits; 24 R539, R550 HRT_DT_HI; reset 0. -/
  dtHi : Nat := 0
  /-- by group, line and sample; 24 R539, R550 HRT_TG_POS; reset 0. -/
  pos : Tab (Nat × Nat) := []
  deriving DecidableEq, Repr

/-- The control fabric. -/
structure Registers where
  /-- 16; 24 R544 CF_FAULT0 to CF_FAULT15, newest first; reset none. -/
  faults : List FaultEntry := []
  /-- 64 bits; 24 R545 CF_FAULT_COUNT; reset 0. -/
  faultCount : Nat := 0
  /-- DT; 24 R544 of the last fault message on vector 20; reset none. -/
  faultSent : Option Nat := none
  /-- 64 bits; 24 R545 CF_LOCK_RELEASES; reset 0. -/
  lockReleases : Nat := 0
  /-- 64 records; 24 R542 hardware write log, oldest first; reset none. -/
  writeLog : List WriteRec := []
  /-- 32 bits; 24 R545 CF_WRITE_LOG writes dropped with WRITE_LOG_FULL; reset 0. -/
  writeDropped : Nat := 0
  /-- 64 bits; 24 R545 CF_DECODE_ERRORS; reset 0. -/
  decodeErrors : Nat := 0
  /-- 9 masters, coded as CF_FAULT_MASTER; 24 R539 latches; reset 0. -/
  latches : Tab Latch := []
  /-- 1 bit; 24 R542, 18 R436 REGISTER_LOCK; reset 0. -/
  lock : Bool := false
  /-- 20 × 64 bits; 24 R552 LNT_REQ0 to LNT_REQ9, then LNT_RSP0 to LNT_RSP9; reset DC 51 0. -/
  lntWords : Tab Nat := []
  /-- instruction register; 25 R567 the JTAG instruction in effect, after IEEE 1149.1; reset PR 52 IDCODE. -/
  jtag : JtagInstr := .idcode
  /-- the model's own: the bytes that the last read of the host or of the debug master returned (log entry 39); reset
  none. -/
  lastRead : Bytes := []
  deriving DecidableEq, Repr

end Sys2Proof.Machine
end

