-- ==== Sys2Proof/Machine/Records/Routing.lean ====
section
/-! DEFINITION. State records of the crosspoints and the watch rules (R154 to R182). -/

namespace Sys2Proof.Machine

/-- A destination (R154, R155, R158). -/
structure Dest where
  /-- u16; 06 R155 the source routed to it; reset 0xF000. -/
  source : Nat := 0xF000
  /-- 1 bit; 06 R171 path LANE; reset 0 STREAM. -/
  lane : Bool := false
  /-- 1 bit; 06 R169 NO_AUDIO_FOLLOW; reset 0. -/
  noFollow : Bool := false
  /-- 1 bit; 06 R173 LOCKED; reset 0. -/
  locked : Bool := false
  /-- 3 bits; 06 R158 timing group of classes 0x0 and 0x1; reset 0. -/
  tg : Nat := 0
  /-- u32; 06 R158 fine offset in luma samples; reset 0. -/
  fine : Nat := 0
  /-- 1 bit; 06 R158 lane-path loss behaviour PASS; reset 0 SQUELCH. -/
  passLoss : Bool := false
  /-- 2 bits; 06 R158 tally class: 0 NONE, 1 PREVIEW, 2 PROGRAM; reset 0. -/
  tally : Nat := 0
  /-- 1 bit; 06 R159, R163 HOT_CUT in the output's frame status; reset 0. -/
  hotCut : Bool := false
  /-- 1 bit; 06 R162 the lane path takes its loss behaviour; reset 0. -/
  laneLoss : Bool := false
  /-- u8; 05 R131 timecode mode: 0 PASS, 1 GENERATE, 2 NONE; reset 0. -/
  timecode : Nat := 0
  /-- i16 minutes; 05 R131 local offset; reset 0. -/
  localOffset : Int := 0
  /-- 64 bits; 05 R126 EGRESS_LATE_LINE; reset 0. -/
  late : Nat := 0
  /-- u16; 05 R126 the line counted last; reset 0. -/
  lateLine : Nat := 0
  /-- list; 05 R130 ancillary packets placed in the output frame; reset none. -/
  anc : List AncPacket := []
  /-- 64 bits; 05 R130 ancillary packets that did not fit; reset 0. -/
  ancDropped : Nat := 0
  /-- 16 channels; 06 R169 the source whose audio association it carries; reset 0xF000. -/
  audio : Nat := 0xF000
  /-- 05 R131 hours, minutes, seconds and frames of the time of day generated for the frame in
  progress; reset none. -/
  time : Option (Nat × Nat × Nat × Nat) := none
  /-- u8; 19 R471, 17 R409 Nightlight policy: 0 AUTO, 1 EXCLUDE; reset 0. -/
  nightlight : Nat := 0
  deriving DecidableEq, Repr

/-- A test generator (R156, R157). -/
structure Generator where
  /-- 1 bit; 06 R157; reset 0. -/
  enabled : Bool := false
  /-- 3 bits; 06 R157 timing group; reset 0. -/
  tg : Nat := 0
  /-- 4 bits; 06 R157 raster; reset 0. -/
  raster : Nat := 0
  /-- 4 bits; 06 R157 rate; reset 0. -/
  rate : Nat := 0
  /-- u8; 06 R156 pattern in use; reset 0. -/
  pattern : Nat := 0
  /-- 3 × u16; 06 R157 flat-field colour; reset 0. -/
  colour : List Nat := [0, 0, 0]
  /-- 1 bit; 06 R157 its pattern has appeared since it was enabled; reset 0. -/
  shown : Bool := false
  deriving DecidableEq, Repr

/-- What a watch rule holds of one candidate (R179, R181). -/
structure Watched where
  /-- u16; 06 R176. -/
  source : Nat
  /-- 6 bits; 06 R182 conditions present at the last evaluation. -/
  present : Nat := 0
  /-- 6 counts; 06 R179 consecutive evaluations at which each condition was present. -/
  counts : List Nat := [0, 0, 0, 0, 0, 0]
  /-- count; 06 R179 consecutive evaluations at which it was healthy. -/
  healthy : Nat := 0
  deriving DecidableEq, Repr

/-- A watch rule (R176). -/
structure Rule where
  /-- 48 bytes; 06 R176 the rule as WATCH_RULE_SET gave it. -/
  cfg : Bytes
  /-- up to 4; 06 R176 primary first. -/
  cands : List Watched
  /-- 1 bit; 06 R181 SUSPENDED. -/
  suspended : Bool := false
  /-- 1 bit; 06 R180 WATCH_NO_CANDIDATE was raised and no healthy candidate has existed since. -/
  noCandTold : Bool := false
  /-- 06 R180 a decision taken and not yet in effect: position, condition code, frame of effect. -/
  decided : Option (Nat × Nat × Nat) := none
  /-- 06 R182 DT, frame and line of the last decision. -/
  last : Option (Nat × Nat × Nat) := none
  deriving DecidableEq, Repr

/-- Routing. -/
structure Routing where
  /-- by destination identifier; 06 R155. -/
  dests : Tab Dest := []
  /-- 8; 06 R156. -/
  gens : Tab Generator := []
  /-- at most 512, by destination; 06 R176; reset none. -/
  rules : Tab Rule := []
  /-- by source; 06 R175 the tallies last told, for TALLY_CHANGED; reset NONE. -/
  told : Tab Nat := []
  deriving DecidableEq, Repr

end Sys2Proof.Machine
end

