-- ==== Sys2Proof/Machine/Records/Signals.lean ====
section
/-! DEFINITION. State records of inputs, flows and frame synchronisers (R117 to R153, R575). -/

namespace Sys2Proof.Machine

/-- Counters of the interface table of R153. -/
structure InCount where
  /-- 64 bits; 05 R153 errored lines; reset 0. -/
  errLines : Nat := 0
  /-- 64 bits each; 05 R153 errored lines by link; reset 0. -/
  linkErr : List Nat := [0, 0, 0, 0]
  /-- 64 bits each; 05 R153 TRS errors by link; reset 0. -/
  linkTrs : List Nat := [0, 0, 0, 0]
  /-- 64 bits; 05 R127, R153 ANC checksum errors; reset 0. -/
  ancSum : Nat := 0
  /-- 64 bits; 05 R128, R153 filtered packets; reset 0. -/
  ancFiltered : Nat := 0
  /-- 64 bits; 05 R127, R153 ANC_OVERFLOW; reset 0. -/
  ancOverflow : Nat := 0
  /-- 64 bits; 05 R153 frames complete; reset 0. -/
  complete : Nat := 0
  /-- 64 bits; 05 R150, R153 FRAME_INCOMPLETE; reset 0. -/
  incomplete : Nat := 0
  /-- 64 bits; 05 R153 LOSS entries; reset 0. -/
  lossEntries : Nat := 0
  /-- 64 bits; 05 R153 FORMAT_CHANGED; reset 0. -/
  formatChanged : Nat := 0
  deriving DecidableEq, Repr

/-- The input state of a source (R150, R575). -/
structure Input where
  /-- u8; 05 R575 LOSS reason, 0 not in LOSS; reset 1 LANE_DOWN of a lane, 7 NO_PACKETS of a flow or a remote source,
  0 of another source. -/
  loss : Nat := 0
  /-- 0 to 4; 05 R575 the link whose failure set the reason; reset 0. -/
  link : Nat := 0
  /-- 05 R120 detected or configured raster and rate; reset none. -/
  format : Option (Nat × Nat) := none
  /-- count; 05 R150 consecutive complete frames; reset 0. -/
  good : Nat := 0
  /-- counts; 05 R125 consecutive frames with TRS errors, by link; reset 0. -/
  trsRun : List Nat := [0, 0, 0, 0]
  /-- count; 05 R149 number of the input frame in writing; reset 0. -/
  seq : Nat := 0
  /-- DT; 05 R149 its start; reset none. -/
  start : Option Nat := none
  /-- 05 R178 what the last frame measured; reset none. -/
  picture : Option Measures := none
  /-- up to 3,000; 05 R125, R178 errored lines of the last frames, newest first; reset none. -/
  errRun : List Nat := []
  /-- 05 R153 counters. -/
  count : InCount := {}
  /-- 05 R153 the values of the last complete frame. -/
  last : InCount := {}
  /-- u8; 05 R128 filter mode: 0 PASS_ALL, 1 PASS_LISTED, 2 BLOCK_LISTED; reset 0. -/
  filterMode : Nat := 0
  /-- up to 16 (DID, SDID or none); 05 R128; reset none. -/
  filter : List (Nat × Option Nat) := []
  /-- up to 16 (DID, SDID); 05 R129 further EVENT packets; reset none. -/
  events : List (Nat × Nat) := []
  deriving DecidableEq, Repr

/-- One leg of a receive flow (R140, R141). -/
structure Leg where
  /-- 1 bit; 05 R141 LOST; reset 0. -/
  lost : Bool := false
  /-- 1 bit; 05 R141 a packet has come since the leg was last judged; reset 0. -/
  seen : Bool := false
  /-- list; 05 R144 SRTP: the indices accepted within the replay window of 1,024; reset none. -/
  replay : List Nat := []
  /-- count; 05 R140 highest sequence number of the leg; reset none. -/
  high : Option Nat := none
  /-- 64 bits; 05 R153 packets received; reset 0. -/
  received : Nat := 0
  /-- 64 bits; 05 R153 packets lost; reset 0. -/
  lostCount : Nat := 0
  /-- 64 bits; 05 R153 duplicates; reset 0. -/
  duplicate : Nat := 0
  /-- 64 bits; 05 R153 out of order; reset 0. -/
  outOfOrder : Nat := 0
  /-- 64 bits; 05 R138 OVERRUN; reset 0. -/
  overrun : Nat := 0
  /-- 64 bits; 05 R144 SRTP failures; reset 0. -/
  srtpFail : Nat := 0
  /-- 64 bits; 05 R133 fragments; reset 0. -/
  fragments : Nat := 0
  deriving DecidableEq, Repr

/-- A flow (R134, R135). -/
structure Flow where
  /-- 152 bytes; 05 R135 the configuration as FLOW_CONFIGURE gave it; reset zeros, disabled. -/
  cfg : Bytes := []
  /-- 2 legs; 05 R141; reset good. -/
  legs : List Leg := [{}, {}]
  /-- count; 05 R140 the next sequence number to release; reset none. -/
  next : Option Nat := none
  /-- list; 05 R140 packets held while the next is missing, in order; reset none. -/
  held : List IpPacket := []
  /-- 64 bits; 05 R153 packets received of the merged flow; reset 0. -/
  received : Nat := 0
  /-- 64 bits; 05 R140, R153 packets lost; reset 0. -/
  lost : Nat := 0
  /-- 64 bits; 05 R153 duplicates; reset 0. -/
  duplicate : Nat := 0
  /-- 64 bits; 05 R153 out of order; reset 0. -/
  outOfOrder : Nat := 0
  /-- 64 bits; 05 R153 packets recovered by merge; reset 0. -/
  recovered : Nat := 0
  /-- u32; 05 R137 RTP timestamp of the frame in progress; reset none. -/
  ts : Option Nat := none
  /-- u32; 05 R150 RTP timestamp of the first packet of the frame in progress; reset none. -/
  frameTs : Option Nat := none
  /-- 1 bit; 05 R117 the second field of an interlaced frame is in progress; reset 0. -/
  second : Bool := false
  /-- count; 05 R150 active samples of the frame in progress that have come; reset 0. -/
  samples : Nat := 0
  /-- list; 05 R127 ancillary packets of the frame in progress; reset none. -/
  anc : List AncPacket := []
  /-- 05 R136 ancillary packets of an associated flow by timestamp, newest first, at most 4. -/
  ancByTs : List (Nat × List AncPacket) := []
  /-- count; 05 R150 consecutive frames whose timestamp interval differs by more than 1 %. -/
  badStep : Nat := 0
  /-- 1 bit; 05 R135 a transmit flow waits for the first frame start after acceptance; reset 0. -/
  waiting : Bool := false
  /-- u16; 05 R142 RTP sequence number of the next packet sent; reset 0. -/
  txSeq : Nat := 0
  /-- u32; 05 R137 RTP timestamp of the frame sent last; reset 0. -/
  txTs : Nat := 0
  /-- handle and count; 18 R439 an old key still accepted; reset none. -/
  oldKey : Option Nat := none
  /-- 1 bit; 05 R144 the loss of its key was answered with SECURITY_ERROR; reset 0. -/
  keyTold : Bool := false
  deriving DecidableEq, Repr

/-- One frame slot of a synchroniser (R149). -/
structure Slot where
  /-- number of the input frame. -/
  seq : Nat
  /-- DT of its start. -/
  start : Nat
  /-- it has been received whole. -/
  done : Bool
  /-- it is known to be incomplete (R150). -/
  bad : Bool
  /-- 05 R127 its ancillary packets. -/
  anc : List AncPacket
  deriving DecidableEq, Repr

/-- What a synchroniser sends in an output frame (R149 to R151). -/
inductive Sent where
  | nothing
  | picture (seq : Nat)
  | again (seq : Nat)
  | black
  | freeze (seq : Nat)
  | asWritten
  deriving DecidableEq, Repr

/-- A running synchroniser of a source in a group (R146, R149). -/
structure Sync where
  /-- DT; 05 R149 when it started. -/
  started : Nat := 0
  /-- 3 slots; 05 R149, newest first; reset none. -/
  slots : List Slot := []
  /-- 05 R149 the input frame last sent; reset none: it seats at the next output frame. -/
  pos : Option Nat := none
  /-- 05 R151 the last complete frame it sent; reset none. -/
  lastGood : Option Nat := none
  /-- 05 R149 to R151 what the output frame in progress carries. -/
  out : Sent := .nothing
  /-- list; 05 R129 ancillary packets sent with that frame. -/
  anc : List AncPacket := []
  /-- list; 05 R129 EVENT packets of dropped frames, carried into the next frame sent. -/
  carried : List AncPacket := []
  /-- list; 05 R129 FRAME packets of the frame last sent, for repeats. -/
  again : List AncPacket := []
  /-- ns; 05 R149 margin of the last selection. -/
  margin : Int := 0
  /-- frames; 05 R151 frames frozen in this LOSS. -/
  frozen : Nat := 0
  /-- 64 bits; 05 R153 repeats. -/
  repeats : Nat := 0
  /-- 64 bits; 05 R153 drops. -/
  drops : Nat := 0
  /-- 64 bits; 05 R153 reseats. -/
  reseats : Nat := 0
  deriving DecidableEq, Repr

/-- Synchroniser settings of a pair of source and group (R147, R148). -/
structure SyncSet where
  /-- 2 bits; 05 R147 loss behaviour: 0 BLACK, 1 FREEZE, 2 PASS; reset 0. -/
  loss : Nat := 0
  /-- i32; 05 R147 offset in luma samples; reset 0. -/
  offset : Int := 0
  /-- u16; 05 R147 guard in lines; reset 16. -/
  guard : Nat := 16
  /-- u16; 05 R147 freeze limit in frames, 0 unlimited; reset 0. -/
  freeze : Nat := 0
  deriving DecidableEq, Repr

/-- Counters of an Ethernet port (R132 to R134). -/
structure Port where
  /-- 64 bits; 05 R134 packets the port cannot absorb; reset 0. -/
  dropped : Nat := 0
  /-- up to 4; 05 R132 IPv4 addresses; reset none. -/
  ipv4 : List Nat := []
  /-- up to 4; 05 R132 IPv6 addresses; reset none. -/
  ipv6 : List Nat := []
  /-- the model's own count of ARP, NDP and ICMP echo answers (R132); reset 0. -/
  answers : Nat := 0
  deriving DecidableEq, Repr

/-- Inputs, flows and synchronisers. -/
structure Signals where
  /-- by source identifier of R154; 05 R150. -/
  inputs : Tab Input := []
  /-- 512; 05 R134 receive flows. -/
  rx : Tab Flow := []
  /-- 512; 05 R134 transmit flows. -/
  tx : Tab Flow := []
  /-- pool of 256, by source × 8 + group; 05 R146. -/
  syncs : Tab Sync := []
  /-- by source × 8 + group; 05 R147 settings. -/
  settings : Tab SyncSet := []
  /-- 144; 05 R132 Ethernet ports by first lane. -/
  ports : Tab Port := []
  /-- u16 s; 05 R131 UTC offset set by command when PTP is not the reference; reset DC 19 0. -/
  utcOffset : Int := 0
  deriving DecidableEq, Repr

end Sys2Proof.Machine
end

