-- ==== Sys2Proof/Machine/Records/Store.lean ====
section
/-! DEFINITION. State records of the non-volatile store (R476 to R493). -/

namespace Sys2Proof.Machine

/-- The standing configuration (R106): the records of the subjects whose commands set it, each with its settings and
without what runs (`State.standing`). -/
structure Standing where
  time : Time
  clocks : Clocks
  lanes : Lanes
  signals : Signals
  routing : Routing
  conversion : Conversion
  pictures : Pictures
  panels : Panels
  audio : Audio
  cascade : Cascade
  health : Health
  deriving DecidableEq, Repr

/-- The payload of a record (R477). -/
inductive Body where
  /-- 0x0001: the standing JSN (its digest is that of the standing configuration of the same commit). -/
  | marker (jsn : Nat)
  /-- 0x0002. -/
  | map (m : NlMap)
  /-- 0x0003: chain epoch, chain number, seal sequence, page index, last JSN, page hash. -/
  | anchor (epoch chain seq page lastJsn : Nat) (hash : BitVec 384)
  /-- 0x0004. -/
  | repair (l : List (Nat × Nat × Nat))
  /-- 0x0010 to 0x0017: a P-384 key of 96 bytes and an ML-DSA-87 key of 2,592 bytes; none: a cleared slot. -/
  | userKey (k : Option (Bytes × Bytes))
  /-- 0x0018 and 0x0019: P-384 keys by slot 0 to 31. -/
  | peers (l : Tab Bytes)
  /-- 0x001A. -/
  | lock (on : Bool)
  /-- 0x1000 to 0x1066, as one record (log entry 42). -/
  | standing (x : Standing)
  deriving DecidableEq, Repr

/-- One copy of a record (R479). -/
structure Copy where
  /-- u32; 20 R479 sequence. -/
  seq : Nat
  /-- u64; 20 R479 commit number. -/
  commit : Nat
  /-- bytes; 20 R479 payload. -/
  body : Body
  /-- 20 R480 the CRC is correct and the record ID matches the position. -/
  ok : Bool
  /-- 20 R434, R436 the HMAC of a Lantern record is correct. -/
  hmacOk : Bool
  deriving DecidableEq, Repr

/-- A record's two slots (R477, R480). -/
structure Rec where
  /-- 20 R477 slot A; reset as the factory leaves it: none (R573). -/
  a : Option Copy := none
  /-- 20 R477 slot B; reset none. -/
  b : Option Copy := none
  /-- count; 20 R492 writes to the two slots; reset 0. -/
  writes : Nat := 0
  deriving DecidableEq, Repr

/-- An entry of the gather buffer (R484). -/
structure Gathered where
  /-- u16; 20 R477 record ID. -/
  id : Nat
  body : Body
  /-- bytes; 20 R484 header and payload padded to 8. -/
  size : Nat
  deriving DecidableEq, Repr

/-- The records changed by one change, never split between commits (R484). -/
structure NvUnit where
  /-- count; the model's own number of the unit. -/
  serial : Nat
  entries : List Gathered
  deriving DecidableEq, Repr

/-- A commit in progress (R485). -/
structure Commit where
  entries : List Gathered
  /-- the last unit it holds. -/
  serial : Nat
  /-- list; 20 R489 log records staged for it. -/
  logs : List EventRec
  /-- 20 R483 flag POWER_FAIL. -/
  powerFail : Bool
  /-- 20 R486 flag LONG. -/
  long : Bool
  deriving DecidableEq, Repr

/-- A directory entry (R483). -/
structure DirEntry where
  /-- u64; 20 R483 commit number. -/
  number : Nat
  /-- u32; 20 R483 log head. -/
  logHead : Nat
  /-- u16; 20 R483 records written. -/
  records : Nat
  /-- u8; 20 R483 flags: bit 0 POWER_FAIL, bit 1 LONG. -/
  flags : Nat
  /-- u48 s; 20 R483 DT seconds at the flip. -/
  dt : Nat
  deriving DecidableEq, Repr

/-- The non-volatile store. What stands in MRAM is kept over every reset of the module (R476). -/
structure Store where
  /-- by record ID; 20 R477, MRAM; reset DC 42 as from the factory: none valid (R573). -/
  recs : Tab Rec := []
  /-- 128 positions; 20 R483, MRAM, newest first; reset none. -/
  directory : List DirEntry := []
  /-- u64; 20 R483 committed number C; reset 0 (R573). -/
  committed : Nat := 0
  /-- u32; 20 R483, R489 log head; reset 0. -/
  logHead : Nat := 0
  /-- 1,920 positions; 20 R489, MRAM: (index, record), newest first; reset none. -/
  events : List (Nat × EventRec) := []
  /-- 8 × u64; 20 R487, MRAM: BOOT_COUNT, JOURNAL_EPOCH, SECURITY_VERSION, reserved; reset 0 (R573). -/
  counters : List Nat := [0, 0, 0, 0, 0, 0, 0, 0]
  /-- 4 KiB; 20 R484 gather buffer, oldest first; reset empty. -/
  buffer : List Gathered := []
  /-- DT; 20 R484 when the oldest entry of the buffer came; reset none. -/
  oldest : Option Nat := none
  /-- list; 20 R484 units waiting in firmware memory, in acceptance order; reset none. -/
  queue : List NvUnit := []
  /-- count; the model's own: units numbered so far; reset 0. -/
  serial : Nat := 0
  /-- count; the model's own: the last unit in the buffer or a commit; reset 0. -/
  gathered : Nat := 0
  /-- count; the model's own: the last unit committed; reset 0. -/
  done : Nat := 0
  /-- 20 R485 the commit in progress; reset none. -/
  commit : Option Commit := none
  /-- 1 bit; 20 R484 a commit waits for the spacing of 50 ms, or for POWER_FAIL_N to rise; reset 0. -/
  waiting : Bool := false
  /-- DT; 20 R484 of the previous flip of this start; reset none. -/
  lastFlip : Option Nat := none
  /-- pin; 20 R490 POWER_FAIL_N is low; reset 0. -/
  powerLow : Bool := false
  /-- list of record IDs; 20 R481 records whose copies conflict; reset none. -/
  conflicted : List Nat := []
  /-- 64 bits; 20 R493 commits; reset 0. -/
  commits : Nat := 0
  /-- 64 bits; 20 R493 POWER_FAIL flips; reset 0. -/
  powerFlips : Nat := 0
  /-- 64 bits; 20 R493 conflicts; reset 0. -/
  conflicts : Nat := 0
  /-- 64 bits; 20 R493 lost records; reset 0. -/
  lost : Nat := 0
  /-- 64 bits; 20 R489, R493 NV_LOG_DROPPED; reset 0. -/
  logDropped : Nat := 0
  /-- 5 × 64 bits; 20 R492, R493 writes per area: record slots, seal anchor, directory, log, counters; MRAM; reset 0. -/
  wear : List Nat := [0, 0, 0, 0, 0]
  /-- list of areas; 20 R492 whose NV_WEAR_WARNING was raised; reset none. -/
  warned : List Nat := []
  deriving DecidableEq, Repr

end Sys2Proof.Machine
end

