-- ==== Sys2Proof/Machine/State.lean ====
section
/-! DEFINITION. The state of the block, the reasons a step can stop, and the state after reset. -/

namespace Sys2Proof.Machine

/-- Why the block stops with a fault. There is none: the spec gives every row of the table an effect,
and what an access outside the decoded ranges does (R544: zero on a read, a dropped write) is an
effect too. -/
inductive Fault where
  deriving DecidableEq, Repr

/-- Why a command has no meaning. -/
inductive Refusal where
  /-- Raised by an arm of `exec` whose row has no meaning yet; safe: nothing is proved of it. -/
  | notModelled (mnemonic : String)
  deriving DecidableEq, Repr

/-- The state of the block, one record for each subject of the spec. -/
structure State where
  /-- What the part is (R3, R547). -/
  part : Part
  /-- House time (R32 to R55). -/
  time : Time
  /-- The command protocol (R56 to R94). -/
  ccp : Ccp
  /-- The journal (R95 to R116). -/
  journal : Journal
  /-- Event delivery (R91 to R94, R518 to R525). -/
  events : Events
  /-- Start-up (R407 to R426). -/
  boot : Boot
  /-- Health, fencing, thermal policy (R518 to R535). -/
  health : Health
  /-- Serial lanes and quads (R370 to R393). -/
  lanes : Lanes
  /-- PLLs and clock inputs (R505 to R517). -/
  clocks : Clocks
  /-- Inputs, flows and frame synchronisers (R117 to R153). -/
  signals : Signals
  /-- Crosspoints and watch rules (R154 to R182). -/
  routing : Routing
  /-- Conversion pipes (R183 to R211). -/
  conversion : Conversion
  /-- Canvases, surfaces and Mirror (R212 to R243). -/
  pictures : Pictures
  /-- Panel ports (R244 to R254). -/
  panels : Panels
  /-- Coding cores and channels (R255 to R325). -/
  coding : Coding
  /-- The audio router, TDM ports and audio host rings (R326 to R368). -/
  audio : Audio
  /-- The Lightpipe cascade (R394 to R406). -/
  cascade : Cascade
  /-- The memory system (R457 to R475). -/
  memory : Memory
  /-- The register map and the control fabric (R538 to R545). -/
  regs : Registers
  /-- The check-value units (R494 to R504). -/
  cvus : Cvus
  /-- The Lantern (R427 to R456). -/
  lantern : Lantern
  /-- Firmware images (R113, R441 to R445). -/
  flash : Flash
  /-- The non-volatile store (R476 to R493). -/
  store : Store
  /-- The model's own: the commands that are waiting, first in, first out. -/
  pending : List Instr
  /-- The model's own: how many free values a run has taken (log entry 3). -/
  freeCount : Nat
  deriving DecidableEq, Repr

/-- The block right after reset (R10, R540). -/
def State.reset : State where
  part := {}
  time := {}
  ccp := {}
  journal := {}
  events := {}
  boot := {}
  health := {}
  lanes := {}
  clocks := {}
  signals := {}
  routing := {}
  conversion := {}
  pictures := {}
  panels := {}
  coding := {}
  audio := {}
  cascade := {}
  memory := {}
  regs := {}
  cvus := {}
  lantern := {}
  flash := {}
  store := {}
  pending := []
  freeCount := 0

end Sys2Proof.Machine
end

