-- ==== Sys2Proof/Machine/Delivery.lean ====
section
/-! DEFINITION. How an event reaches the host: coalescing (R520), rates (R521), admission to a ring
(R522), the record and its interrupt (R92, R94), staging for the NV event log (R525). -/

namespace Sys2Proof.Machine

/-- The opcode family of an event's subject, the high byte of its code (R519; log entry 12). -/
def EventName.family : EventName → Nat
  | .cmdComplete | .cmdEffect | .ccpDmaFault | .ccpDoorbellBusy | .ccpMailboxTimeout
  | .ccpPrivilegeRefused => 0x01
  | .dtStepped | .refLost | .tgJump | .tgRealign | .glint | .pllFailed | .pllLockLost | .pllRelocked
  | .pllGlideRefused | .sysXoLost | .aoXoLost => 0x02
  | .inputLoss | .inputRestored | .laneDown | .laneFailed | .laneHiBer | .laneSkewExceeded | .laneUp
  | .formatChanged | .flowLegLost | .partnerLost => 0x03
  | .watchFailover | .watchNoCandidate | .watchReturn | .watchSuspended | .routeHotCut
  | .tallyChanged => 0x04
  | .pipeCropInvalid | .pipeDelayChanged | .pipeMethodFallback | .pipeMethodRestored => 0x05
  | .canvasCommitExpired | .canvasLateLine | .scanoutLateLine | .surfaceLost | .surfaceWriteBlocked
  | .ttcHeaderInvalid | .ttcTileError | .panelTeLost | .panelTeRestored | .mirrorClear
  | .mirrorMismatch | .mirrorNoSignal => 0x06
  | .codingChannelStopped | .decodeError | .decodeHolding | .decodeRecovered | .headerTaskLate
  | .rcInputMissing | .rcPictureFloored => 0x07
  | .alignMemberAsync | .asrcExhausted | .audioBurstSlip | .audioSyncChanged | .clockLost
  | .exactRangeExceeded | .frameError | .rateChanged | .rateOutOfRange => 0x08
  | .cvuMismatch | .cvuScanDone | .hbmEccCorrected | .hbmEccUncorrectable | .hbmStackFenced
  | .nightlightAdopted | .nightlightMapMismatch | .nvCounterFault | .nvRecordConflict | .nvRecordLost
  | .nvWearWarning | .powerFailAsserted | .refreshCatchup | .refreshForced
  | .sramEccUncorrectable => 0x09
  | .lanternAuthLockout | .lanternError | .lanternFuseFault | .lanternRecordInvalid
  | .lanternZeroised | .streamKeyExpired | .streamKeyRekeyDue | .zeroizeGlitch => 0x0A
  | .eventSummary | .fenceApplied | .fenceReleased | .deviceDimmed | .deviceRestored
  | .unitTestFailed | .fencedEffectSkipped | .thermalStep | .thermalRetreat | .thermalTrip
  | .eventPendingCritical => 0x0B
  | .journalDecisionsLost | .journalUnsealed | .standingMismatch => 0x0C
  | .fwSwapFailed => 0x0D
  | .cascadeIdentityConflict | .cascadePathChanged | .cascadeTimeRole | .cascadeTopology => 0x0E

/-- The 32 bytes of an event record (R518). -/
def EventRec.bytes (e : EventRec) : Bytes :=
  le 2 (e.name.code e.name.family) ++ le 1 e.severity ++ le 1 e.src.cls ++ le 2 e.src.idx
    ++ le 2 e.count ++ le 6 (e.dt / 1000000000) ++ le 4 (e.dt % 1000000000) ++ le 6 e.frame
    ++ le 2 e.line ++ le 1 e.tg ++ le 1 e.flags ++ le 4 e.detail

/-- Add one to the count of a severity. -/
def bump (l : List Nat) (severity : Nat) (n : Nat := 1) : List Nat :=
  l.set severity (l.getD severity 0 + n)

/-! ## Rings -/

/-- Records of a ring (R91). -/
def Ring.size (r : Ring) : Nat := 2 ^ r.sizeLog

/-- Producer index minus consumer index (R522); both are 32-bit and free-running. -/
def Ring.fill (r : Ring) : Nat := (r.producer + 2 ^ 32 - r.consumer) % 2 ^ 32

/-- What becomes of a record (R522). -/
inductive Admit where
  | written
  | replaced
  | dropped
  | held
  deriving DecidableEq, Repr

/-- The table of R522; a ring whose EVR_ENABLE is 0 is handled as a full ring. -/
def Ring.verdict (r : Ring) (severity : Nat) : Admit :=
  let full := !r.enabled || r.size ≤ r.fill
  if severity = 0 then
    if full then .held else .written
  else if severity ≤ 2 then
    if full || r.size * 15 ≤ r.fill * 16 then .dropped else .written
  else
    if full || r.size * r.watermark ≤ r.fill * 100 then .replaced else .written

/-- Count a record in the summary of its class and severity (R522). -/
def addSummary (l : List Summary) (cls severity : Nat) (dropped : Bool) (n : Nat := 1) :
    List Summary :=
  if l.any fun x => x.cls == cls && x.severity == severity && x.dropped == dropped then
    l.map fun x => if x.cls = cls ∧ x.severity = severity ∧ x.dropped = dropped
      then { x with count := x.count + n } else x
  else l ++ [⟨cls, severity, n, dropped⟩]

/-- Into the record `h` a further record coalesces (R522). -/
def coalesceInto (h e : EventRec) : EventRec :=
  { h with src := ⟨h.src.cls, 0xFFFF⟩, flags := h.flags ||| 2, count := min 65535 (h.count + e.count),
           dt := e.dt, frame := e.frame, line := e.line, tg := e.tg }

/-- Change the last record of a list that meets a test. -/
def updateLast {α : Type} (p : α → Bool) (f : α → α) (l : List α) : List α :=
  let r := l.reverse
  let i := r.findIdx p
  (r.modify i f).reverse

/-- Hold a CRITICAL record: in the queue of 1,024, then into the newest held record of its code,
then into the coalescing slot of its code (R522). -/
def Ring.hold (r : Ring) (e : EventRec) : Ring :=
  let r := { r with held := bump r.held e.severity }
  if r.queue.length < 1024 then { r with queue := r.queue ++ [e] }
  else if r.queue.any fun h => h.name == e.name then
    { r with queue := updateLast (fun h => h.name == e.name) (fun h => coalesceInto h e) r.queue }
  else if r.slots.any fun h => h.name == e.name then
    { r with slots := r.slots.map fun h => if h.name = e.name then coalesceInto h e else h }
  else { r with slots := r.slots ++ [{ e with src := ⟨e.src.cls, 0xFFFF⟩, flags := e.flags ||| 2 }] }

/-- The last n of a list. -/
def keepLast {α : Type} (n : Nat) (l : List α) : List α := l.drop (l.length - n)

/-- Write a record, then the producer index to the write-back address and to the register (R92);
then the vector, when the severity is CRITICAL or the unsignalled records reach the count (R94). -/
def Ring.write (r : Ring) (e : EventRec) : Ring :=
  let r := { r with
    records := keepLast r.size (r.records ++ [e])
    producer := (r.producer + 1) % 2 ^ 32
    backIndex := (r.producer + 1) % 2 ^ 32
    written := bump r.written e.severity
    unsignalled := r.unsignalled + 1 }
  if e.severity = 0 ∨ r.modCount ≤ r.unsignalled then
    { r with signals := r.signals + 1, unsignalled := 0 }
  else r

/-- EVENT_PENDING_CRITICAL of a ring (R522). -/
def pendingCritical (dt : Nat) : EventRec :=
  { name := .eventPendingCritical, severity := 0, src := srcDevice, count := 1, dt, frame := 0,
    line := 0, tg := 0xFF, flags := 0, detail := 1 }

/-- Offer a record to a ring (R522). -/
def Ring.offer (r : Ring) (e : EventRec) : Ring :=
  match r.verdict e.severity with
  | .written => r.write e
  | .replaced =>
    { r with replaced := bump r.replaced e.severity
             summaries := addSummary r.summaries e.src.cls e.severity false }
  | .dropped =>
    { r with dropped := bump r.dropped e.severity
             summaries := addSummary r.summaries e.src.cls e.severity true }
  | .held =>
    let r' := r.hold e
    if r.holding then r' else ({ r' with holding := true }).hold (pendingCritical e.dt)

/-! ## MSI-X -/

/-- Signal a vector: the message is sent, or stays pending while the vector is masked (R93). -/
def msixSignal (m : Tab MsixEntry) (k : Nat) : Tab MsixEntry :=
  let e := tabGet m k {}
  tabPut m k { e with signalled := e.signalled + 1, pending := e.masked }

/-- The vector of a ring: 16 to 18 of PF0, 4 of PF1 (R93); PF1 vectors are keyed from 64. -/
def ringVector (r : Nat) : Nat := if r = 3 then 64 + 4 else 16 + r

/-! ## Rates -/

/-- The source a record is counted against (R521): COMMAND as a whole for its two events. -/
def rateSource (e : EventRec) : Src := if e.src.cls = 22 then ⟨22, 0xFFFF⟩ else e.src

/-- Records per second of a source at a ring (R521). -/
def rateOf (e : EventRec) : Nat := if e.src.cls = 22 then 10000 else 100

/-- The level of a source at a ring, in thousandths of a record, after the time since its last
change (R521: up to 32 at once). -/
def bucketLevel (bs : List Bucket) (ring dt : Nat) (e : EventRec) : Nat :=
  match bs.find? fun b => b.ring == ring && b.src == rateSource e with
  | none => 32000
  | some b => min 32000 (b.level + (dt - b.at_) * rateOf e / 1000000)

/-- Store a level. -/
def setBucket (bs : List Bucket) (ring dt : Nat) (e : EventRec) (level : Nat) : List Bucket :=
  ⟨ring, rateSource e, level, dt⟩ :: bs.filter fun b => !(b.ring == ring && b.src == rateSource e)

/-- A record at one ring: the rate of R521 for MINOR, INFO and TRACE, then R522. Ring 4 is the boot
buffer (R524). -/
def Events.toRing (ev : Events) (ring : Nat) (e : EventRec) : Events :=
  let r := if ring = 4 then ev.boot else tabGet ev.rings ring (Ring.reset ring)
  let put (ev : Events) (r : Ring) : Events :=
    if ring = 4 then { ev with boot := r } else { ev with rings := tabPut ev.rings ring r }
  let lvl := bucketLevel ev.buckets ring e.dt e
  if 2 ≤ e.severity ∧ lvl < 1000 then
    let ev := { ev with buckets := setBucket ev.buckets ring e.dt e lvl
                        rateLimited := tabPut ev.rateLimited e.src.cls
                          (tabGet ev.rateLimited e.src.cls 0 + 1) }
    put ev { r with replaced := bump r.replaced e.severity
                    summaries := addSummary r.summaries e.src.cls e.severity false }
  else
    let ev := if 2 ≤ e.severity then
      { ev with buckets := setBucket ev.buckets ring e.dt e (lvl - 1000) } else ev
    let r' := r.offer e
    let ev := put ev r'
    if r.signals < r'.signals ∧ ring < 4 then
      { ev with msix := msixSignal ev.msix (ringVector ring) } else ev

/-- The rings a record goes to (R91, R523): CMD_COMPLETE and CMD_EFFECT to ER0 or ER3 by the view of
the command; others to every PF0 ring whose mask takes the severity, and to ER3 when MINOR or above
and not of the security or journal family. `view` is the command's. -/
def Events.route (ev : Events) (view : View) (e : EventRec) : List Nat :=
  if e.name = .cmdComplete ∨ e.name = .cmdEffect then
    if view = .pf0 then [0] else [3]
  else
    ([0, 1, 2].filter fun r => bit (tabGet ev.rings r (Ring.reset r)).mask e.severity)
      ++ (if e.severity ≤ 2 ∧ e.name.family ≠ 0x0A ∧ e.name.family ≠ 0x0C then [3] else [])

/-- Send a record on its way after coalescing: staging for the NV event log (R525), then the boot
buffer while it serves (R419), or the rings. -/
def Events.send (ev : Events) (view : View) (e : EventRec) : Events :=
  let ev := if e.severity ≤ 1 then { ev with staged := ev.staged ++ [e] } else ev
  if ev.toBoot then ev.toRing 4 e
  else
    let rs := ev.route view e
    let ev := if rs.any (· ≤ 2) then ev else { ev with unrouted := bump ev.unrouted e.severity }
    rs.foldl (fun ev r => ev.toRing r e) ev

/-- One occurrence of an event: counted in its open window, or the first of a new one whose record
is sent at once (R520). CRITICAL events are never coalesced here. -/
def Events.occur (ev : Events) (view : View) (e : EventRec) : Events :=
  if e.severity = 0 then ev.send view e
  else if ev.windows.any fun w => w.name == e.name && w.src == e.src then
    { ev with
      windows := ev.windows.map fun w =>
        if w.name = e.name ∧ w.src = e.src then { w with count := w.count + 1, last := e } else w
      coalesced := ev.coalesced + 1 }
  else
    ({ ev with windows := ev.windows ++ [(⟨e.name, e.src, e.dt, 0, e⟩ : Window)] }).send view e

/-- TRACE records are made only for the classes some ring asks for (R523). -/
def Events.wanted (ev : Events) (e : EventRec) : Bool :=
  e.severity != 4 || [0, 1, 2].any fun r => bit (tabGet ev.rings r (Ring.reset r)).trace e.src.cls

/-- The spec lays out the event's detail: those of R519, R52, R141, R180, R382 and R575. -/
def EventName.detailGiven : EventName → Bool
  | .cmdComplete | .cmdEffect | .eventSummary | .fenceApplied | .fenceReleased | .deviceDimmed | .deviceRestored
  | .unitTestFailed | .fencedEffectSkipped | .thermalStep | .thermalRetreat | .thermalTrip | .eventPendingCritical
  | .tgRealign | .flowLegLost | .watchFailover | .watchReturn | .laneSkewExceeded | .inputLoss | .inputRestored => true
  | _ => false

/-- The detail field of an event (R518): the given one, or a value the spec leaves open (log entry 53). -/
def EventName.detail (n : EventName) (src : Src) (v : Nat) : Nat :=
  if n.detailGiven then v % 2 ^ 32 else Config.eventDetail n.ctorIdx src.cls src.idx v % 2 ^ 32

/-- A timing group of the state. -/
def State.tg (s : State) (g : Nat) : Tg := tabGet s.time.groups g (Tg.reset g)

/-- Raise an event at the present DT, with the position of a timing group when it has one. -/
def State.raiseFull (s : State) (view : View) (n : EventName) (severity : Nat) (src : Src)
    (tg : Option Nat) (detail : Nat) : State :=
  let p : Hrt := match tg with | some g => (s.tg g).pos | none => ⟨0, 0, 0⟩
  let e : EventRec :=
    { name := n, severity, src, count := 1, dt := s.time.dt, frame := p.frame, line := p.line,
      tg := tg.getD 0xFF, flags := 0, detail := n.detail src detail }
  if s.events.wanted e then { s with events := s.events.occur view e } else s

/-- Raise an event that belongs to no timing group. -/
def State.raise (s : State) (n : EventName) (src : Src) (detail : Nat := 0) : State :=
  s.raiseFull .pf0 n n.severity src none detail

/-- Raise an event at the position of a timing group. -/
def State.raiseAt (s : State) (n : EventName) (src : Src) (g : Nat) (detail : Nat := 0) : State :=
  s.raiseFull .pf0 n n.severity src (some g) detail

/-- CMD_COMPLETE or CMD_EFFECT of a command (R92): the HRT field holds the HRT of effect. -/
def State.raiseCmd (s : State) (n : EventName) (view : View) (jsn status : Nat)
    (eff : Option Effect) : State :=
  let e : EventRec :=
    { name := n, severity := 3, src := srcCommand jsn, count := 1, dt := s.time.dt,
      frame := (eff.map (·.frame)).getD 0, line := (eff.map (·.line)).getD 0,
      tg := (eff.map (·.tg)).getD 0xFF, flags := 0, detail := status }
  { s with events := s.events.occur view e }

end Sys2Proof.Machine
end

