-- ==== Sys2Proof/Machine/Standing.lean ====
section
/-! DEFINITION. The standing configuration (R106): what of the state it holds, and the Nightlight map that firmware derives
from it (R411). -/

namespace Sys2Proof.Machine

/-! ## What is standing -/

/-- The settings of a timing group (R37). -/
def Tg.standing (t : Tg) : Tg :=
  { enabled := t.enabled, raster := t.raster, rate := t.rate, phaseOffset := t.phaseOffset, dusk := t.dusk, jump := t.jump }

/-- The settings of a reference candidate (R41). -/
def Cand.standing (c : Cand) : Cand := { c with state := .none, lockedAt := 0, good := 0, bad := 0 }

/-- The settings of REFERENCE_SET and TIMING_GROUP_SET. -/
def Time.standing (t : Time) : Time :=
  { cands := t.cands.map Cand.standing, revertHold := t.revertHold, polarity := t.polarity, ptpDomain := t.ptpDomain
    groups := tabMap (fun _ g => g.standing) t.groups }

/-- The settings of SYNTH_CONFIGURE and of the AMCLK outputs. -/
def Clocks.standing (c : Clocks) : Clocks :=
  let f (_ : Nat) (x : Pll) : Pll :=
    { seed := x.seed, rclkOn := x.rclkOn, rclkDiv := x.rclkDiv, delay2 := x.delay2, delay3 := x.delay3 }
  { plls := tabMap f c.plls, amclk := c.amclk }

/-- The settings of LANE_CONFIGURE. -/
def Lane.standing (l : Lane) : Lane :=
  { rxEn := l.rxEn, txEn := l.txEn, rxIface := l.rxIface, txIface := l.txIface, rxFixed := l.rxFixed, rxRaster := l.rxRaster
    rxRate := l.rxRate, eqMode := l.eqMode, rxLinks := l.rxLinks, txLinks := l.txLinks, ctleSet := l.ctleSet, flags := l.flags
    pre := l.pre, post := l.post, swing := l.swing }

/-- The settings of QUAD_ALLOCATE and LANE_CONFIGURE; lane tests are not standing. -/
def Lanes.standing (l : Lanes) : Lanes :=
  let f (_ : Nat) (q : Quad) : Quad := { q with loopback := 0 }
  { quads := tabMap f l.quads, lanes := tabMap (fun _ x => x.standing) l.lanes, links := l.links }

/-- The settings of a flow (R135); a stream-key handle is not standing (R106). -/
def Flow.standing (f : Flow) : Flow := { cfg := f.cfg.take 104 ++ zeros 4 ++ f.cfg.drop 108 }

/-- The settings of an input: its ancillary filter and EVENT packets (R128, R129). -/
def Input.standing (i : Input) : Input := { filterMode := i.filterMode, filter := i.filter, events := i.events }

/-- The settings of flows, inputs and synchronisers. -/
def Signals.standing (g : Signals) : Signals :=
  let port (_ : Nat) (p : Port) : Port := { ipv4 := p.ipv4, ipv6 := p.ipv6 }
  { inputs := tabMap (fun _ i => i.standing) g.inputs, rx := tabMap (fun _ f => f.standing) g.rx
    tx := tabMap (fun _ f => f.standing) g.tx, settings := g.settings, ports := tabMap port g.ports, utcOffset := g.utcOffset }

/-- The settings of a destination, with its route. -/
def Dest.standing (d : Dest) : Dest :=
  { source := d.source, lane := d.lane, noFollow := d.noFollow, locked := d.locked, tg := d.tg, fine := d.fine
    passLoss := d.passLoss, tally := d.tally, timecode := d.timecode, localOffset := d.localOffset, audio := d.audio
    nightlight := d.nightlight }

/-- The settings of a rule (R176). -/
def Rule.standing (r : Rule) : Rule := { cfg := r.cfg, cands := r.cands.map fun c => { source := c.source } }

/-- A destination identifier of a standing route: not an encoder-channel input (R106). -/
def standingDest (id : Nat) : Bool := id / 4096 != 4

/-- Routes, settings, locks, generators and rules. -/
def Routing.standing (r : Routing) : Routing :=
  { dests := tabMap (fun _ d => d.standing) (r.dests.filter fun e => standingDest e.1)
    gens := r.gens, rules := tabMap (fun _ x => x.standing) (r.rules.filter fun e => standingDest e.1) }

/-- Pipes and gangs. -/
def Conversion.standing (c : Conversion) : Conversion :=
  let f (_ : Nat) (p : Pipe) : Pipe := { cfg := p.cfg, gang := p.gang, bank := p.bank, spare := p.spare }
  { pipes := tabMap f c.pipes }

/-- Canvases, clone groups and budgets; layer commits and surfaces are not standing. -/
def Pictures.standing (p : Pictures) : Pictures :=
  let f (_ : Nat) (c : Canvas) : Canvas :=
    { cfg := c.cfg, budget := c.budget, members := c.members.map fun m => (m.1, m.2.1, m.2.1), cloneFine := c.cloneFine }
  { canvases := tabMap f p.canvases }

/-- Panel ports. -/
def Panels.standing (p : Panels) : Panels :=
  let f (_ : Nat) (x : Panel) : Panel := { cfg := x.cfg, seqs := x.seqs, content := x.content }
  { ports := tabMap f p.ports }

/-- Audio routes, gains, endpoint settings and TDM ports. -/
def Audio.standing (a : Audio) : Audio :=
  let src (_ : Nat) (x : AudioSource) : AudioSource :=
    { asrcMode := x.asrcMode, align := x.align, playout := x.playout, exact := x.exact }
  let chan (_ : Nat) (x : DestChan) : DestChan := { delay := x.delay }
  let tdm (_ : Nat) (x : Tdm) : Tdm := { cfg := x.cfg }
  let ring (_ : Nat) (x : AudioRing) : AudioRing := { cfg := x.cfg }
  let mclk (_ : Nat) (x : Mclk) : Mclk := { multiple := x.multiple }
  { rate := a.rate, crosses := a.crosses, dests := a.dests, chans := tabMap chan a.chans, sources := tabMap src a.sources
    tdm := tabMap tdm a.tdm, rings := tabMap ring a.rings, mclk := tabMap mclk a.mclk }

/-- The cascade's configuration and export slots. -/
def Cascade.standing (c : Cascade) : Cascade :=
  let f (_ : Nat) (l : Link) : Link := { quads := l.quads, expected := l.expected, entry := l.entry }
  { cfg := c.cfg, links := tabMap f c.links, exports_ := c.exports_ }

/-- Fences by policy and by command (R531), and fencing policy. -/
def Health.standing (h : Health) : Health :=
  { fences := h.fences.filter fun f => f.cause == 1 || f.cause == 2, policies := h.policies, unfencing := h.unfencing }

/-- The standing configuration (R106). -/
def State.standing (s : State) : Standing :=
  { time := s.time.standing, clocks := s.clocks.standing, lanes := s.lanes.standing, signals := s.signals.standing
    routing := s.routing.standing, conversion := s.conversion.standing, pictures := s.pictures.standing
    panels := s.panels.standing, audio := s.audio.standing, cascade := s.cascade.standing, health := s.health.standing }

/-! ## The Nightlight map (R409 to R411) -/

/-- The transmit interface of a destination lane: the configured one, or that of AUTO for its group's format (R373). -/
def State.txInterface (s : State) (d : Nat) : Option Nat :=
  let l := tabGet s.lanes.lanes d {}
  let t := tabGet s.time.groups (tabGet s.routing.dests d {}).tg (Tg.reset (tabGet s.routing.dests d {}).tg)
  if l.txIface = 0 then autoIface t.raster t.rate else some l.txIface

/-- The single-link interface of one link of a multi-link interface (R373). -/
def linkInterface (i : Nat) : Nat := if i = 8 ∨ i = 9 then 3 else if i = 10 ∨ i = 11 then 6 else i

/-- A source lane meets the conditions of R411 for a destination lane: its detected interface, or for a multi-link group the
configured one of the group, is that of the destination in interface and rate family. -/
def State.passMeets (s : State) (d src iface : Nat) (grouped : Bool) : Bool :=
  let l := tabGet s.lanes.lanes src {}
  let q := tabGet s.lanes.quads (d / 4) {}
  let p := tabGet s.lanes.quads (src / 4) {}
  p.protocol == 1 && q.protocol == 1 && p.mode == q.mode
    && (if grouped then l.rxIface == iface else l.detIface == iface && l.detFamily == q.mode && decide (1 ≤ iface ∧ iface ≤ 7))
    && (iface != 1 || q.mode == 0)

/-- The pass record of a destination lane and a source lane (R409). -/
def State.passRecord (s : State) (d src : Nat) (backup : Option Nat) (iface : Nat) : PassRec :=
  let l := tabGet s.lanes.lanes d {}
  let a := tabGet s.lanes.lanes src {}
  let b := tabGet s.lanes.lanes (backup.getD 0) {}
  { dest := d, primary := src, backup := backup.getD 0xFFFF, iface, loss := b2n (tabGet s.routing.dests d {}).passLoss
    swing := l.swing, pre := l.pre, post := l.post
    flags := b2n (bit l.flags 1) + 2 * b2n (bit a.flags 0) + (if backup.isSome then 4 * b2n (bit b.flags 0) else 0)
    seed1 := a.ctle, seed2 := if backup.isSome then b.ctle else 0, reserved := 0 }

/-- The pass records of a destination lane (R411): none where it does not qualify, one for each link of a multi-link
route. -/
def State.passesOf (s : State) (d : Nat) : List PassRec :=
  let x := tabGet s.routing.dests d {}
  let cloned := s.pictures.canvases.any fun e => e.2.members.any fun m => m.1 == d
  if 144 ≤ d || 144 ≤ x.source || cloned || x.nightlight != 0 || !(tabGet s.lanes.lanes d {}).txEn then []
  else match s.txInterface d with
    | none => []
    | some i =>
      if ifaceLinks i = 1 then
        if !s.passMeets d x.source i false then []
        else
          let rule := s.routing.rules.find? fun e => e.1 == d
          let cands := (rule.map fun e => e.2.cands.map (·.source)).getD []
          let backup := cands.find? fun c => decide (c < 144) && c != x.source && s.passMeets d c i false
          [s.passRecord d x.source backup i]
      else if !s.passMeets d x.source i true then []
      else
        let ds := d :: ((tabGet s.lanes.lanes d {}).txLinks.filter (· != 0xFFFF))
        let ss := x.source :: ((tabGet s.lanes.lanes x.source {}).rxLinks.filter (· != 0xFFFF))
        (List.zip ds ss).map fun p => s.passRecord p.1 p.2 none (linkInterface i)

/-- The Nightlight map that firmware derives from the standing configuration (R411). -/
def State.deriveMap (s : State) (jsn : Nat) : NlMap :=
  let passes := (s.routing.dests.map (·.1)).flatMap s.passesOf
  let lanes := passes.flatMap fun p => [p.dest, p.primary] ++ (if p.backup = 0xFFFF then [] else [p.backup])
  let quads := (List.range 36).filter fun q => lanes.any fun n => n / 4 == q
  { jsn, quads := quads.map fun q => (q, (tabGet s.lanes.quads q {}).mode), passes
    length := 32 + 8 * quads.length + 16 * passes.length }

/-- The pass record as bytes (R409). -/
def PassRec.bytes (p : PassRec) : Bytes :=
  le 2 p.dest ++ le 2 p.primary ++ le 2 p.backup ++ le 1 p.iface ++ le 1 p.loss ++ le 1 p.swing ++ le 1 (ofSigned 8 p.pre)
    ++ le 1 (ofSigned 8 p.post) ++ le 1 p.flags ++ le 1 p.seed1 ++ le 1 p.seed2 ++ le 2 p.reserved

/-- The map as bytes, its CRC field given (R409). -/
def NlMap.bytes (m : NlMap) (crc : Nat) : Bytes :=
  le 4 m.magic ++ le 2 m.version ++ le 2 m.length ++ le 8 m.jsn ++ le 1 m.quads.length ++ le 1 m.passes.length ++ zeros 2
    ++ le 4 crc ++ zeros 8 ++ m.quads.flatMap (fun q => le 1 q.1 ++ le 1 q.2 ++ zeros 6) ++ m.passes.flatMap PassRec.bytes

end Sys2Proof.Machine
end

