-- ==== Sys2Proof/Machine/Gather.lean ====
section
/-! DEFINITION. The records of the non-volatile store and its gather buffer (R477 to R486): which copy is current, how a change
is gathered, and when a commit starts. -/

namespace Sys2Proof.Machine

/-- Change the store. -/
def State.mapStore (s : State) (f : Store → Store) : State := { s with store := f s.store }

/-! ## Copies (R480 to R482) -/

/-- A copy is valid (R480). -/
def Copy.valid (c : Copy) (committed : Nat) : Bool := c.ok && decide (c.commit ≤ committed)

/-- A slot's copy, when it is valid. -/
def validCopy (c : Option Copy) (committed : Nat) : Option Copy := c.filter fun x => x.valid committed

/-- The sequence of one copy is newer than another's (R480). -/
def newerSeq (x y : Nat) : Bool :=
  let d := (x + 2 ^ 32 - y % 2 ^ 32) % 2 ^ 32
  decide (1 ≤ d ∧ d < 2 ^ 31)

/-- Slot A holds the current copy (R480, R481): it alone is valid, or it is not older. None when no copy is valid. -/
def Rec.currentA (r : Rec) (committed : Nat) : Option Bool :=
  match validCopy r.a committed, validCopy r.b committed with
  | none, none => none
  | some _, none => some true
  | none, some _ => some false
  | some x, some y => some (!newerSeq y.seq x.seq)

/-- The current copy of a record (R480); none: the record is LOST (R482). -/
def Rec.current (r : Rec) (committed : Nat) : Option Copy :=
  match r.currentA committed with
  | none => none
  | some true => r.a
  | some false => r.b

/-- Both copies are valid with one sequence and differ (R481). -/
def Rec.conflict (r : Rec) (committed : Nat) : Bool :=
  match validCopy r.a committed, validCopy r.b committed with
  | some x, some y => x.seq == y.seq && x.body != y.body
  | _, _ => false

/-- A write goes to the slot that does not hold the current copy, or to slot A of a LOST record (R480, R482). -/
def Rec.write (r : Rec) (committed : Nat) (body : Body) : Rec :=
  let seq := match r.current committed with
    | some c => (c.seq + 1) % 2 ^ 32
    | none => 0
  let c : Copy := { seq, commit := committed + 1, body, ok := true, hmacOk := true }
  if r.currentA committed = some true then { r with b := some c, writes := r.writes + 1 }
  else { r with a := some c, writes := r.writes + 1 }

/-- A record of the store. -/
def Store.rec_ (t : Store) (id : Nat) : Rec := tabGet t.recs id {}

/-- The body of the current copy of a record. -/
def Store.body (t : Store) (id : Nat) : Option Body := ((t.rec_ id).current t.committed).map (·.body)

/-! ## Sizes (R477, R484) -/

/-- Bytes of a payload of n bytes in the gather buffer: slot header and payload, padded to 8. -/
def entrySize (n : Nat) : Nat := (24 + n + 7) / 8 * 8

/-- Bytes of a record's payload; a Lantern record carries a 48-byte HMAC (R434). -/
def Body.bytes : Body → Nat
  | .marker _ => 56
  | .map m => m.length
  | .anchor .. => 80
  | .repair l => 8 * l.length
  | .userKey _ => 96 + 2592 + 48
  | .peers _ => 32 * 96 + 48
  | .lock _ => 8 + 48
  | .standing _ => 0

/-- An entry of a unit; the standing configuration takes the bytes that its records take (log entry 42). -/
def gatheredOf (jsn id : Nat) (b : Body) : Gathered :=
  { id, body := b, size := match b with
      | .standing _ => Config.standingBytes jsn
      | _ => entrySize b.bytes }

/-- Bytes of entries. -/
def sizeOf_ (l : List Gathered) : Nat := (l.map (·.size)).sum

/-- Entries with a unit merged in: a second write of a record replaces the first in place (R484). -/
def mergeEntries (l new : List Gathered) : List Gathered :=
  new.foldl (fun l e => if l.any fun x => x.id == e.id then l.map fun x => if x.id = e.id then e else x else l ++ [e]) l

/-! ## Commits (R484 to R486, R489, R490) -/

/-- The log records staged for a commit (R489): CRITICAL ones first, at most 64 unless CRITICAL ones are more; and how many
MAJOR ones are dropped. -/
def stageLogs (staged : List EventRec) : List EventRec × Nat :=
  let crit := staged.filter fun e => e.severity == 0
  let rest := staged.filter fun e => e.severity != 0
  let keep := rest.take (64 - crit.length)
  (crit ++ keep, rest.length - keep.length)

/-- The spacing of 50 ms after the previous flip is over (R484). -/
def State.nvSpaced (s : State) : Bool :=
  match s.store.lastFlip with
  | none => true
  | some t => decide (t + 50000000 < s.time.dt)

/-- A commit of entries starts (R485). -/
def State.nvBegin (s : State) (entries : List Gathered) (serial : Nat) (powerFail long : Bool) : State :=
  let l := stageLogs s.events.staged
  let s := { s with events := { s.events with staged := [] } }
  s.mapStore fun t => { t with
    commit := some { entries, serial, logs := l.1, powerFail, long }, logDropped := (t.logDropped + l.2) % 2 ^ 64 }

/-- The buffer's commit starts, or waits for its spacing or for POWER_FAIL_N (R484, R491). -/
def State.nvStart (s : State) : State :=
  if s.store.commit.isSome || s.store.buffer.isEmpty then s
  else if s.store.powerLow || !s.nvSpaced then s.mapStore fun t => { t with waiting := true }
  else
    let b := s.store.buffer
    (s.mapStore fun t => { t with buffer := [], oldest := none, waiting := false }).nvBegin b s.store.gathered false false

/-- Take a unit into the buffer, or start its commit: one that does not fit waits for the buffer's commit, and one larger than
the buffer is a long batch of its own (R484, R486). -/
def State.nvTake (s : State) (u : NvUnit) : State :=
  let t := s.store
  if t.commit.isSome || t.waiting then s.mapStore fun t => { t with queue := t.queue ++ [u] }
  else if sizeOf_ (mergeEntries t.buffer u.entries) ≤ 4096 then
    s.mapStore fun t => { t with
      buffer := mergeEntries t.buffer u.entries, gathered := u.serial
      oldest := match t.oldest with
        | some x => some x
        | none => some s.time.dt }
  else if t.buffer.isEmpty then
    if t.powerLow || !s.nvSpaced then s.mapStore fun t => { t with queue := t.queue ++ [u], waiting := true }
    else (s.mapStore fun t => { t with gathered := u.serial }).nvBegin u.entries u.serial false true
  else (s.mapStore fun t => { t with queue := t.queue ++ [u] }).nvStart

/-- Queue a change: the records that it writes are one unit (R484). -/
def State.gather (s : State) (entries : List Gathered) : State :=
  let n := s.store.serial + 1
  (s.mapStore fun t => { t with serial := n }).nvTake { serial := n, entries }

/-- A standing change has taken effect (R106, R411): the standing records, the marker with the standing JSN, and the Nightlight
map where the change alters it, in one unit. -/
def State.gatherStanding (s : State) (jsn : Nat) : State :=
  let m := s.deriveMap jsn
  let old := match s.store.body 0x0002 with
    | some (.map x) => (x.passes, x.quads)
    | _ => ([], [])
  let pendingMap := s.store.buffer.any fun e => e.id == 2
  let map := if pendingMap || (m.passes, m.quads) != old then [gatheredOf jsn 0x0002 (.map m)] else []
  s.gather ([gatheredOf jsn 0x0001 (.marker jsn), gatheredOf jsn 0x1000 (.standing s.standing)] ++ map)

/-- Units that waited load into the buffer in order while they fit (R484). -/
def State.nvLoad (s : State) : Nat → State
  | 0 => s
  | n + 1 =>
    match s.store.queue with
    | [] => s
    | u :: r =>
      if s.store.commit.isSome || s.store.waiting then s
      else ((s.mapStore fun t => { t with queue := r }).nvTake u).nvLoad n

end Sys2Proof.Machine
end

