-- ==== Sys2Proof/Machine/Chronicle.lean ====
section
/-! DEFINITION. Writing the journal: JSNs (R95, R96), entries (R98), pages and their hashes (R99, R100),
chains (R103), and the device's own entries (R97). -/

namespace Sys2Proof.Machine

/-- The JSN of an epoch and a sequence number (R95). -/
def jsnOf (epoch seq : Nat) : Nat := epoch * 2 ^ 40 + seq

/-- The newest JSN written; 0 while none is. -/
def Journal.newest (j : Journal) : Nat := if j.seq = 0 then 0 else jsnOf j.epoch j.seq

/-- The next JSN. -/
def Journal.nextJsn (j : Journal) : Nat := jsnOf j.epoch (j.seq + 1)

/-- The argument area of an entry: inline up to 176 bytes, else the SHA-384 digest (R98). -/
def argArea (a : Bytes) : Bytes :=
  if a.length ≤ 176 then a else digestBytes (Config.sha384 a)

/-- The argument form of R98. -/
def argForm (a : Bytes) : Nat := if a.length ≤ 176 then 0 else 1

/-- The 256 bytes of an entry (R98). -/
def Entry.bytes (e : Entry) : Bytes :=
  le 8 e.jsn ++ le 6 (e.dt / 1000000000) ++ le 4 (e.dt % 1000000000) ++ le 1 e.kind ++ le 1 e.view
    ++ le 4 e.session ++ le 6 e.frame ++ le 2 e.line ++ le 1 e.tg ++ le 1 e.form ++ le 2 e.opcode
    ++ le 2 e.status ++ le 2 e.flags ++ le 8 e.token ++ le 2 e.argLen ++ le 1 e.major
    ++ le 1 e.minor ++ le 2 e.outcome ++ zeros 2 ++ le 8 e.page ++ padTo 176 e.args ++ le 8 e.ref
    ++ zeros 8

/-- An entry with every field zero, of a kind. -/
def blankEntry (kind : Nat) : Entry :=
  { jsn := 0, dt := 0, kind, view := 0, session := 0, frame := 0, line := 0, tg := 0, form := 0,
    opcode := 0, status := 0, flags := 0, token := 0, argLen := 0, major := 0, minor := 0,
    outcome := 0, page := 0, args := [], ref := 0 }

/-- The hash before the open page: of the newest closed page, or of the genesis block (R100). -/
def Journal.headHash (j : Journal) : BitVec 384 :=
  match j.pages with
  | [] => j.genesis
  | p :: _ => p.hash

/-- Keep the newest n closed pages, and the hash of the one before them (R99, R104). -/
def Journal.keepPages (j : Journal) (n : Nat) : Journal :=
  match j.pages[n]? with
  | none => j
  | some p => { j with pages := j.pages.take n, pageBefore := p.hash }

/-- Close the open page: FILL entries to 64, and its hash (R99, R100). -/
def Journal.closePage (j : Journal) : Journal :=
  let fills := List.replicate (64 - j.open_.length) { blankEntry 4 with page := j.page }
  let es := j.open_.reverse ++ fills
  let prev := if j.page = 0 then j.genesis else j.headHash
  let h := Config.sha384 (digestBytes prev ++ le 8 j.page ++ es.flatMap Entry.bytes)
  ({ j with open_ := [], page := j.page + 1, pages := ⟨j.page, es, h, false⟩ :: j.pages } : Journal).keepPages 16384

/-- Put an entry into the open page with the next JSN; a page of 64 entries closes (R96, R99). -/
def Journal.push (j : Journal) (e : Entry) : Journal :=
  let jsn := j.nextJsn
  let e := { e with jsn, page := j.page }
  let j := if j.open_.isEmpty then j.keepPages 16383 else j
  let j := { j with
    seq := j.seq + 1
    open_ := e :: j.open_
    reflected := if e.kind = 0 then j.reflected else jsn
    standingQueued := if bit e.outcome 4 then jsn else j.standingQueued }
  if j.open_.length = 64 then j.closePage else j

/-- The genesis block of a chain (R100). -/
def Journal.genesisBlock (j : Journal) (dt : Nat) : Bytes :=
  le 4 j.epoch ++ le 4 j.chain ++ le 6 (dt / 1000000000) ++ le 4 (dt % 1000000000) ++ zeros 6
    ++ digestBytes j.lastSealHash ++ le 8 j.lastSealJsn ++ zeros 16

/-- A DEVICE entry of an action code, under the device session (R96, R97). -/
def deviceEntry (dt action : Nat) (args : Bytes) (standing : Bool := false) : Entry :=
  { blankEntry 3 with
    dt, view := 2, tg := 0xFF, opcode := action, argLen := args.length, form := argForm args
    args := argArea args, outcome := if standing then 16 else 0 }

/-- Start a chain: pages count from 0 again, and its first entry is JOURNAL_START with the genesis
block (R100, R103). -/
def Journal.startChain (j : Journal) (chain dt : Nat) : Journal :=
  let j := { j with chain, page := 0, open_ := [], pages := [], newChain := false }
  let g := j.genesisBlock dt
  ({ j with genesis := Config.sha384 g, chainFirst := j.nextJsn }).push (deviceEntry dt 0x0001 g)

/-- Write an entry, after starting the chain that a lost chain calls for (R103). -/
def Journal.append (j : Journal) (dt : Nat) (e : Entry) : Journal :=
  (if j.newChain then j.startChain (j.chain + 1) dt else j).push e

/-- Write an entry into the journal; a change of the standing configuration is queued for the store (R106). -/
def State.log (s : State) (e : Entry) : State :=
  let s := { s with journal := s.journal.append s.time.dt e }
  if bit e.outcome 4 then s.gatherStanding s.journal.newest else s

/-- Write a DEVICE entry of an action code (R97). -/
def State.logDevice (s : State) (action : Nat) (args : Bytes) (standing : Bool := false) : State :=
  s.log (deviceEntry s.time.dt action args standing)

/-- The oldest JSN held in the ring; 0 while none is (R104). -/
def Journal.oldest (j : Journal) : Nat :=
  match j.pages.getLast? with
  | some p => (p.entries.head?.map (·.jsn)).getD 0
  | none => (j.open_.getLast?.map (·.jsn)).getD 0

end Sys2Proof.Machine
end

