-- ==== Sys2Proof/Machine/Place.lean ====
section
/-! DEFINITION. Where in the raster a command takes effect: Dusk lines (R44, R45), effect points by
object kind (R46 to R48), lateness (R47), and positions of another group by DT (R36, R46). -/

namespace Sys2Proof.Machine

/-- A change of one timing group. -/
def State.setTg (s : State) (g : Nat) (t : Tg) : State :=
  { s with time := { s.time with groups := tabPut s.time.groups g t } }

/-- The Dusk line D of a group (R44). -/
def Tg.duskLine (t : Tg) : Nat := firstActive t.raster - t.dusk

/-- The Dusk offset a command names; 0 = 8 (R42). -/
def duskOf (v : Nat) : Nat := if v = 0 then 8 else v

/-- A Dusk offset is valid for a format: 4 to 64, not above the largest, and D strictly after S
(R37, R44). -/
def duskValid (raster v : Nat) : Bool :=
  decide (4 ≤ v ∧ v ≤ 64 ∧ v ≤ largestDusk raster ∧ switchLine raster + v < firstActive raster)

/-- The kinds of effect point of R48. -/
inductive Point where
  /-- line S of F, governed by D of F - 1: a stream switch or salvo member. -/
  | switchLine
  /-- a lane-crosspoint switch: frozen at D of F - 1, reported at that Dusk line. -/
  | laneFreeze
  /-- line 1 of F + 1, governed by D of F: synchronisers, group formats, decode delays, fences. -/
  | frameStart
  /-- the first active line of F, governed by D of F: canvases, pipes, panels, encode pictures. -/
  | firstActive
  /-- the evaluation at D of F: a watch-table edit. -/
  | dusk
  /-- the line named, or D + 1: audio and line-exact settings. -/
  | anyLine
  deriving DecidableEq, Repr

/-- The number of a kind of effect point, as a scheduled command carries it. -/
def Point.code : Point → Nat
  | .switchLine => 0
  | .laneFreeze => 1
  | .frameStart => 2
  | .firstActive => 3
  | .dusk => 4
  | .anyLine => 5

/-- The kind of a number. -/
def Point.ofCode : Nat → Point
  | 0 => .switchLine
  | 1 => .laneFreeze
  | 2 => .frameStart
  | 3 => .firstActive
  | 4 => .dusk
  | _ => .anyLine

/-- The effect point governed by the Dusk line of frame `f` (R48), as frame and line. -/
def Point.governedBy (k : Point) (t : Tg) (f : Nat) : Nat × Nat :=
  match k with
  | .switchLine => (f + 1, Machine.switchLine t.raster)
  | .laneFreeze => (f, t.duskLine)
  | .frameStart => (f + 1, 1)
  | .firstActive => (f, Machine.firstActive t.raster)
  | .dusk => (f, t.duskLine)
  | .anyLine => (f, t.duskLine + 1)

/-- The frame whose Dusk line governs the point "in frame F" (R46, at-line 0). -/
def Point.frameOf (k : Point) (f : Nat) : Nat :=
  match k with
  | .switchLine => f - 1
  | .laneFreeze => f - 1
  | _ => f

/-- The frame whose Dusk line governs the first point at or after line L of frame F (R46). -/
def Point.frameFrom (k : Point) (t : Tg) (f l : Nat) : Nat :=
  match k with
  | .switchLine => if l ≤ Machine.switchLine t.raster then f - 1 else f
  | .laneFreeze => if l ≤ Machine.switchLine t.raster then f - 1 else f
  | .frameStart => if l ≤ 1 then f - 1 else f
  | .firstActive => if l ≤ Machine.firstActive t.raster then f else f + 1
  | .dusk => if l ≤ t.duskLine then f else f + 1
  | .anyLine => f

/-- Lexicographic order of (frame, line). -/
def posLe (f l f' l' : Nat) : Bool := f < f' || (f == f' && l ≤ l')

/-- The first frame whose Dusk line ends after a position (R46). -/
def nextDusk (t : Tg) (p : Hrt) : Nat := if p.line ≤ t.duskLine then p.frame else p.frame + 1

/-- The DT of a position of a group, by the start of the frame in progress and the frame period
(R36, R39). -/
def Tg.dtOf (t : Tg) (frame line : Nat) : Int :=
  let f := frameFraction t.raster t.rate
  let total := totalLines t.raster
  let n : Int := ((frame : Int) - t.pos.frame) * total + ((line : Int) - 1)
  (t.frameStart : Int) + n * 1000000000 * f.2 / (f.1 * total)

/-- Positions of two groups are compared by DT, which counts whole nanoseconds (R33): what the rounding of two positions can
amount to is taken as no difference (log entry 54). -/
def roundingNs : Int := 2

/-- The first frame G such that the point governed by its Dusk line begins at or after a DT (R46). -/
def Point.frameAtDt (k : Point) (t : Tg) (dt : Int) : Nat :=
  let p := k.governedBy t t.pos.frame
  let f := frameFraction t.raster t.rate
  let d := dt - t.dtOf p.1 p.2 - roundingNs
  let n : Int := -((-(d * f.1)) / (1000000000 * f.2))
  ((t.pos.frame : Int) + n).toNat

/-- The first line of a group that begins at or after a DT, as frame and line (R46, kinds whose
effect point is any line). -/
def Tg.lineAtDt (t : Tg) (dt : Int) : Nat × Nat :=
  let f := frameFraction t.raster t.rate
  let total := totalLines t.raster
  let d := dt - (t.frameStart : Int) - roundingNs
  let n : Int := -((-(d * (f.1 * total))) / (1000000000 * f.2))
  let k := ((t.pos.frame : Int) * total + n).toNat
  (k / total, k % total + 1)

/-- A place: the effect and whether the command was late (R47). -/
structure Placed where
  effect : Effect
  late : Bool
  deriving DecidableEq, Repr

/-- Place a point of a kind governed by the Dusk line of frame `f`, for a command armed at `p`
(R47): late when armed after the governing line, then one frame later or at the first point still
reachable. -/
def placeGoverned (k : Point) (g : Nat) (t : Tg) (f : Nat) (p : Hrt) : Placed :=
  if posLe p.frame p.line f t.duskLine then
    let e := k.governedBy t f
    ⟨⟨g, e.1, e.2⟩, false⟩
  else
    let f' := if posLe p.frame p.line (f + 1) t.duskLine then f + 1 else nextDusk t p
    let e := k.governedBy t f'
    ⟨⟨g, e.1, e.2⟩, true⟩

/-- Place a line-exact command at line `l` of frame `f` (R48: it must be armed before line L
begins). -/
def placeLine (g f l : Nat) (p : Hrt) : Placed :=
  if posLe f l p.frame p.line then
    let f' := if posLe (f + 1) l p.frame p.line then (if p.line < l then p.frame else p.frame + 1)
      else f + 1
    ⟨⟨g, f', l⟩, true⟩
  else ⟨⟨g, f, l⟩, false⟩

/-- Place a command on an object of group `g` (R46): `r` carries the at fields, `stamp` is the
doorbell's position in the group, the command is armed at the group's present position. -/
def State.place (s : State) (k : Point) (g : Nat) (atFrame atLine atGroup : Nat) (stamp : Hrt) :
    Placed :=
  let t := s.tg g
  if atFrame = 0 then
    let f := nextDusk t stamp
    match k with
    | .anyLine => placeLine g f (t.duskLine + 1) t.pos
    | _ => placeGoverned k g t f t.pos
  else if atGroup = g then
    match k with
    | .anyLine => placeLine g atFrame (if atLine = 0 then t.duskLine + 1 else atLine) t.pos
    | _ =>
      let f := if atLine = 0 then k.frameOf atFrame else k.frameFrom t atFrame atLine
      placeGoverned k g t f t.pos
  else
    let dt := (s.tg atGroup).dtOf atFrame (if atLine = 0 then 1 else atLine)
    match k with
    | .anyLine =>
      let p := t.lineAtDt dt
      placeLine g p.1 p.2 t.pos
    | _ => placeGoverned k g t (k.frameAtDt t dt) t.pos

/-- The at fields name a position of an enabled group, a line of its format, not more than 24 hours
ahead (R46); with at-frame 0 the line is not used. -/
def State.atValid (s : State) (atFrame atLine atGroup : Nat) : Bool :=
  if atFrame = 0 then decide (atGroup < 8)
  else
    let t := s.tg atGroup
    decide (atGroup < 8) && t.enabled && decide (atLine ≤ totalLines t.raster)
      && decide (t.dtOf atFrame (if atLine = 0 then 1 else atLine)
          ≤ (s.time.dt : Int) + 86400 * 1000000000)

end Sys2Proof.Machine
end

