-- ==== Sys2Proof/Machine/Units.lean ====
section
/-! DEFINITION. Units: which are present (R3, R5), which are fenced (R529), the logical units bound to
them (R527), and the device state (R76, R89, R529). -/

namespace Sys2Proof.Machine

/-- How many units of a source class the full module has (R3, R15, R81). -/
def unitCount (cls : Nat) : Nat :=
  match cls with
  | 1 => 144
  | 2 => 36
  | 3 => 4
  | 4 => 4
  | 5 => 8
  | 6 => 32
  | 7 => 16
  | 8 => 4
  | 16 => 2
  | 18 => 8
  | _ => 0

/-- How many units of a class the feature code leaves (R3, R6). -/
def featureCount (f : Feature) (cls : Nat) : Nat :=
  match f, cls with
  | .x, 5 => 0
  | .a, 1 => 72
  | .a, 2 => 18
  | .a, 3 => 2
  | _, c => unitCount c

/-- The units that hold a unit: a lane's quad and sector, a quad's sector (R15). -/
def unitParents (cls idx : Nat) : List (Nat × Nat) :=
  match cls with
  | 1 => [(2, idx / 4), (3, idx / 36)]
  | 2 => [(3, idx / 9)]
  | _ => []

/-- A unit is present: neither it nor what holds it is removed by the feature code or fused off
(R5). -/
def Part.present (p : Part) (cls idx : Nat) : Bool :=
  decide (idx < featureCount p.feature cls) &&
    ((cls, idx) :: unitParents cls idx).all fun u => !p.fusedOff.contains u

/-- A unit of this module is present. -/
def State.present (s : State) (cls idx : Nat) : Bool := s.part.present cls idx

/-- A unit has a fence of its own. -/
def Health.fencedSelf (h : Health) (cls idx : Nat) : Bool :=
  h.fences.any fun f => f.cls == cls && f.idx == idx

/-- A unit is fenced, by itself or with the unit that holds it (R529). -/
def Health.fenced (h : Health) (cls idx : Nat) : Bool :=
  h.fencedSelf cls idx || (unitParents cls idx).any fun u => h.fencedSelf u.1 u.2

/-- A unit of this module is fenced. -/
def State.fenced (s : State) (cls idx : Nat) : Bool := s.health.fenced cls idx

/-- A unit is present and not fenced. -/
def State.inService (s : State) (cls idx : Nat) : Bool := s.present cls idx && !s.fenced cls idx

/-- A test holds a unit (R526). -/
def State.underTest (s : State) (cls idx : Nat) : Bool :=
  s.health.tests.any fun t => t.cls == cls && t.idx == idx && t.running

/-- Present units that are fenced (R547 ID_DEVICE_FENCED, before saturation). -/
def State.fencedCount (s : State) : Nat :=
  if s.health.fences.isEmpty then 0
  else ([1, 2, 3, 4, 5, 6, 7, 8].map fun c =>
    ((List.range (unitCount c)).filter fun i => s.present c i && s.fenced c i).length).sum

/-- The physical pipe of a logical pipe (R527). -/
def State.pipeUnit (s : State) (p : Nat) : Nat := tabGet s.health.pipeBind p p

/-- The physical canvas of a logical canvas (R527). -/
def State.canvasUnit (s : State) (c : Nat) : Nat := tabGet s.health.canvasBind c c

/-- Another logical unit uses the physical unit of a logical number that is still bound to it (R527). -/
def boundAway (bind : Tab Nat) (n : Nat) : Bool :=
  tabGet bind n n == n && bind.any fun e => e.1 != n && e.2 == n

/-- A logical pipe cannot be named: its physical pipe is fenced or serves another logical pipe (R527,
R531). -/
def State.pipeDown (s : State) (p : Nat) : Bool := s.fenced 6 (s.pipeUnit p) || boundAway s.health.pipeBind p

/-- A logical canvas cannot be named (R527, R531). -/
def State.canvasDown (s : State) (c : Nat) : Bool :=
  s.fenced 7 (s.canvasUnit c) || boundAway s.health.canvasBind c

/-- CPC firmware runs: step 5 of R407 has been reached, or the stage is RETREAT (R425); a thermal trip stops it (R534). -/
def State.fwRunning (s : State) : Bool :=
  (s.boot.stage == 6 || s.boot.stage == 7 || s.boot.stage == 0x13) && !s.health.tripped

/-- Thermal retreat or a trip has stopped the media units (R425, R534). -/
def State.halted (s : State) : Bool := s.boot.retreat || s.health.tripped

/-- The device state code of R547: 0 BOOTING, 1 RUNNING, 2 DIMMED, 3 UPDATING. -/
def State.deviceState (s : State) : Nat :=
  if s.journal.swapping then 3
  else if !(s.boot.stage == 7 || s.boot.stage == 0x13) then 0
  else if s.health.fences.any fun f => s.present f.cls f.idx then 2 else 1

/-- A free value of the spec, and the state that has taken it (log entry 3). -/
def State.free (s : State) : Nat := Config.freeValue s.freeCount

/-- Advance the counter of free values. -/
def State.tookFree (s : State) : State := { s with freeCount := s.freeCount + 1 }

end Sys2Proof.Machine
end

