-- ==== Sys2Proof/Machine/Ops.lean ====
section
/-! DEFINITION. The shared operations of the command protocol: mailboxes (R64 to R66), the request
checks in their order (R61), acceptance, JSN and journal entries (R62, R97), DMA (R71, R72), tokens and
the result cache (R73), and how a scheduled effect or background work becomes final (R68, R97). -/

namespace Sys2Proof.Machine

/-! ## Mailboxes -/

/-- A mailbox of the state; key as in `mbKey`. -/
def State.mailbox (s : State) (k : Nat) : Mailbox := tabGet s.ccp.mailboxes k {}

/-- Store a mailbox. -/
def State.setMailbox (s : State) (k : Nat) (m : Mailbox) : State :=
  { s with ccp := { s.ccp with mailboxes := tabPut s.ccp.mailboxes k m } }

/-- How many mailboxes a view has (R56). -/
def mailboxCount : View → Nat
  | .pf0 => 16
  | .pf1 => 4

/-- The HRT positions of the eight groups at a doorbell (R46, R67). -/
def State.positions (s : State) : List Hrt := (List.range 8).map fun g => (s.tg g).pos

/-- A doorbell in IDLE, DONE or ERROR (R65): the response buffer is cleared to PENDING, the request
buffer is locked, the mailbox enters SUBMITTED and stamps the doorbell. -/
def Mailbox.submit (m : Mailbox) (opcode : Nat) (r : Request) (cycle : Nat) (pos : List Hrt) :
    Mailbox :=
  { m with
    state := .submitted, request := some (opcode, r), token := r.token.toNat, jsn := 0
    stamp := cycle, stampPos := pos, status := stPending, result := stPending, effect := none
    payload := [], dmaOut := [] }

/-- The response of a request that was not accepted: ERROR, JSN 0 (R64). -/
def Mailbox.refuse (m : Mailbox) (status : Nat) (payload : Bytes := []) : Mailbox :=
  { m with state := .error, jsn := 0, status, result := status, effect := none, payload }

/-- Send a mailbox's completion vector when enabled (R70, R93). -/
def State.mbInterrupt (s : State) (k : Nat) : State :=
  if (s.mailbox k).intEn then
    { s with events := { s.events with
        msix := msixSignal s.events.msix (if k < 16 then k else 64 + (k - 16)) } }
  else s

/-- Put the response of a mailbox and send its vector (R66, R70). -/
def State.respond (s : State) (k : Nat) (m : Mailbox) : State := (s.setMailbox k m).mbInterrupt k

/-- Answer a request that is not accepted (R61). An attempt refused with NOT_PRIVILEGED or
AUTH_REQUIRED is counted for its view and raises CCP_PRIVILEGE_REFUSED (R87). -/
def State.refuse (s : State) (k : Nat) (v : View) (status : Nat) (payload : Bytes := []) : State :=
  let s := if status = stNotPrivileged ∨ status = stAuthRequired then
      let s := { s with ccp := match v with
        | .pf0 => { s.ccp with refused0 := s.ccp.refused0 + 1 }
        | .pf1 => { s.ccp with refused1 := s.ccp.refused1 + 1 } }
      s.raise .ccpPrivilegeRefused (srcMailbox k)
    else s
  s.respond k ((s.mailbox k).refuse status payload)

/-- The session bound to a mailbox. -/
def State.sessionOf (s : State) (k : Nat) : Option Session :=
  let id := (s.mailbox k).session
  if id = 0 then none else s.ccp.sessions.find? fun x => x.id == id

/-! ## Requests -/

/-- The 32-byte header of a request (R59), as its digest covers it. -/
def requestHeader (r : Request) (opcode : Nat) : Bytes :=
  le 1 r.major.toNat ++ le 1 r.minor.toNat ++ le 2 r.flags.toNat ++ le 2 opcode
    ++ le 2 r.payload.length ++ le 8 r.token.toNat ++ le 6 r.atFrame.toNat ++ le 2 r.atLine.toNat
    ++ le 1 r.group.toNat ++ le 7 r.reserved.toNat

/-- The request digest: over the header with bytes 16 to 31, and the payload (R73). -/
def requestDigest (r : Request) (opcode : Nat) : BitVec 384 :=
  Config.sha384 (requestHeader r opcode ++ r.payload)

/-- The DMA flag of a request (R60). -/
def requestIsDma (r : Request) : Bool := flagDma r.flags.toNat

/-- Descriptor i of a DMA block (R71): host address, length, reserved. -/
def dmaDesc (p : Bytes) (i : Nat) : Nat × Nat × Nat :=
  let o := 8 + 16 * i
  (u64 p o, u32 p (o + 8), u32 p (o + 12))

/-- The descriptor lengths of a DMA block, request descriptors first. -/
def dmaLengths (p : Bytes) : List Nat :=
  (List.range (u16 p 0 + u16 p 2)).map fun i => (dmaDesc p i).2.1

/-- Bytes of request data a DMA block names (R71). -/
def dmaRequestLen (p : Bytes) : Nat := ((dmaLengths p).take (u16 p 0)).sum

/-- Bytes of response data a DMA block has room for (R71). -/
def dmaRoom (p : Bytes) : Nat := ((dmaLengths p).drop (u16 p 0)).sum

/-- The limits of R71 on a DMA block. -/
def dmaValid (p : Bytes) : Bool :=
  let n := u16 p 0 + u16 p 2
  decide (8 ≤ p.length) && decide (u16 p 6 = 0) && decide (n ≤ 253)
    && decide (8 + 16 * n + u16 p 4 = p.length)
    && ((List.range n).all fun i =>
      let d := dmaDesc p i
      decide (d.1 % 64 = 0 ∧ d.2.1 ≠ 0 ∧ d.2.1 % 4 = 0 ∧ d.2.1 ≤ 16 * 1048576 ∧ d.2.2 = 0))
    && decide (dmaRequestLen p ≤ 256 * 1048576) && decide (dmaRoom p ≤ 256 * 1048576)

/-- How a command meets the DMA flag (R60: a flag without meaning for the opcode is ignored). -/
inductive DmaUse where
  | ignored
  | optional
  | required
  deriving DecidableEq, Repr

/-- What a command's meaning works on: the request, its mailbox, its session and JSN, its inline
arguments and its request data. -/
structure Ctx where
  req : Request
  key : Nat
  session : Nat
  crypto : Bool
  user : Bool
  jsn : Nat
  /-- payload, or the inline arguments of a DMA block. -/
  args : Bytes
  /-- request data of a DMA block. -/
  data : Bytes
  /-- the request is a DMA block. -/
  dma : Bool
  /-- bytes of response data the block has room for. -/
  room : Nat

/-- The header's flags. -/
def Ctx.flags (c : Ctx) : Nat := c.req.flags.toNat

/-- What a command's execution answers: the status, the response payload, response data of a DMA
command, the HRT of effect, whether the effect changed the standing configuration (R106), and the new
state. -/
structure Answer where
  status : Nat
  payload : Bytes := []
  out : Bytes := []
  effect : Option Effect := none
  standing : Bool := false
  state : State

/-- The Lantern role an opcode needs (R61 step 6, R88). -/
inductive Role where
  | none
  | crypto
  | user
  | either
  deriving DecidableEq, Repr

/-- A command of the protocol: its opcode and its checks, then its execution. `shape` says the
length and the reserved bytes of the arguments (R61 step 7); `args` says the arguments are valid
(step 10). -/
structure Cmd where
  opcode : Nat
  role : Role := .none
  /-- it acts on a timing-group object, so its at fields may be other than zero (R46). -/
  timed : Bool := false
  dma : DmaUse := .ignored
  shape : Bytes → Bool := fun p => p.isEmpty
  args : Ctx → State → Bool := fun _ _ => true
  /-- the payload of a BAD_ARGUMENT answer of step 10 (R172: the first failing member). -/
  badPayload : Ctx → State → Bytes := fun _ _ => []
  /-- the payload of a BAD_VERSION answer, when no major is common (R77). -/
  noMajor : Ctx → State → Option Bytes := fun _ _ => none
  run : Ctx → State → Answer

/-- A family's opcodes are queries when the low byte is 0x80 or above (R82). -/
def isQuery (opcode : Nat) : Bool := decide (0x80 ≤ opcode % 256)

/-- What the shaded view may issue (R83). -/
def pf1May (opcode : Nat) : Bool :=
  let f := opcode / 256
  f == 0x01 || (isQuery opcode && !(f == 0x09 || f == 0x0A || f == 0x0C || f == 0x0D))

/-- What is served in BOOTING (R89). -/
def bootingMay (opcode : Nat) : Bool :=
  let f := opcode / 256
  f == 0x01 || (f == 0x0B && isQuery opcode) || opcode == 0x0C82

/-- SESSION_OPEN and SESSION_ATTACH need no session and carry major and minor 0 (R61, R76). -/
def opensSession (opcode : Nat) : Bool := opcode == 0x0101 || opcode == 0x0102

/-- A session holds the role a command needs. -/
def Role.heldBy (r : Role) (x : Option Session) : Bool :=
  match r with
  | .none => true
  | .crypto => (x.map (·.crypto)).getD false
  | .user => (x.map (·.user)).getD false
  | .either => (x.map fun y => y.crypto || y.user).getD false

/-- The context of a request. -/
def Cmd.ctx (c : Cmd) (r : Request) (s : State) (jsn : Nat) : Ctx :=
  let k := mbKey r.view r.mailbox
  let x := s.sessionOf k
  let d := requestIsDma r && !(c.dma == .ignored)
  { req := r, key := k, session := (x.map (·.id)).getD 0, crypto := (x.map (·.crypto)).getD false
    user := (x.map (·.user)).getD false, jsn
    args := if d then r.payload.drop (8 + 16 * (u16 r.payload 0 + u16 r.payload 2)) else r.payload
    data := if d then padTo (dmaRequestLen r.payload) r.dma.data else []
    dma := d, room := if d then dmaRoom r.payload else 0 }

/-- Step 7 of R61: length, reserved bytes, flags, at fields, the DMA block (R46, R59, R60, R71). -/
def Cmd.formOk (c : Cmd) (r : Request) (s : State) : Bool :=
  let d := requestIsDma r && !(c.dma == .ignored)
  decide (r.payload.length ≤ 4064) && r.reserved == 0 && flagsValid r.flags.toNat
    && (if c.timed then s.atValid r.atFrame.toNat r.atLine.toNat r.group.toNat
        else r.atFrame == 0 && r.atLine == 0 && r.group == 0)
    && (if d then dmaValid r.payload else !(c.dma == .required))
    && c.shape (c.ctx r s 0).args

/-- The first check of R61 that fails before the token check, with its status. -/
def Cmd.firstFailure (c : Cmd) (r : Request) (s : State) : Option Nat :=
  let k := mbKey r.view r.mailbox
  let x := s.sessionOf k
  if s.journal.swapping then some stUpdating
  else if !opensSession c.opcode && x.isNone then some stAuthRequired
  else if !(if opensSession c.opcode then r.major == 0 && r.minor == 0
            else match x with
              | some y => r.major.toNat == y.major && decide (r.minor.toNat ≤ y.minor)
              | none => false) then some stBadVersion
  else if r.view == .pf1 && !pf1May c.opcode then some stNotPrivileged
  else if !c.role.heldBy x then some stAuthRequired
  else if !c.formOk r s then some stBadArgument
  else if s.boot.stage == 6 && !bootingMay c.opcode then some stUpdating
  else none

/-- Step 9 of R61, token de-duplication (R73): the cached command of the view with the same non-zero
token. -/
def State.cachedToken (s : State) (r : Request) : Option Cached :=
  if r.token == 0 then none
  else s.ccp.cache.find? fun e => e.view == r.view && e.token == r.token.toNat

/-- Opcodes that thermal retreat answers with UNIT_FENCED (R425, R535). -/
def retreatStops (opcode : Nat) : Bool :=
  let f := opcode / 256
  (3 ≤ f && f ≤ 8) || f == 0x0E || opcode == 0x0B01 || opcode == 0x0B03

/-! ## Journal entries of commands -/

/-- The COMMAND entry of an accepted request (R98). -/
def commandEntry (c : Ctx) (opcode : Nat) (s : State) : Entry :=
  let a := if c.dma then c.args ++ c.data else c.req.payload
  { blankEntry 0 with
    dt := s.time.dt, view := viewNo c.req.view, session := c.session
    frame := c.req.atFrame.toNat, line := c.req.atLine.toNat, tg := c.req.group.toNat
    form := argForm a, opcode, status := stPending, flags := c.flags, token := c.req.token.toNat
    argLen := a.length, major := c.req.major.toNat, minor := c.req.minor.toNat, args := argArea a }

/-- The OUTCOME entry of a command (R97, R98). -/
def outcomeEntry (s : State) (v : View) (session opcode status flags token major minor outcome jsn : Nat)
    (payload : Bytes) (eff : Option Effect) : Entry :=
  { blankEntry 1 with
    dt := s.time.dt, view := viewNo v, session, frame := (eff.map (·.frame)).getD 0
    line := (eff.map (·.line)).getD 0, tg := (eff.map (·.tg)).getD 0xFF, form := argForm payload
    opcode, status, flags, token, argLen := payload.length, major, minor, outcome
    args := argArea payload, ref := jsn }

/-- A status that is not final: SCHEDULED, APPLIED_LATE or PENDING (R97). -/
def openStatus (st : Nat) : Bool := st == stPending || st == stScheduled || st == stAppliedLate

/-- Put a command into the result cache of 4,096 (R73). -/
def State.cachePush (s : State) (e : Cached) : State :=
  { s with ccp := { s.ccp with cache := (e :: s.ccp.cache).take 4096 } }

/-- Change the cached command of a JSN. -/
def State.cacheUpdate (s : State) (jsn : Nat) (f : Cached → Cached) : State :=
  { s with ccp := { s.ccp with cache := s.ccp.cache.map fun e => if e.jsn = jsn then f e else e } }

/-! ## The checks, acceptance and execution -/

/-- Enter ACCEPTED: the next JSN and the COMMAND entry (R62, R64). The entry takes the JSN after that
of the JOURNAL_START that a lost chain calls for. -/
def Cmd.accept (c : Cmd) (r : Request) (s : State) : State :=
  let k := mbKey r.view r.mailbox
  let s := s.log (commandEntry (c.ctx r s 0) c.opcode s)
  let jsn := s.journal.newest
  let s := s.setMailbox k { s.mailbox k with state := .accepted, jsn }
  s.cachePush { view := r.view, token := r.token.toNat, opcode := c.opcode
                digest := requestDigest r c.opcode, status := stPending, jsn, effect := none, payload := [] }

/-- Commands whose effect is standing (R106). -/
def standingOpcodes : List Nat :=
  [0x0201, 0x0202, 0x0204, 0x0301, 0x0302, 0x0304, 0x0401, 0x0402, 0x0403, 0x0404, 0x0405, 0x0406, 0x0407, 0x0501, 0x0502,
   0x0503, 0x0601, 0x0605, 0x0606, 0x0607, 0x060B, 0x060C, 0x0801, 0x0802, 0x0803, 0x0804, 0x0805, 0x0806, 0x0807, 0x0809,
   0x0904, 0x0B01, 0x0B02, 0x0B06, 0x0E01, 0x0E02]

/-- The effect of a command would need more than the 103 standing records (R478). The first standing command of a device
with an empty standing configuration fits, when what it says fits the payload of one record (R479; log entry 48). -/
def State.overStanding (s : State) (opcode : Nat) (args : Bytes) : Bool :=
  standingOpcodes.contains opcode && !(s.journal.standingQueued == 0 && decide (args.length ≤ 4064))
    && decide (103 < Config.standingNeeds opcode args s.journal.standingQueued)

/-- What a command answers once accepted: a failed read of request data (R72), thermal retreat
(R425), or its execution. -/
def Cmd.answer (c : Cmd) (x : Ctx) (s : State) : Answer :=
  if x.dma && x.req.dma.readFails && u16 x.req.payload 0 != 0 then
    { status := stInternalFault, state := s.raise .ccpDmaFault (srcMailbox x.key) }
  else if s.boot.retreat && retreatStops c.opcode then { status := stUnitFenced, state := s }
  else if s.overStanding c.opcode (x.args ++ x.data) then { status := stNoCapacity, state := s }
  else c.run x s

/-- The bytes of response data that reach host memory (R72). -/
def dmaWritten (x : Ctx) (a : Answer) : Bytes :=
  let w := a.out.take x.room
  match x.req.dma.writeStop with
  | none => w
  | some n => w.take n

/-- The inline response payload: for a DMA command it begins with the count of R72. -/
def inlinePayload (x : Ctx) (a : Answer) : Bytes :=
  if x.dma then le 8 (dmaWritten x a).length ++ a.payload else a.payload

/-- Reach DONE (R66, R68), or stay in ACCEPTED while the work goes on: the OUTCOME when the status is final (R97), the cached result, CMD_EFFECT
of an immediate effect that asked for it (R60), the response, the vector. -/
def Cmd.finish (c : Cmd) (x : Ctx) (a : Answer) : State :=
  let s := a.state
  let pay := inlinePayload x a
  let done := !openStatus a.status
  let flags := (if a.status = stOk then 1 else 0) + (if a.standing then 16 else 0)
  let s := if done then
      s.log (outcomeEntry s x.req.view x.session c.opcode a.status x.flags x.req.token.toNat
        x.req.major.toNat x.req.minor.toNat flags x.jsn pay a.effect)
    else s
  let s := s.cacheUpdate x.jsn fun e => { e with status := a.status, effect := a.effect, payload := pay }
  let s := if done && a.status == stOk && flagNotify x.flags then
      s.raiseCmd .cmdEffect x.req.view x.jsn a.status a.effect else s
  let m := s.mailbox x.key
  if a.status = stPending then s
  else s.respond x.key { m with
    state := .done, jsn := x.jsn, status := a.status, result := a.status, effect := a.effect
    payload := pay, dmaOut := dmaWritten x a }

/-- Answer DUPLICATE with the cached result (R73). -/
def State.duplicate (s : State) (k : Nat) (e : Cached) : State :=
  let m := s.mailbox k
  s.respond k { m with
    state := .done, jsn := e.jsn, status := stDuplicate, result := e.status, effect := e.effect
    payload := if e.status = stPending then [] else e.payload }

/-- Firmware serves a submitted request: the checks of R61 in their order, then acceptance, execution
and DONE (R62). -/
def Cmd.process (c : Cmd) (r : Request) (s : State) : State :=
  let k := mbKey r.view r.mailbox
  match c.firstFailure r s with
  | some st => s.refuse k r.view st
  | none =>
    match s.cachedToken r with
    | some e =>
      if e.opcode = c.opcode ∧ e.digest = requestDigest r c.opcode then s.duplicate k e
      else s.refuse k r.view stBadArgument
    | none =>
      if !c.args (c.ctx r s 0) s then
        s.refuse k r.view stBadArgument (c.badPayload (c.ctx r s 0) s)
      else match c.noMajor (c.ctx r s 0) s with
      | some p => s.refuse k r.view stBadVersion p
      | none =>
        let s' := c.accept r s
        let x := c.ctx r s s'.journal.newest
        c.finish x (c.answer x s')

/-- A doorbell that the mailbox takes (R65), at the next control-fabric cycle count. -/
def State.submit (s : State) (k opcode : Nat) (r : Request) : State :=
  let s := { s with ccp := { s.ccp with cycle := s.ccp.cycle + 1 } }
  s.setMailbox k ((s.mailbox k).submit opcode r s.ccp.cycle s.positions)

/-- A doorbell in SUBMITTED or ACCEPTED is ignored and counted (R65). -/
def State.busyRing (s : State) (k : Nat) : State :=
  let m := s.mailbox k
  (s.setMailbox k { m with busyRings := (m.busyRings + 1) % 65536 }).raise .ccpDoorbellBusy (srcMailbox k)

/-- Who serves a mailbox (R415, R416): nobody before the link is up; without firmware, the boot
mailbox PF0 MB0 and the PF1 mailboxes answer by themselves and the others drop every write; then
firmware. -/
inductive Service where
  | nobody
  | boot
  | firmware
  deriving DecidableEq, Repr

/-- Who serves a mailbox of a view now. -/
def State.service (s : State) (v : View) (m : Nat) : Service :=
  if !s.boot.pcieUp || !decide (m < mailboxCount v) then .nobody
  else if s.fwRunning then .firmware
  else if v = .pf1 ∨ m = 0 then .boot
  else .nobody

/-- A command of the protocol on a mailbox: the host rings the doorbell when the mailbox is free, or
the mailbox holds this very request since an earlier doorbell, and the command is served; any other
request to a busy mailbox is a doorbell ignored (R65; log entry 1). -/
def Cmd.serve (c : Cmd) (r : Request) (s : State) : State :=
  let k := mbKey r.view r.mailbox
  let m := s.mailbox k
  match s.service r.view r.mailbox with
  | .nobody => s
  | .boot => (s.submit k c.opcode r).refuse k r.view stUpdating
  | .firmware =>
    if m.state = .submitted ∧ m.request = some (c.opcode, r) then c.process r s
    else if m.state = .submitted ∨ m.state = .accepted then s.busyRing k
    else c.process r (s.submit k c.opcode r)

/-! ## Arguments -/

/-- An argument block of one length whose reserved fields are zero. -/
def exactly (n : Nat) (reserved : List (Nat × Nat)) (p : Bytes) : Bool :=
  decide (p.length = n) && zeroFields p reserved

/-- An answer that changes nothing. -/
def State.deny (s : State) (status : Nat) : Answer := { status, state := s }

/-- The final answer of a command done at once. -/
def State.done (s : State) (payload : Bytes := []) (standing : Bool := false)
    (effect : Option Effect := none) : Answer :=
  { status := stOk, payload, standing, effect, state := s }

/-- The at fields of a request name the timing group of its object, or are zero (R46). -/
def Ctx.atNames (c : Ctx) (g : Nat) : Bool :=
  c.req.group.toNat == g || (c.req.atFrame == 0 && c.req.atLine == 0 && c.req.group == 0)

/-! ## Scheduling -/

/-- The doorbell's position in a group (R46). -/
def State.stampOf (s : State) (k g : Nat) : Hrt := (s.mailbox k).stampPos.getD g (s.tg g).pos

/-- The scheduled commands that wait for their effect points (R50); the parts of one command count once. -/
def State.waiting (s : State) : Nat := ((s.ccp.schedule.map (·.jsn)).eraseDups).length

/-- The position of the arming of a command that takes effect at once on an object of a group (R63); none in a group that
is disabled. -/
def State.effectNow (s : State) (g : Nat) : Option Effect :=
  if (s.tg g).enabled then some ⟨g, (s.tg g).pos.frame, (s.tg g).pos.line⟩ else none

/-- A command with this opcode on this object still waits for its effect. -/
def State.waitsOn (s : State) (opcode : Nat) (object : Bytes → Bool) : Bool :=
  s.ccp.schedule.any fun e => e.opcode == opcode && object e.args

/-- Arm a command for its effect point (R46, R47, R50): LATE_DISCARDED when late with
DISCARD_IF_LATE, NO_CAPACITY beyond 8,192 or when `fits` fails at the effect point, else SCHEDULED or
APPLIED_LATE with the HRT of effect. -/
def State.schedule (s : State) (c : Ctx) (opcode : Nat) (kind : Point) (g : Nat) (args : Bytes)
    (charges : List Charge) (fits : Effect → Bool) : Answer :=
  let p := s.place kind g c.req.atFrame.toNat c.req.atLine.toNat c.req.group.toNat (s.stampOf c.key g)
  if p.late && flagDiscard c.flags then s.deny stLateDiscarded
  else if 8192 ≤ s.waiting || !fits p.effect then s.deny stNoCapacity
  else
    let st := if p.late then stAppliedLate else stScheduled
    let e : Sched :=
      { jsn := c.jsn, opcode, view := c.req.view, session := c.session, flags := c.flags
        token := c.req.token.toNat, major := c.req.major.toNat, minor := c.req.minor.toNat, args
        effect := p.effect, kind := kind.code, status := st, charges, last := true, begun := false
        atDt := none }
    { status := st, effect := some p.effect
      state := { s with ccp := { s.ccp with schedule := s.ccp.schedule ++ [e] } } }

/-- The job of a command that answers PENDING (R68). -/
def Ctx.job (c : Ctx) (opcode : Nat) (args : Bytes) : Job :=
  { jsn := c.jsn, opcode, view := c.req.view, session := c.session, flags := c.flags
    token := c.req.token.toNat, major := c.req.major.toNat, minor := c.req.minor.toNat, args, key := c.key }

/-- Go on in the background: the mailbox stays in ACCEPTED until the work ends, or until 10 ms have
passed and it reaches DONE with PENDING (R68). -/
def State.pend (s : State) (c : Ctx) (opcode : Nat) (args : Bytes) : Answer :=
  { status := stPending
    state := { s with ccp := { s.ccp with jobs := s.ccp.jobs ++ [c.job opcode args] } } }

/-- The mailbox still carries a job in ACCEPTED (R68). -/
def State.carries (s : State) (j : Job) : Bool :=
  let m := s.mailbox j.key
  m.state == .accepted && m.jsn == j.jsn

/-- Background work ends: its OUTCOME, in the effect log during a swap (R114), and the final result in the cache (R97);
then DONE when the mailbox is still in ACCEPTED, else CMD_COMPLETE (R68), which a swap delays (R89). -/
def State.complete (s : State) (j : Job) (status : Nat) (payload : Bytes) (standing : Bool)
    (effect : Option Effect := none) : State :=
  let s := { s with ccp := { s.ccp with jobs := s.ccp.jobs.filter fun x => x.jsn != j.jsn } }
  let flags := (if status = stOk then 1 else 0) + (if standing then 16 else 0)
  let o := outcomeEntry s j.view j.session j.opcode status j.flags j.token j.major j.minor
    flags j.jsn payload effect
  let s := if s.journal.swapping then
      { s with journal := { s.journal with effectLog := s.journal.effectLog ++ [o] } }
    else s.log o
  let s := s.cacheUpdate j.jsn fun e => { e with status, effect, payload }
  if s.carries j then
    let m := s.mailbox j.key
    s.respond j.key { m with state := .done, status, result := status, effect, payload }
  else if s.journal.swapping then
    { s with ccp := { s.ccp with owed := s.ccp.owed ++ [(j.jsn, status)] } }
  else s.raiseCmd .cmdComplete j.view j.jsn status effect

/-- Change every scheduled command of a JSN. -/
def State.mapSched (s : State) (jsn : Nat) (f : Sched → Sched) : State :=
  { s with ccp := { s.ccp with schedule := s.ccp.schedule.map fun e => if e.jsn = jsn then f e else e } }

/-- The other parts of a salvo whose first part has taken effect. -/
def begin_ (jsn : Nat) (l : List Sched) : List Sched :=
  l.map fun x => if x.jsn = jsn then { x with begun := true } else x

/-- A scheduled command has taken effect (R97, R114): its OUTCOME, in the effect log during a swap,
and CMD_EFFECT when it asked for it (R92). -/
def State.effected (s : State) (e : Sched) (outcome : Nat) (standing : Bool) (payload : Bytes := []) :
    State :=
  let s := { s with ccp := { s.ccp with
    schedule := begin_ e.jsn
      (s.ccp.schedule.filter fun x => !(x.jsn == e.jsn && x.effect == e.effect)) } }
  if !e.last then s
  else
    let o := outcomeEntry s e.view e.session e.opcode e.status e.flags e.token e.major e.minor
      (outcome + (if standing then 16 else 0)) e.jsn payload (some e.effect)
    let s := if s.journal.swapping then
        { s with journal := { s.journal with effectLog := s.journal.effectLog ++ [o] } }
      else s.log o
    let s := s.cacheUpdate e.jsn fun x => { x with effect := some e.effect }
    if flagNotify e.flags then s.raiseCmd .cmdEffect e.view e.jsn e.status (some e.effect) else s

end Sys2Proof.Machine
end

