-- ==== Sys2Proof/Machine/TimeOps.lean ====
section
/-! DEFINITION. House time: steps and slews of DT (R33), selection among the reference candidates
(R40), re-alignment of the groups (R52 to R54), holdover (R51), the start of a group (R35, R42), the
change of a format (R38, R39), a frame start and the tick. -/

namespace Sys2Proof.Machine

/-- A change of the house-time record. -/
def State.setTime (s : State) (t : Time) : State := { s with time := t }

/-- Change every group. -/
def State.mapGroups (s : State) (f : Nat → Tg → Tg) : State :=
  (List.range 8).foldl (fun s g => s.setTg g (f g (s.tg g))) s

/-- Luma samples of a whole frame of a group. -/
def Tg.frameSamples (t : Tg) : Nat := totalLines t.raster * samplesPerLine t.raster t.rate

/-- Set DT to a new time: a step, with DT_STEPPED, when the difference is greater than 1 ms, else a
slew (R33). The positions of the groups keep their frames; their DT moves (R55). -/
def State.stepOrSlew (s : State) (new : Int) : State :=
  let d := new - (s.time.dt : Int)
  if 1000000 < d.natAbs then
    let s := s.setTime { s.time with dt := new.toNat, dtSlew := 0, steps := (s.time.steps + 1) % 2 ^ 64 }
    let s := s.mapGroups fun _ t => if t.enabled then
      { t with frameStart := ((t.frameStart : Int) + d).toNat, lineDt := [] } else t
    s.raise .dtStepped srcDevice
  else s.setTime { s.time with dtSlew := d }

/-- The kind of the selected candidate: 0 none. -/
def Time.selectedKind (t : Time) : Nat :=
  match t.selected with
  | none => 0
  | some i => ((t.cands[i]?).map (·.kind)).getD 0

/-- DT_TRACEABLE: a PTP reference, or a 1PPS reference with commanded seconds, is locked (R33). -/
def Time.withTraceable (t : Time) : Time :=
  { t with traceable := t.selectedKind == 1 || (t.selectedKind == 4 && t.ppsCommanded) }

/-- The error of a group against ST 2059-1 alignment from DT, in luma samples: what its frame start
lacks to the called-for start (R35, R40, R52). -/
def Tg.alignError (t : Tg) : Int :=
  let f := frameFraction t.raster t.rate
  t.phaseOffset - ((t.frameStart * (f.1 * t.frameSamples) / (f.2 * 1000000000) : Nat) : Int)

/-- Wrap an error into the interval from -1/2 frame (exclusive) to +1/2 frame (inclusive) (R52). -/
def Tg.wrap (t : Tg) (e : Int) : Int :=
  let n : Int := t.frameSamples
  let m := e % n
  if n < 2 * m then m - n else m

/-- The error of a group under a candidate: from that raster when the group lies in the family of an
SDI or H/F/V reference (`ext`, measured outside), else from DT (R40). -/
def State.phaseErrorOf (s : State) (c : Cand) (rate : Nat) (ext : List Int) (g : Nat) : Int :=
  let t := s.tg g
  if (c.kind = 2 ∨ c.kind = 3) ∧ rateFamily t.rate = rateFamily rate then t.wrap (ext.getD g 0)
  else t.wrap t.alignError

/-- The detail of TG_REALIGN (R52). -/
def realignDetail (t : Tg) (e : Int) : Nat :=
  let spl := samplesPerLine t.raster t.rate
  e.natAbs / spl % 65536 + e.natAbs % spl % 32768 * 65536 + (if e < 0 then 2 ^ 31 else 0)

/-- Whole lines of an error, rounded away from zero. -/
def linesOf (t : Tg) (e : Int) : Int :=
  let spl := samplesPerLine t.raster t.rate
  if e < 0 then -(ceilDiv e.natAbs spl : Int) else (e.natAbs / spl : Nat)

/-- A JUMP of a group (R54): the frame in progress is lengthened or cut, or the next one when the new
start lies before the present line's end. -/
def State.jump (s : State) (g : Nat) (e : Int) : State :=
  let t := s.tg g
  let n := linesOf t e
  let s := if (t.pos.line : Int) < (totalLines t.raster : Int) + n then
      s.setTg g { t with jumpNow := true, jumpLines := n, phaseError := e, slewLines := 0,
                         state := .locked }
    else s.setTg g { t with jumpNext := n, phaseError := e, slewLines := 0, state := .locked }
  s.raiseAt .tgJump (srcTg g) g (ofSigned 32 e)

/-- Compare a group's phase and re-align it (R52 to R54); `slew` forces SLEW. -/
def State.realign (s : State) (g : Nat) (e : Int) (slew : Bool) : State :=
  let t := s.tg g
  if !t.enabled then s
  else if e.natAbs ≤ 1 then s.setTg g { t with state := .locked, phaseError := e, slewLines := 0 }
  else
    let s := s.raiseAt .tgRealign (srcTg g) g (realignDetail t e)
    if t.jump ∧ !slew then s.jump g e
    else
      let spl := samplesPerLine t.raster t.rate
      s.setTg g { t with state := .slewing, phaseError := e, slewLines := ceilDiv e.natAbs spl }

/-- Every enabled group meets a newly selected reference (R52). -/
def State.realignAll (s : State) (c : Cand) (rate : Nat) (ext : List Int) : State :=
  (List.range 8).foldl (fun s g => s.realign g (s.phaseErrorOf c rate ext g) false) s

/-- The highest-priority locked candidate, by index. -/
def bestLocked (cs : List Cand) : Option Nat :=
  let i := cs.findIdx fun c => c.state == .locked
  if i < cs.length then some i else none

/-- The candidate that R40 selects: the selected one while it stays locked and no higher one has been
locked for the revert hold; else the highest locked one. -/
def Time.choose (t : Time) : Option Nat :=
  match t.selected with
  | none => bestLocked t.cands
  | some i =>
    match t.cands[i]? with
    | some c =>
      if c.state = .locked then
        let h := (t.cands.take i).findIdx fun x =>
          x.state == .locked && decide (x.lockedAt + t.revertHold * 1000000000 ≤ t.dt)
        if h < i then some h else some i
      else bestLocked t.cands
    | none => bestLocked t.cands

/-- Every enabled group enters HOLDOVER; a group that is SLEWING does so at its next frame start (R51,
R53). -/
def State.holdover (s : State) : State :=
  s.mapGroups fun _ t => if t.enabled && t.state != .slewing then { t with state := .holdover } else t

/-- The frame rate of a candidate's raster, for its family (R40): an SDI candidate's is its input's
detected rate. -/
def Cand.frameRate (c : Cand) (sdiRate : Nat) : Nat := if c.kind = 2 then sdiRate else c.rate

/-- Take a selection (R40): when it changes to a locked candidate, DT meets its time and the groups
their phases; when none is locked, HOLDOVER or FREERUN. While cascade time is in use the list is not used (R401). -/
def State.takeSelection (s : State) (sel : Option Nat) (new : Option Nat) (sdiRate : Nat)
    (ext : List Int) : State :=
  if s.time.cascadeTime then s
  else if sel = s.time.selected then s.setTime s.time.withTraceable
  else match sel with
    | none =>
      let st := if s.time.everLocked then RefState.holdover else RefState.freerun
      let s := s.setTime { s.time with selected := none, refState := st, offset := 0,
                                       traceable := false }
      if s.time.everLocked then s.holdover else s
    | some i =>
      let s := s.setTime ({ s.time with
        selected := some i, refState := .locked, everLocked := true
        offset := 0, ppsCommanded := false }).withTraceable
      let s := match new with
        | none => s
        | some n => s.stepOrSlew n
      match s.time.cands[i]? with
      | none => s
      | some c => s.realignAll c (c.frameRate sdiRate) ext

/-- A candidate has met its lock criteria (R40): a PTP candidate needs 16 good Syncs. -/
def State.referenceLocked (s : State) (i : Nat) (new : Option Nat) (sdiRate : Nat) (ext : List Int) :
    State :=
  match s.time.cands[i]? with
  | none => s
  | some c =>
    if c.state = .acquiring ∧ (c.kind = 1 → 16 ≤ c.good) then
      let s := s.setTime { s.time with
        cands := s.time.cands.set i { c with state := .locked, lockedAt := s.time.dt, bad := 0 } }
      s.takeSelection s.time.choose new sdiRate ext
    else s

/-- A locked candidate has met its loss criteria (R40): it acquires again; when it was selected, the
next locked one is taken at once, or REF_LOST is raised (R51). -/
def State.referenceLost (s : State) (i : Nat) (new : Option Nat) (sdiRate : Nat) (ext : List Int) :
    State :=
  match s.time.cands[i]? with
  | none => s
  | some c =>
    if c.state = .locked then
      let was := s.time.selected
      let s := s.setTime { s.time with
        cands := s.time.cands.set i { c with state := .acquiring, good := 0, bad := 0 } }
      let sel := s.time.choose
      let s := if was = some i ∧ sel = none then s.raise .refLost srcDevice else s
      s.takeSelection sel new sdiRate ext
    else s

/-- The revert hold of a higher-priority candidate has run (R40). -/
def State.revertExpired (s : State) (i : Nat) (new : Option Nat) (sdiRate : Nat) (ext : List Int) :
    State :=
  match s.time.cands[i]?, s.time.selected with
  | some c, some j => if c.state = .locked ∧ i < j then s.takeSelection (some i) new sdiRate ext else s
  | _, _ => s

/-! ## Groups -/

/-- The frame count of a frame start at a DT: whole frame periods since the PTP epoch (R35). -/
def derivedFrame (raster rate dt : Nat) : Nat :=
  let f := frameFraction raster rate
  dt * f.1 / (f.2 * 1000000000) % 2 ^ 48

/-- The state a started group has under the present reference (R40, R51). -/
def RefState.groupState : RefState → TgState
  | .locked => .locked
  | .holdover => .holdover
  | _ => .freerun

/-- A group starts a format epoch at the present DT (R35). -/
def State.startGroup (s : State) (g : Nat) : State :=
  let t := s.tg g
  let f := derivedFrame t.raster t.rate s.time.dt
  s.setTg g { t with
    enabled := true, starting := false, state := s.time.refState.groupState, pos := ⟨f, 1, 0⟩, frac := 0
    lastJump := false, jumpNow := false, jumpLines := 0, jumpNext := 0, phaseError := 0
    slewLines := 0, frameStart := s.time.dt, lineDt := [(1, s.time.dt)], epochFrame := f }

/-- Place a command by DT in a group's new format (R39): the first effect point of its kind at or
after its DT, or in the first frame when the DT lies before that. -/
def replaceAt (t : Tg) (e : Sched) (dt : Int) : Sched :=
  let k := Point.ofCode e.kind
  let p := match k with
    | .anyLine => t.lineAtDt dt
    | _ =>
      let f := k.frameAtDt t dt
      k.governedBy t f
  let first := match k with
    | .anyLine => (t.epochFrame, t.duskLine + 1)
    | .switchLine => (t.epochFrame, switchLine t.raster)
    | .frameStart => (t.epochFrame, 1)
    | _ => k.governedBy t t.epochFrame
  let p := if dt < (t.frameStart : Int) then first else p
  { e with effect := ⟨e.effect.tg, p.1, p.2⟩, atDt := none }

/-- Note the DT of every command scheduled on a group, by its old format (R39). -/
def State.noteDts (s : State) (g : Nat) (old : Tg) (own : Nat) : State :=
  { s with ccp := { s.ccp with schedule := s.ccp.schedule.map fun e =>
      if e.effect.tg = g ∧ e.jsn ≠ own then
        { e with atDt := some (old.dtOf e.effect.frame e.effect.line) } else e } }

/-- Give every command that waits for a group's new format its new place (R39). -/
def State.replaceSchedule (s : State) (g : Nat) : State :=
  { s with ccp := { s.ccp with schedule := s.ccp.schedule.map fun e =>
      match e.atDt with
      | some d => if e.effect.tg = g then replaceAt (s.tg g) e d else e
      | none => e } }

/-- A new line rate lies within 5 % of the old one (R38). -/
def lineRateNear (old new : Tg) : Bool :=
  let a := frameFraction old.raster old.rate
  let b := frameFraction new.raster new.rate
  let x := a.1 * b.2 * totalLines old.raster
  let y := b.1 * a.2 * totalLines new.raster
  decide (100 * y ≤ 105 * x ∧ 95 * x ≤ 100 * y)

/-- The lines of the frame in progress, with what a JUMP adds or cuts (R54). -/
def Tg.frameLines (t : Tg) : Nat := ((totalLines t.raster : Int) + t.jumpLines).toNat

/-- A frame start of a group: the count increases by exactly 1 (R35); a SLEW has moved one line and
ends when its error is gone or its reference is lost (R53); the JUMP flags move on (R54). -/
def State.frameStart (s : State) (g : Nat) : State :=
  let t := s.tg g
  let slewLeft := t.slewLines - 1
  let st := if t.state = .slewing then
      (if s.time.refState != .locked then s.time.refState.groupState
       else if slewLeft = 0 then .locked else .slewing)
    else t.state
  s.setTg g { t with
    pos := ⟨(t.pos.frame + 1) % 2 ^ 48, 1, 0⟩, frac := 0, state := st
    slewLines := if st = .slewing then slewLeft else 0
    lastJump := t.jumpNow, jumpNow := t.jumpNext != 0, jumpLines := t.jumpNext, jumpNext := 0
    frameStart := s.time.dt, lineDt := [(1, s.time.dt)] }

/-- The group's raster passes to a line of its frame in progress (R36). -/
def State.toLine (s : State) (g line : Nat) : State :=
  let t := s.tg g
  if t.pos.line < line then
    s.setTg g { t with pos := ⟨t.pos.frame, line, 0⟩, frac := 0
                       lineDt := (line, s.time.dt) :: t.lineDt }
  else s

/-! ## The tick -/

/-- One nanosecond of an enabled group's raster (log entry 4): samples follow the nominal frequency,
and the group waits at the end of its frame for its frame start. -/
def Tg.tick (t : Tg) (dt : Nat) : Tg :=
  if !t.enabled || t.starting then t
  else
    let f := frameFraction t.raster t.rate
    let den := f.2 * 1000000000
    let acc := t.frac + f.1 * t.frameSamples
    let spl := samplesPerLine t.raster t.rate
    let smp := t.pos.sample + acc / den
    if smp < spl then { t with frac := acc % den, pos := { t.pos with sample := smp } }
    else if t.pos.line < t.frameLines then
      { t with frac := acc % den, pos := ⟨t.pos.frame, t.pos.line + 1, smp - spl⟩
               lineDt := (t.pos.line + 1, dt) :: t.lineDt }
    else { t with pos := { t.pos with sample := spl - 1 } }

/-- DT slews at no more than 50 µs per second: one nanosecond of it in 20,000 (R33). -/
def Time.tickDt (t : Time) : Time :=
  let dt := t.dt + 1
  if t.dtSlew ≠ 0 ∧ dt % 20000 = 0 then
    if 0 < t.dtSlew then { t with dt := dt + 1, dtSlew := t.dtSlew - 1 }
    else { t with dt := dt - 1, dtSlew := t.dtSlew + 1 }
  else { t with dt }

/-- What the block does while no command waits: one nanosecond passes (log entry 4). -/
def State.tick (s : State) : State :=
  let s := s.setTime s.time.tickDt
  let s := s.mapGroups fun _ t => t.tick s.time.dt
  { s with boot := { s.boot with uptime := s.boot.uptime + (if s.boot.porstN then 1 else 0) } }

end Sys2Proof.Machine
end

