-- ==== Sys2Proof/Machine/Clocks.lean ====
section
/-! DEFINITION. PLLs: holdover and relock (R512, R513), Eclipse and Glide (R514, R515), Glints (R516),
output settings (R509 to R511) and CLOCK_STATUS (R517). PLL_FAILED stands in Machine/Fencing.lean with
the fence it calls for. -/

namespace Sys2Proof.Machine

/-- A PLL of the state. -/
def State.pll (s : State) (p : Nat) : Pll := tabGet s.clocks.plls p (Pll.reset p)

/-- Store a PLL. -/
def State.setPll (s : State) (p : Nat) (x : Pll) : State :=
  { s with clocks := { s.clocks with plls := tabPut s.clocks.plls p x } }

/-- A clock input of the state. -/
def State.clockIn (s : State) (i : Nat) : ClockIn := tabGet s.clocks.inputs i {}

/-- Store a clock input. -/
def State.setClockIn (s : State) (i : Nat) (x : ClockIn) : State :=
  { s with clocks := { s.clocks with inputs := tabPut s.clocks.inputs i x } }

/-- The PLL of a timing group's raster synthesiser. -/
def rsyn (g : Nat) : Nat := 38 + g

/-- How a PLL retunes (R514, R515): a locked loop by Glide when it is asked for, a gliding one by Glide when the new target
lies within 5 % of the frequency reached (`move` counts from the old target), else by Eclipse; a Glide asked for in
holdover raises PLL_GLIDE_REFUSED. -/
def State.retune (s : State) (p : Nat) (glide : Bool) (move : Int) : State :=
  let x := s.pll p
  if (glide && x.state == 2) || (x.state == 5 && decide ((x.left + move).natAbs ≤ 50000000)) then
    s.setPll p { x with state := 5, left := x.left + move, glides := x.glides + 1 }
  else
    let s := if glide && x.state == 3 then s.raise .pllGlideRefused (srcPll p) else s
    s.setPll p { x with state := 4, left := 0, eclipses := x.eclipses + 1 }

/-- A retune has closed the gates of its PLL: it runs as an Eclipse. -/
def State.gated (s : State) (p : Nat) : Bool := (s.pll p).state == 4 || (s.pll p).state == 6

/-- A loop loses lock (R512): holdover at the frozen word; a Glide stops at the word reached (R515). -/
def pllLockLost (p : Nat) (s : State) : State :=
  let x := s.pll p
  if p < 50 ∧ (x.state = 2 ∨ x.state = 5) then
    (s.setPll p { x with state := 3, losses := x.losses + 1 }).raise .pllLockLost (srcPll p)
  else s

/-- PLL_LOCK_LOST. -/
def execPllLockLost (p : Nat) (s : State) : Host.Outcome State Fault Refusal := .next (pllLockLost p s)

/-- A PLL in holdover relocks (R513); a Glide that the loss stopped goes on (R515); a group whose RSYN
relocked re-aligns by SLEW with the error measured (R52). -/
def pllRelocked (p : Nat) (word error : Int) (s : State) : State :=
  let x := s.pll p
  if p < 50 ∧ x.state = 3 then
    let s := s.setPll p { x with state := if x.left = 0 then 2 else 5, word }
    let s := s.raise .pllRelocked (srcPll p)
    if 38 ≤ p ∧ p ≤ 45 then s.realign (p - 38) ((s.tg (p - 38)).wrap error) true else s
  else s

/-- PLL_RELOCKED. -/
def execPllRelocked (p : Nat) (word error : Int) (s : State) : Host.Outcome State Fault Refusal :=
  .next (pllRelocked p word error s)

/-- An Eclipse ends: lock at the new word plus 50 µs, and the gates open (R514). -/
def eclipseEnd (p : Nat) (s : State) : State :=
  let x := s.pll p
  if x.state = 4 then s.setPll p { x with state := 2, word := 0, left := 0 } else s

/-- ECLIPSE_END. -/
def execEclipseEnd (p : Nat) (s : State) : Host.Outcome State Fault Refusal := .next (eclipseEnd p s)

/-- A step of a Glide: at most 1,000 ppm (R514). -/
def glideMove (left : Int) : Int :=
  if left < -1000000 then -1000000 else if 1000000 < left then 1000000 else left

/-- A Glide takes its next step, and ends when nothing is left (R514). -/
def glideStep (p : Nat) (s : State) : State :=
  let x := s.pll p
  if x.state = 5 then
    let d := glideMove x.left
    s.setPll p { x with left := x.left - d, state := if x.left - d = 0 then 2 else 5 }
  else s

/-- GLIDE_STEP. -/
def execGlideStep (p : Nat) (s : State) : Host.Outcome State Fault Refusal := .next (glideStep p s)

/-- A FAILED loop tries again every 1 s (R515); `locks` says whether it locks. -/
def pllFailedRetry (p : Nat) (locks : Bool) (s : State) : State :=
  let x := s.pll p
  if x.state = 6 ∧ locks then s.setPll p { x with state := 2, word := 0, left := 0 } else s

/-- PLL_FAILED_RETRY. -/
def execPllFailedRetry (p : Nat) (locks : Bool) (s : State) : Host.Outcome State Fault Refusal :=
  .next (pllFailedRetry p locks s)

/-- Every PLL that runs enters holdover (R512, R516). -/
def State.allHoldover (s : State) : State :=
  let f (_ : Nat) (x : Pll) : Pll :=
    if x.state = 2 ∨ x.state = 5 then { x with state := 3, losses := x.losses + 1 } else x
  { s with clocks := { s.clocks with plls := tabMap f s.clocks.plls } }

/-- SYS_XO is lost (R516): every PLL enters holdover on its own oscillator, DT_TRACEABLE reads 0. -/
def sysXoLost (s : State) : State :=
  let s := s.setClockIn 0 { s.clockIn 0 with lost := true }
  let s := (s.allHoldover).setTime { s.time with traceable := false }
  s.raise .sysXoLost srcDevice

/-- SYS_XO_LOST. -/
def execSysXoLost (s : State) : Host.Outcome State Fault Refusal := .next (sysXoLost s)

/-- AO_XO is lost (R516): the always-on domain runs from its internal oscillator. -/
def aoXoLost (s : State) : State :=
  (s.setClockIn 1 { s.clockIn 1 with lost := true }).raise .aoXoLost srcDevice

/-- AO_XO_LOST. -/
def execAoXoLost (s : State) : Host.Outcome State Fault Refusal := .next (aoXoLost s)

/-- A Glint on an input (R516): counted by kind and raised; the phase detector ignores its cycle; the
fourth within 1 ms counts as the loss of that reference. Input 0 feeds every PLL; input 2 is the REF
candidate, whose loss R40 judges by its own row. -/
def glint (input : Nat) (isMissing : Bool) (s : State) : State :=
  if 19 ≤ input then s
  else
  let x := s.clockIn input
  let recent := s.time.dt :: x.recent.filter fun d => decide (s.time.dt < d + 1000000)
  let s := s.setClockIn input { x with
    short := x.short + b2n (!isMissing), missing := x.missing + b2n isMissing, recent }
  let s := s.raise .glint srcDevice (input + b2n isMissing * 256)
  if 4 ≤ recent.length ∧ input = 0 then s.allHoldover else s

/-- GLINT. -/
def execGlint (input : Nat) (isMissing : Bool) (s : State) : Host.Outcome State Fault Refusal :=
  .next (glint input isMissing s)

/-! ## SYNTH_CONFIGURE -/

/-- The word clock of a group's format in Hz, as a fraction: its sample rate within the range of R28
(log entry 18). -/
def tgcHz (raster rate : Nat) : Nat × Nat :=
  let f := frameFraction raster rate
  let n := f.1 * totalLines raster * samplesPerLine raster rate
  if 594000000 * f.2 < n then (if rateFamily rate = 0 then (594000000 * 1000, 1001) else (594000000, 1))
  else if n * 1001 < 74250000 * 1000 * f.2 then
    (if rateFamily rate = 0 then (74250000 * 1000, 1001) else (74250000, 1))
  else (n, f.2)

/-- A divider k of RCLK: 1 to 64, at most 200 MHz (R509). -/
def rclkDivValid (t : Tg) (k : Nat) : Bool :=
  let f := tgcHz t.raster t.rate
  decide (1 ≤ k ∧ k ≤ 64 ∧ f.1 ≤ 200000000 * f.2 * k)

/-- The largest phase delay of RCLK at a divider (R510). -/
def rclkDelayMax (t : Tg) (k : Nat) : Nat := 64 * (Config.rsynRatio t.raster t.rate * k) - 1

/-- The largest phase delay of an AMCLK output whose period is `ratio` VCO periods (R510). -/
def amclkDelayMax (ratio : Nat) : Nat := 64 * ratio - 1

/-- VCO periods of one period of the AMCLK output of synthesiser k: 1,179.648 MHz over its frequency
(R505, R510); set by AUDIO_MCLK_SET. -/
def State.amclkRatio (s : State) (k output : Nat) : Nat := tabGet s.clocks.amclk (2 * k + (output - 2)) 48

/-- The arguments of SYNTH_CONFIGURE are valid (R509, R510, R511). -/
def synthValid (p : Bytes) (s : State) : Bool :=
  let i := u8 p 0
  let o := u8 p 1
  let m := u8 p 2
  let x := s.pll (38 + i)
  let t := s.tg i
  decide (i ≤ 11 ∧ m < 16) &&
  (!bit m 0 || u32 p 4 != 0) &&
  (if i ≤ 7 then
    let k := if bit m 1 then u8 p 8 else x.rclkDiv
    o == 1 && (!bit m 1 || rclkDivValid t k) && (!bit m 3 || decide (u8 p 3 ≤ 1))
      && (!bit m 2 || decide (u32 p 12 ≤ rclkDelayMax t k))
   else (o == 2 || o == 3) && !bit m 1 && !bit m 3
      && (!bit m 2 || decide (u32 p 12 ≤ amclkDelayMax (s.amclkRatio (i - 8) o))))

/-- The settings of SYNTH_CONFIGURE take effect (R508 to R511). -/
def applySynth (p : Bytes) (s : State) : State :=
  let i := u8 p 0
  let m := u8 p 2
  let x := s.pll (38 + i)
  let x := if bit m 0 then { x with seed := u32 p 4 } else x
  let x := if bit m 1 then { x with rclkDiv := u8 p 8 } else x
  let x := if bit m 2 then (if u8 p 1 = 3 then { x with delay3 := u32 p 12 }
                            else { x with delay2 := u32 p 12 }) else x
  let x := if bit m 3 then { x with rclkOn := u8 p 3 == 1 } else x
  s.setPll (38 + i) x

/-- SYNTH_CONFIGURE (R511): at acceptance, standing. -/
def synthConfigure : Cmd where
  opcode := 0x0204
  shape := exactly 16 [(9, 1), (10, 2)]
  args c s := synthValid c.args s
  run c s := (applySynth c.args s).done [] true

/-- SYNTH_CONFIGURE. -/
def execSynthConfigure (r : Request) (s : State) : Host.Outcome State Fault Refusal :=
  .next (synthConfigure.serve r s)

/-- The values CLOCK_STATUS gives of one PLL (R517). -/
def pllValues (x : Pll) : List Int :=
  [x.state, x.word, x.seed, b2n x.rclkOn, x.rclkDiv, x.delay2, x.delay3, x.losses, x.eclipses, x.glides,
   x.faileds]

/-- CLOCK_STATUS (R517): the values of the 50 PLLs and the Glints of the 19 inputs, in a layout the
spec does not give (log entry 17). -/
def clockStatus : Cmd where
  opcode := 0x0281
  run _ s := s.done (Config.layout 0x0281
    (((List.range 50).flatMap fun p => pllValues (s.pll p))
      ++ ((List.range 19).flatMap fun i => [((s.clockIn i).short : Int), ((s.clockIn i).missing : Int)])))

/-- CLOCK_STATUS. -/
def execClockStatus (r : Request) (s : State) : Host.Outcome State Fault Refusal :=
  .next (clockStatus.serve r s)

end Sys2Proof.Machine
end

