-- ==== Sys2Proof/Machine/Protocol.lean ====
section
/-! DEFINITION. Family 0x01 of the command protocol (R74 to R84) and the mailbox's own happenings:
the doorbell (R65), writes to a locked request buffer (R65), the 100 ms timeout (R69), DONE with
PENDING (R68). CAPACITY_REPORT stands in Machine/Capacity.lean. -/

namespace Sys2Proof.Machine

/-! ## Capability bitmap -/

/-- Bits 0 to 63 of the capability bitmap (R80): all of 0 to 38 on E and A; X lacks 14 and 18 to
23. -/
def featureBits (f : Feature) : Nat :=
  match f with
  | .x => 0x0000007FFF03BFFF
  | _ => 0x0000007FFFFFFFFF

/-- The presence bits of a class, bit k for unit k (R81). -/
def presenceBits (p : Part) (cls : Nat) : Nat :=
  ((List.range (unitCount cls)).map fun k => if p.present cls k then 2 ^ k else 0).sum

/-- The 256-bit capability bitmap (R80, R81). -/
def capabilityBits (p : Part) : Nat :=
  featureBits p.feature + presenceBits p 2 * 2 ^ 64 + presenceBits p 3 * 2 ^ 100
    + presenceBits p 5 * 2 ^ 104 + presenceBits p 6 * 2 ^ 112 + presenceBits p 7 * 2 ^ 144
    + presenceBits p 4 * 2 ^ 160 + presenceBits p 16 * 2 ^ 164 + presenceBits p 18 * 2 ^ 166
    + presenceBits p 8 * 2 ^ 174

/-- The capability bitmap as it reads now: bit 28 while the Lantern is OPERATIONAL (R430). -/
def State.capability (s : State) : Nat :=
  if s.lantern.state = 1 then capabilityBits s.part else capabilityBits s.part - 2 ^ 28

/-! ## Sessions -/

/-- The pairs (major, highest minor) a client offers (R76). -/
def offeredMajors (p : Bytes) : List (Nat × Nat) :=
  (List.range (u8 p 0)).map fun i => (u8 p (18 + 2 * i), u8 p (19 + 2 * i))

/-- The device's minor of a major. -/
def deviceMinor (ms : List (Nat × Nat)) (major : Nat) : Nat :=
  ((ms.find? fun m => m.1 == major).map (·.2)).getD 0

/-- The highest major offered by both sides, with the lower of the two minors (R77). -/
def negotiate (ms offered : List (Nat × Nat)) : Option (Nat × Nat) :=
  let common := offered.filter fun o => ms.any fun m => m.1 == o.1
  match common with
  | [] => none
  | c :: cs =>
    let best := cs.foldl (fun b o => if b.1 < o.1 then o else b) c
    some (best.1, min best.2 (deviceMinor ms best.1))

/-- The pairs of majors the device supports, as bytes. -/
def majorPairs (ms : List (Nat × Nat)) : Bytes := ms.flatMap fun m => le 1 m.1 ++ le 1 m.2

/-- The device state code of a session response: 0 BOOTING, 1 RUNNING, 2 DIMMED (R76). -/
def State.sessionState (s : State) : Nat := min 2 s.deviceState

/-- Sessions open in a view. -/
def State.openSessions (s : State) (v : View) : Nat :=
  (s.ccp.sessions.filter fun x => x.view == v).length

/-- How many sessions a view may have open (R75). -/
def sessionLimit : View → Nat
  | .pf0 => 16
  | .pf1 => 4

/-- The next session ID that is non-zero (R75). -/
def State.freshSession (s : State) : Nat :=
  if s.ccp.nextSession % 2 ^ 32 = 0 then 1 else s.ccp.nextSession % 2 ^ 32

/-- SESSION_OPEN (R75 to R77). A bound mailbox is BAD_ARGUMENT; beyond the limit of open sessions the
answer is NO_CAPACITY (DEDUCED, log entry 16). -/
def sessionOpen : Cmd where
  opcode := 0x0101
  shape p := decide (18 ≤ p.length ∧ p.length = 18 + 2 * u8 p 0) && zeroFields p [(1, 1)]
  args c s := decide (1 ≤ u8 c.args 0 ∧ u8 c.args 0 ≤ 16 ∧ (s.mailbox c.key).session = 0)
  noMajor c s :=
    if (negotiate s.boot.majors (offeredMajors c.args)).isNone then
      some (le 1 s.boot.majors.length ++ majorPairs s.boot.majors)
    else none
  run c s :=
    match negotiate s.boot.majors (offeredMajors c.args) with
    | none => s.deny stBadVersion
    | some (major, minor) =>
      if sessionLimit c.req.view ≤ s.openSessions c.req.view then s.deny stNoCapacity
      else
        let id := s.freshSession
        let x : Session := { id, view := c.req.view, major, minor, label := slice c.args 2 16
                             crypto := false, user := false }
        let s' := { s with ccp := { s.ccp with
          sessions := s.ccp.sessions ++ [x], nextSession := id + 1 } }
        let s' := s'.setMailbox c.key { s'.mailbox c.key with session := id }
        s'.done (le 1 major ++ le 1 (deviceMinor s.boot.majors major) ++ le 1 minor
          ++ le 1 s.sessionState ++ le 4 id ++ le 1 s.boot.majors.length
          ++ le 1 (viewNo c.req.view) ++ zeros 6 ++ le 32 s.capability
          ++ majorPairs s.boot.majors)

/-- SESSION_ATTACH (R76): binds the mailbox to an open session of its view. -/
def sessionAttach : Cmd where
  opcode := 0x0102
  shape := exactly 8 [(4, 4)]
  args c s := decide ((s.mailbox c.key).session = 0)
    && s.ccp.sessions.any fun x => x.id == u32 c.args 0 && x.view == c.req.view
  run c s :=
    let id := u32 c.args 0
    match s.ccp.sessions.find? fun x => x.id == id && x.view == c.req.view with
    | none => s.deny stBadArgument
    | some x =>
      (s.setMailbox c.key { s.mailbox c.key with session := id }).done
        (le 1 x.major ++ le 1 (deviceMinor s.boot.majors x.major) ++ le 1 x.minor
          ++ le 1 s.sessionState ++ le 4 id ++ le 1 (viewNo x.view) ++ zeros 7)

/-- A mailbox whose session has closed: unbound, and IDLE unless it still carries the answer of the
close itself (R64, R75; log entry 16). -/
def Mailbox.unbind (m : Mailbox) (keep : Bool) : Mailbox :=
  if keep then { m with session := 0 }
  else { m with session := 0, state := .idle, status := 0, result := 0, payload := [], effect := none
                jsn := 0, dmaOut := [] }

/-- Close a session: its roles end, its mailboxes are unbound (R75, R88). `own` keeps its answer. -/
def State.closeSession (s : State) (id : Nat) (own : Option Nat) : State :=
  { s with ccp := { s.ccp with
    sessions := s.ccp.sessions.filter fun x => x.id != id
    mailboxes := tabMap (fun k m => if m.session = id ∧ id ≠ 0 then m.unbind (own == some k) else m)
      s.ccp.mailboxes } }

/-- SESSION_CLOSE (R75): cancels nothing. -/
def sessionClose : Cmd where
  opcode := 0x0103
  run c s := (s.closeSession c.session (some c.key)).done

/-- SESSION_INFO (R82, R83): a query of the session. Its response layout is not given: its bytes are an
opaque function of the session (log entry 17). -/
def sessionInfo : Cmd where
  opcode := 0x0180
  run c s :=
    match s.sessionOf c.key with
    | none => s.done
    | some x => s.done (Config.layout 0x0180 [x.id, x.major, x.minor, viewNo x.view, b2n x.crypto, b2n x.user])

/-- COMMAND_RESULT (R74): the 16-byte result header. -/
def resultHeader (e : Cached) : Bytes :=
  le 2 e.status ++ le 2 e.opcode ++ le 2 (if e.status = stPending then 0 else e.payload.length)
    ++ le 1 ((e.effect.map (·.tg)).getD 0xFF) ++ zeros 1 ++ le 6 ((e.effect.map (·.frame)).getD 0)
    ++ le 2 ((e.effect.map (·.line)).getD 0)

/-- COMMAND_RESULT (R74): the cached result of a JSN, or JOURNAL_GAP. -/
def commandResult : Cmd where
  opcode := 0x0182
  dma := .optional
  shape := exactly 8 []
  args c s :=
    let jsn := u64 c.args 0
    jsn != 0 && decide (jsn ≤ s.journal.newest)
      && (!c.dma || decide (u16 c.req.payload 0 = 0))
      && match s.ccp.cache.find? fun e => e.jsn == jsn with
        | none => true
        | some e => e.view == c.req.view && (c.dma || decide (e.payload.length ≤ 4048))
  run c s :=
    match s.ccp.cache.find? fun e => e.jsn == u64 c.args 0 with
    | none => s.deny stJournalGap
    | some e =>
      let pay := if e.status = stPending then [] else e.payload
      if c.dma then { s.done (resultHeader e) with out := pay }
      else s.done (resultHeader e ++ pay)

/-- The line at or before which a scheduled command must be armed, or cancelled (R47, R48, R84): the
Dusk line that governs its effect point, or the line before a line-exact effect. -/
def State.governingLine (s : State) (e : Sched) : Nat × Nat :=
  let t := s.tg e.effect.tg
  match Point.ofCode e.kind with
  | .switchLine => (e.effect.frame - 1, t.duskLine)
  | .frameStart => (e.effect.frame - 1, t.duskLine)
  | .anyLine =>
    if e.effect.line ≤ 1 then (e.effect.frame - 1, totalLines t.raster)
    else (e.effect.frame, e.effect.line - 1)
  | _ => (e.effect.frame, t.duskLine)

/-- A cancel armed now meets a scheduled command in time (R84). -/
def State.inTime (s : State) (e : Sched) : Bool :=
  let p := (s.tg e.effect.tg).pos
  let g := s.governingLine e
  !e.begun && posLe p.frame p.line g.1 g.2

/-- COMMAND_CANCEL (R84): the target takes no effect and its OUTCOME says CANCELLED. -/
def commandCancel : Cmd where
  opcode := 0x0104
  shape := exactly 8 []
  args c s := s.ccp.schedule.any fun e => e.jsn == u64 c.args 0 && e.view == c.req.view
  run c s :=
    let jsn := u64 c.args 0
    let parts := s.ccp.schedule.filter fun e => e.jsn == jsn
    if parts.all s.inTime then
      let s' := { s with
        ccp := { s.ccp with schedule := s.ccp.schedule.filter fun e => e.jsn != jsn }
        journal := if s.journal.swapJsn = some jsn then { s.journal with swapJsn := none }
          else s.journal }
      let s' := match parts.find? fun e => e.last with
        | none => s'
        | some e => s'.log (outcomeEntry s' e.view e.session e.opcode e.status e.flags e.token e.major
            e.minor 2 e.jsn [] (some e.effect))
      s'.done
    else s.deny stLateDiscarded

/-! ## Meanings of the rows -/

/-- SESSION_OPEN. -/
def execSessionOpen (r : Request) (s : State) : Host.Outcome State Fault Refusal :=
  .next (sessionOpen.serve r s)

/-- SESSION_ATTACH. -/
def execSessionAttach (r : Request) (s : State) : Host.Outcome State Fault Refusal :=
  .next (sessionAttach.serve r s)

/-- SESSION_CLOSE. -/
def execSessionClose (r : Request) (s : State) : Host.Outcome State Fault Refusal :=
  .next (sessionClose.serve r s)

/-- COMMAND_CANCEL. -/
def execCommandCancel (r : Request) (s : State) : Host.Outcome State Fault Refusal :=
  .next (commandCancel.serve r s)

/-- SESSION_INFO. -/
def execSessionInfo (r : Request) (s : State) : Host.Outcome State Fault Refusal :=
  .next (sessionInfo.serve r s)

/-- COMMAND_RESULT. -/
def execCommandResult (r : Request) (s : State) : Host.Outcome State Fault Refusal :=
  .next (commandResult.serve r s)

/-- The opcodes of R83 and of the chapters that define them. -/
def opcodes : List Nat :=
  [0x0101, 0x0102, 0x0103, 0x0104, 0x0180, 0x0181, 0x0182, 0x0201, 0x0202, 0x0203, 0x0204, 0x0280,
   0x0281, 0x0301, 0x0302, 0x0303, 0x0304, 0x0305, 0x0380, 0x0381, 0x0382, 0x0401, 0x0402, 0x0403,
   0x0404, 0x0405, 0x0406, 0x0407, 0x0480, 0x0481, 0x0482, 0x0501, 0x0502, 0x0503, 0x0580, 0x0601,
   0x0602, 0x0603, 0x0604, 0x0605, 0x0606, 0x0607, 0x0608, 0x0609, 0x060B, 0x060C, 0x0680, 0x0681,
   0x0682, 0x0683, 0x0701, 0x0702, 0x0703, 0x0704, 0x0705, 0x0706, 0x0707, 0x0708, 0x0709, 0x0780,
   0x0781, 0x0801, 0x0802, 0x0803, 0x0804, 0x0805, 0x0806, 0x0807, 0x0809, 0x0880, 0x0881, 0x0901,
   0x0902, 0x0903, 0x0904, 0x0905, 0x0980, 0x0981, 0x0982, 0x0983, 0x0A01, 0x0A02, 0x0A03, 0x0A04,
   0x0A05, 0x0A06, 0x0A07, 0x0A08, 0x0A09, 0x0A0A, 0x0A0B, 0x0A0C, 0x0A0D, 0x0A0E, 0x0A80, 0x0A81,
   0x0B01, 0x0B02, 0x0B03, 0x0B04, 0x0B05, 0x0B06, 0x0B80, 0x0B81, 0x0C80, 0x0C81, 0x0C82, 0x0D01,
   0x0D02, 0x0D03, 0x0D80, 0x0E01, 0x0E02, 0x0E80]

/-- A doorbell with a request in the buffer (R65): submitted in IDLE, DONE or ERROR, ignored and
counted otherwise. During a swap the mailbox hardware answers UPDATING (R89); without firmware the
boot mailbox answers (R416); an opcode that is not defined is answered UNKNOWN_COMMAND once the checks
before it pass (R61). A request with a defined opcode waits in SUBMITTED for its own row. -/
def ringDoorbell (opcode : Nat) (r : Request) (s : State) : State :=
  let k := mbKey r.view r.mailbox
  let m := s.mailbox k
  match s.service r.view r.mailbox with
  | .nobody => s
  | .boot =>
    if m.state = .submitted ∨ m.state = .accepted then s.busyRing k
    else if opcode = 0x0D03 ∧ r.view = .pf0 ∧ s.boot.stage = 0x10 then s.submit k opcode r
    else (s.submit k opcode r).refuse k r.view stUpdating
  | .firmware =>
    if m.state = .submitted ∨ m.state = .accepted then s.busyRing k
    else
      let s := s.submit k opcode r
      if s.journal.swapping then s.refuse k r.view stUpdating
      else if opcodes.contains opcode then s
      else match s.sessionOf k with
        | none => s.refuse k r.view stAuthRequired
        | some x =>
          if r.major.toNat = x.major ∧ r.minor.toNat ≤ x.minor then s.refuse k r.view stUnknown
          else s.refuse k r.view stBadVersion

/-- CCP_MB_DOORBELL. -/
def execCcpMbDoorbell (opcode : BitVec 16) (r : Request) (s : State) :
    Host.Outcome State Fault Refusal :=
  .next (ringDoorbell opcode.toNat r s)

/-- A host write to a request buffer in SUBMITTED or ACCEPTED is dropped and counted in BUSY_RINGS
(R65). -/
def lockedBufferWrite (v : View) (m : Nat) (s : State) : State :=
  let k := mbKey v m
  let b := s.mailbox k
  if b.state = .submitted ∨ b.state = .accepted then
    s.setMailbox k { b with busyRings := (b.busyRings + 1) % 65536 }
  else s

/-- LOCKED_REQUEST_BUFFER_WRITE. -/
def execLockedRequestBufferWrite (v : View) (m : Nat) (s : State) :
    Host.Outcome State Fault Refusal :=
  .next (lockedBufferWrite v m s)

/-- After 100 ms in SUBMITTED or ACCEPTED the mailbox ends the command itself (R69): INTERNAL_FAULT,
DONE when a JSN was assigned and ERROR otherwise, and the OUTCOME of a command in ACCEPTED, which has
taken no effect (R97). -/
def mailboxTimeout (v : View) (m : Nat) (s : State) : State :=
  let k := mbKey v m
  let b := s.mailbox k
  match b.state with
  | .submitted =>
    (s.respond k (b.refuse stInternalFault)).raise .ccpMailboxTimeout (srcMailbox k)
  | .accepted =>
    let job := s.ccp.jobs.find? fun j => j.jsn == b.jsn
    let s := { s with ccp := { s.ccp with jobs := s.ccp.jobs.filter fun j => j.jsn != b.jsn } }
    let s := match job with
      | none => s
      | some j => s.log (outcomeEntry s j.view j.session j.opcode stInternalFault j.flags j.token
          j.major j.minor 8 j.jsn [] none)
    let s := s.cacheUpdate b.jsn fun e => { e with status := stInternalFault }
    (s.respond k { b with state := .done, status := stInternalFault, result := stInternalFault
                          effect := none, payload := [] }).raise .ccpMailboxTimeout (srcMailbox k)
  | _ => s

/-- MAILBOX_TIMEOUT. -/
def execMailboxTimeout (v : View) (m : Nat) (s : State) : Host.Outcome State Fault Refusal :=
  .next (mailboxTimeout v m s)

/-- A command still at work 10 ms after acceptance reaches DONE with PENDING (R68). -/
def doneWithPending (v : View) (m : Nat) (s : State) : State :=
  let k := mbKey v m
  let b := s.mailbox k
  if b.state = .accepted then
    s.respond k { b with state := .done, status := stPending, result := stPending }
  else s

/-- DONE_WITH_PENDING. -/
def execDoneWithPending (v : View) (m : Nat) (s : State) : Host.Outcome State Fault Refusal :=
  .next (doneWithPending v m s)

end Sys2Proof.Machine
end

