-- ==== Sys2Proof/Machine/SignalOps.lean ====
section
/-! DEFINITION. The input state of a source (R150, R575), the frames an input writes into its
synchronisers (R149), the checks of a deframed frame (R119 to R128), and the flows' fields (R135). -/

namespace Sys2Proof.Machine

/-! ## Inputs -/

/-- The class of an identifier (R154). -/
def cls (id : Nat) : Nat := id / 4096

/-- The index of an identifier within its class (R154). -/
def idx (id : Nat) : Nat := id % 4096

/-- A source's input record at reset: a lane whose unit is not UP is in LOSS, a flow from enabling on
(R150, R387). -/
def Input.reset (src : Nat) : Input :=
  { loss := match cls src with | 0 => 1 | 1 => 7 | 6 => 7 | _ => 0, link := if cls src = 0 then 1 else 0 }

/-- The input record of a source. -/
def State.input (s : State) (src : Nat) : Input := tabGet s.signals.inputs src (Input.reset src)

/-- Store an input record. -/
def State.setInput (s : State) (src : Nat) (x : Input) : State :=
  { s with signals := { s.signals with inputs := tabPut s.signals.inputs src x } }

/-- A source is in LOSS (R150). -/
def State.inLoss (s : State) (src : Nat) : Bool := (s.input src).loss != 0

/-- The detail of INPUT_LOSS and INPUT_RESTORED (R575). -/
def lossDetail (reason link : Nat) : Nat := reason + link * 256

/-- Change every running synchroniser of a source. -/
def State.mapSyncs (s : State) (src : Nat) (f : Sync → Sync) : State :=
  { s with signals := { s.signals with
      syncs := tabMap (fun k y => if k / 8 = src then f y else y) s.signals.syncs } }

/-- A source enters LOSS, or, being in LOSS, takes a new reason (R150, R575). -/
def State.enterLoss (s : State) (src reason link : Nat) : State :=
  let i := s.input src
  let was := i.loss
  let n := if was = 0 then i.count.lossEntries + 1 else i.count.lossEntries
  let s := s.setInput src { i with loss := reason, link, good := 0
                                   count := { i.count with lossEntries := n } }
  if was = 0 then
    (s.mapSyncs src fun y => { y with pos := none, frozen := 0 }).raise .inputLoss (srcSource src)
      (lossDetail reason link)
  else s

/-- A source leaves LOSS (R150, R151). -/
def State.leaveLoss (s : State) (src : Nat) : State :=
  let i := s.input src
  if i.loss = 0 then s
  else (s.setInput src { i with loss := 0, link := 0 }).raise .inputRestored (srcSource src)
    (lossDetail i.loss i.link)

/-! ## Frames -/

/-- Change every conversion pipe that a source feeds. -/
def State.mapPipesOf (s : State) (src : Nat) (f : Pipe → Pipe) : State :=
  let g (n : Nat) (p : Pipe) : Pipe := if (tabGet s.routing.dests (0x2000 + n) {}).source = src then f p else p
  { s with conversion := { s.conversion with pipes := tabMap g s.conversion.pipes } }

/-- A frame of a source starts at a DT: it takes the next number, and the oldest of three slots of every
synchroniser of the source (R149); the pipes it feeds note it with its DT (R196). -/
def State.openFrame (s : State) (src start : Nat) : State :=
  let i := s.input src
  let n := i.seq + 1
  let s := s.setInput src { i with seq := n, start := some start }
  let s := s.mapPipesOf src fun p => { p with
    stored := ((⟨n, start, false, false, []⟩ : Stored) :: p.stored).take 16 }
  s.mapSyncs src fun y => { y with slots := ((⟨n, start, false, false, []⟩ : Slot) :: y.slots).take 3 }

/-- Class EVENT of R129: caption data, ST 2010 messages, and the further pairs of the input. -/
def Input.isEvent (i : Input) (p : AncPacket) : Bool :=
  p.did == 0x61 || (p.did == 0x41 && p.sdid == 0x07) || i.events.contains (p.did, p.sdid)

/-- A synchroniser at the end of a frame in writing: the slot holds it, and where it is the frame that the output frame
in progress carries, its packets go with it, EVENT packets not on a repeat (R127, R129, R149). -/
def Sync.close (y : Sync) (i : Input) (whole : Bool) (anc : List AncPacket) : Sync :=
  let frame := anc.filter fun p => !i.isEvent p
  let y := { y with
    slots := y.slots.map fun z => if z.seq = i.seq then { z with done := true, bad := !whole, anc } else z
    lastGood := if whole && y.pos == some i.seq then y.pos else y.lastGood }
  if y.out = Sent.picture i.seq then { y with anc := y.anc ++ anc, again := frame }
  else if y.out = Sent.again i.seq then { y with anc := y.anc ++ frame, again := frame }
  else y

/-- The frame of a source that is in writing ends, whole or incomplete (R150). -/
def State.closeFrame (s : State) (src : Nat) (whole : Bool) (anc : List AncPacket) : State :=
  let i := s.input src
  let s := s.setInput src { i with
    start := none, good := if whole then i.good + 1 else 0
    count := { i.count with complete := i.count.complete + b2n whole } }
  let event := anc.filter i.isEvent
  let frame := anc.filter fun p => !i.isEvent p
  let s := s.mapPipesOf src fun p => { p with
    events := if whole then p.events ++ event.map fun x => (i.seq, x) else p.events
    stored := (p.stored.filter fun z => whole || z.seq != i.seq).map fun z =>
      if z.seq = i.seq then { z with done := true, anc := frame } else z }
  s.mapSyncs src fun y => y.close i whole anc

/-- The frame in writing is already known to be incomplete (R150). -/
def State.spoilFrame (s : State) (src : Nat) : State :=
  let i := s.input src
  s.mapSyncs src fun y => { y with slots := y.slots.map fun z =>
    if z.seq = i.seq then { z with bad := true } else z }

/-! ## Ancillary packets -/

/-- A packet is one of the entries of a filter (R128). -/
def ancListed (l : List (Nat × Option Nat)) (p : AncPacket) : Bool :=
  l.any fun e => e.1 == p.did && (e.2 == none || e.2 == some p.sdid)

/-- A packet passes an input's filter (R128). -/
def Input.passes (i : Input) (p : AncPacket) : Bool :=
  match i.filterMode with
  | 0 => true
  | 1 => ancListed i.filter p
  | _ => !ancListed i.filter p

/-- The packets that a frame holds: at most 2,048 and 256 KiB of data (R127). -/
def ancFits : List AncPacket → Nat → Nat → List AncPacket
  | [], _, _ => []
  | p :: r, n, b =>
    if n < 2048 ∧ b + p.data.length ≤ 262144 then p :: ancFits r (n + 1) (b + p.data.length)
    else ancFits r n b

/-- What ingest keeps of a frame's packets, and the counts of checksum errors, of filtered packets and
of overflow (R127, R128). Audio, ST 352 and EDH packets are no part of the list. -/
def Input.takeAnc (i : Input) (l : List AncPacket) : List AncPacket × InCount :=
  let good := l.filter (·.sumOk)
  let kept := good.filter i.passes
  let held := ancFits kept 0 0
  (held, { i.count with
    ancSum := i.count.ancSum + (l.length - good.length)
    ancFiltered := i.count.ancFiltered + (good.length - kept.length)
    ancOverflow := i.count.ancOverflow + (kept.length - held.length) })

/-! ## Deframed frames -/

/-- A 1080 PsF signal whose raster does not tell it from 1080i, without ST 352, is taken as interlaced
(R120). -/
def asInterlaced (f : Nat × Nat) : Nat × Nat :=
  if f.1 = 5 then
    (match f.2 with | 2 => (3, 5) | 3 => (3, 6) | 4 => (3, 7) | _ => f)
  else f

/-- The format a frame shows (R120). -/
def sdiFormat (f : SdiFrame) : Option (Nat × Nat) :=
  match f.st352 with
  | some x => some x
  | none => f.measured.map asInterlaced

/-- The format a receiver is configured for and the interface it is set to, AUTO when absent. -/
structure RxSet where
  fixed : Option (Nat × Nat)
  iface : Nat
  /-- links of the group. -/
  links : Nat

/-- A signal differs from the format that its input is fixed to: in its ST 352 or in its measured
raster, which need not tell 1080i from 1080 PsF (R120). -/
def differsFrom (f : SdiFrame) (y : Nat × Nat) : Bool :=
  (match f.st352 with
    | some x => x != y
    | none => false)
  || (match f.measured with
    | some m => asInterlaced m != asInterlaced y
    | none => true)

/-- A frame puts its input in LOSS with reason FORMAT (R119, R120, R375). -/
def wrongFormat (f : SdiFrame) (r : RxSet) : Bool :=
  f.unsupported
    || (match sdiFormat f with
      | none => true
      | some x => (x.1 == 5 && decide (5 ≤ x.2)) || !formatValid x.1 x.2)
    || (match r.fixed with
      | none => false
      | some y => differsFrom f y)
    || (match f.iface with
      | none => false
      | some j => r.iface != 0 && j != r.iface)
    || (r.iface != 0 && f.links.length != r.links)

/-- The cause of LOSS on link k, 0 for none (R123 to R125, R575). -/
def linkCause (f : SdiFrame) (run : List Nat) (k : Nat) : Nat :=
  match f.links[k]? with
  | none => 0
  | some l =>
    if l.underrun then 6
    else if 1 < f.links.length ∧ l.number ≠ none ∧ l.number ≠ some (k + 1) then 5
    else if 10000 < l.delay then 4
    else if 2 ≤ run.getD k 0 then 2
    else 0

/-- The first link that failed and its cause; (0, 0) when none did (R124). -/
def firstCause (f : SdiFrame) (run : List Nat) : Nat × Nat :=
  let k := (List.range f.links.length).findIdx fun k => linkCause f run k != 0
  if k < f.links.length then (linkCause f run k, k + 1) else (0, 0)

/-- The lines in which any link had a CRC or EDH error (R125). -/
def erroredLines (f : SdiFrame) : Nat :=
  (f.links.flatMap (·.crcLines)).eraseDups.length

/-- Add a frame's link counts to the counters of R153. -/
def addLinks (c : List Nat) (v : List Nat) : List Nat :=
  (List.range 4).map fun k => c.getD k 0 + v.getD k 0

/-- The counters after a frame, and what that frame alone counted (R125, R153). -/
def countFrame (c : InCount) (f : SdiFrame) (changed : Bool) : InCount :=
  { c with
    errLines := c.errLines + erroredLines f
    linkErr := addLinks c.linkErr (f.links.map fun l => l.crcLines.eraseDups.length)
    linkTrs := addLinks c.linkTrs (f.links.map (·.trsErrors))
    formatChanged := c.formatChanged + b2n changed }

/-- A frame has been deframed on a source (R125): its errors are counted, its packets extracted, its
format judged, and it is written whole or incomplete into the synchronisers. -/
def State.sdiFrame (s : State) (src : Nat) (r : RxSet) (f : SdiFrame) : State :=
  let i := s.input src
  let run := (List.range 4).map fun k =>
    match f.links[k]? with
    | some l => if l.trsErrors = 0 then 0 else i.trsRun.getD k 0 + 1
    | none => 0
  let fmt := if r.fixed = none then sdiFormat f else r.fixed
  let changed := r.fixed == none && i.format != none && fmt != none && i.format != fmt
  let (held, c) := i.takeAnc f.anc
  let one := countFrame { (i.takeAnc f.anc).2 with
    ancSum := c.ancSum - i.count.ancSum, ancFiltered := c.ancFiltered - i.count.ancFiltered
    ancOverflow := c.ancOverflow - i.count.ancOverflow, errLines := 0, linkErr := [], linkTrs := []
    complete := 1, incomplete := 0, lossEntries := 0, formatChanged := 0 } f changed
  let s := s.setInput src { i with
    trsRun := run, format := if fmt = none then i.format else fmt, picture := some f.picture
    errRun := (erroredLines f :: i.errRun).take 3000, count := countFrame c f changed
    last := if f.complete then one else i.last }
  let s := if (s.input src).start = some f.start then s else s.openFrame src f.start
  let cause := firstCause f run
  let s := if cause.1 ≠ 0 then (s.closeFrame src false held).enterLoss src cause.1 cause.2
    else if wrongFormat f r then (s.closeFrame src false held).enterLoss src 3 1
    else if changed then
      ((s.closeFrame src false held).enterLoss src 3 1).raise .formatChanged (srcSource src)
    else s.closeFrame src f.complete held
  match f.next with
  | some d => s.openFrame src d
  | none => s

/-! ## Flows -/

/-- A receive flow. -/
def State.rx (s : State) (n : Nat) : Flow := tabGet s.signals.rx n {}

/-- A transmit flow. -/
def State.tx (s : State) (n : Nat) : Flow := tabGet s.signals.tx n {}

/-- Store a receive flow. -/
def State.setRx (s : State) (n : Nat) (f : Flow) : State :=
  { s with signals := { s.signals with rx := tabPut s.signals.rx n f } }

/-- Store a transmit flow. -/
def State.setTx (s : State) (n : Nat) (f : Flow) : State :=
  { s with signals := { s.signals with tx := tabPut s.signals.tx n f } }

/-- The fields of R135. -/
def Flow.kind (f : Flow) : Nat := u8 f.cfg 3
def Flow.enabled (f : Flow) : Bool := u8 f.cfg 4 == 1
def Flow.legCount (f : Flow) : Nat := u8 f.cfg 5
def Flow.port (f : Flow) (leg : Nat) : Nat := u16 f.cfg (8 + 2 * leg)
def Flow.payloadType (f : Flow) : Nat := u8 f.cfg 86
def Flow.ssrc (f : Flow) : Nat := u32 f.cfg 88
def Flow.raster (f : Flow) : Nat := u8 f.cfg 92
def Flow.rate (f : Flow) : Nat := u8 f.cfg 93
def Flow.channels (f : Flow) : Nat := u8 f.cfg 98
def Flow.coding (f : Flow) : Nat := u16 f.cfg 102
def Flow.handle (f : Flow) : Nat := u32 f.cfg 104

/-- Kinds that carry pictures: ST 2110-20 and ST 2022-6 (R134). -/
def pictureKind (k : Nat) : Bool := k == 0 || k == 4

/-- Kinds that carry coded streams (R135). -/
def codedKind (k : Nat) : Bool := decide (5 ≤ k ∧ k ≤ 8)

/-- Merge window in µs and leg loss timeout in ms, with their defaults (R135). -/
def Flow.mergeWindow (f : Flow) : Nat := let v := u32 f.cfg 108; if v = 0 then 1000 else v
def Flow.legTimeout (f : Flow) : Nat := let v := u16 f.cfg 112; if v = 0 then 20 else v

/-- Two configurations leave a leg unchanged: port, VLAN, addresses and UDP destination port (R141). -/
def sameLeg (a b : Bytes) (leg : Nat) : Bool :=
  u16 a (8 + 2 * leg) == u16 b (8 + 2 * leg) && u16 a (12 + 2 * leg) == u16 b (12 + 2 * leg)
    && slice a (16 + 32 * leg) 32 == slice b (16 + 32 * leg) 32
    && u16 a (80 + 2 * leg) == u16 b (80 + 2 * leg)

/-- Lanes that leave UP put the inputs they carry in LOSS with reason LANE_DOWN (R387, R124). -/
def State.lanesDown (s : State) (ns : List Nat) : State :=
  ns.foldl (fun s n =>
    if (tabGet s.lanes.quads (n / 4) {}).protocol ≠ 1 then s
    else match s.lanes.lanes.find? fun e => e.2.rxLinks.contains n with
      | some e => s.enterLoss e.1 1 (2 + e.2.rxLinks.findIdx (· == n))
      | none => s.enterLoss n 1 1) s

end Sys2Proof.Machine
end

