-- ==== Sys2Proof/Machine/Belong.lean ====
section
/-! DEFINITION. The objects of the crosspoints and the units behind them: which identifiers name
something (R154), which timing group an object belongs to (R42), which format a source and a
destination have (R167), and what a lane carries (R370). -/

namespace Sys2Proof.Machine

/-! ## Objects -/

/-- A destination of the state. -/
def State.dest (s : State) (d : Nat) : Dest := tabGet s.routing.dests d {}

/-- Store a destination. -/
def State.setDest (s : State) (d : Nat) (x : Dest) : State :=
  { s with routing := { s.routing with dests := tabPut s.routing.dests d x } }

/-- A test generator. -/
def State.gen (s : State) (n : Nat) : Generator := tabGet s.routing.gens n {}

/-- Store a test generator. -/
def State.setGen (s : State) (n : Nat) (x : Generator) : State :=
  { s with routing := { s.routing with gens := tabPut s.routing.gens n x } }

/-- The watch rule of a destination. -/
def State.rule (s : State) (d : Nat) : Option Rule :=
  (s.routing.rules.find? fun e => e.1 == d).map (·.2)

/-- Store the watch rule of a destination. -/
def State.setRule (s : State) (d : Nat) (x : Rule) : State :=
  { s with routing := { s.routing with rules := tabPut s.routing.rules d x } }

/-- A conversion pipe. -/
def State.pipe (s : State) (n : Nat) : Pipe := tabGet s.conversion.pipes n {}

/-- Store a conversion pipe. -/
def State.setPipe (s : State) (n : Nat) (x : Pipe) : State :=
  { s with conversion := { s.conversion with pipes := tabPut s.conversion.pipes n x } }

/-- The fields of R186. -/
def Pipe.enabled (p : Pipe) : Bool := u8 p.cfg 2 == 1
def Pipe.tg (p : Pipe) : Nat := u8 p.cfg 3
def Pipe.maxRaster (p : Pipe) : Nat := u8 p.cfg 4
def Pipe.maxRate (p : Pipe) : Nat := u8 p.cfg 5
def Pipe.method (p : Pipe) : Nat := u8 p.cfg 30

/-- A canvas. -/
def State.canvas (s : State) (n : Nat) : Canvas := tabGet s.pictures.canvases n {}

/-- Store a canvas. -/
def State.setCanvas (s : State) (n : Nat) (x : Canvas) : State :=
  { s with pictures := { s.pictures with canvases := tabPut s.pictures.canvases n x } }

/-- The fields of R215. -/
def Canvas.enabled (c : Canvas) : Bool := u8 c.cfg 2 == 1
def Canvas.tg (c : Canvas) : Nat := u8 c.cfg 3

/-- An encode channel that is open. -/
def State.enc (s : State) (n : Nat) : Option Enc := (s.coding.encs.find? fun e => e.1 == n).map (·.2)

/-- Store an encode channel. -/
def State.setEnc (s : State) (n : Nat) (x : Enc) : State :=
  { s with coding := { s.coding with encs := tabPut s.coding.encs n x } }

/-- The fields of R261. -/
def Enc.tg (e : Enc) : Nat := u8 e.cfg 2
def Enc.codec (e : Enc) : Nat := u8 e.cfg 3
def Enc.raster (e : Enc) : Nat := u8 e.cfg 9
def Enc.rateCode (e : Enc) : Nat := u8 e.cfg 10

/-- A decode channel that is open. -/
def State.dec (s : State) (n : Nat) : Option Dec := (s.coding.decs.find? fun e => e.1 == n).map (·.2)

/-- Store a decode channel. -/
def State.setDec (s : State) (n : Nat) (x : Dec) : State :=
  { s with coding := { s.coding with decs := tabPut s.coding.decs n x } }

/-- The fields of R305. -/
def Dec.tg (d : Dec) : Nat := u8 d.cfg 2
def Dec.raster (d : Dec) : Nat := u8 d.cfg 9

/-- A panel port. -/
def State.panel (s : State) (n : Nat) : Panel := tabGet s.panels.ports n {}

/-- Store a panel port. -/
def State.setPanel (s : State) (n : Nat) (x : Panel) : State :=
  { s with panels := { s.panels with ports := tabPut s.panels.ports n x } }

/-- The fields of R245. -/
def Panel.enabled (p : Panel) : Bool := u8 p.cfg 1 == 1
def Panel.tg (p : Panel) : Nat := u8 p.cfg 2

/-- The timing group of an export slot (R402). -/
def State.exportGroup (s : State) (e : Nat) : Nat := tabGet s.cascade.exports_ e 0

/-- The first pipe of the gang that holds a pipe (R203). -/
def State.gangHead (s : State) (p : Nat) : Nat :=
  if (s.pipe (p / 4 * 4)).gang = 4 then p / 4 * 4
  else if (s.pipe (p / 2 * 2)).gang = 2 then p / 2 * 2
  else p

/-! ## Identifiers -/

/-- The module numbers of a cascade are those below 4 that its links name or that it is (R402). -/
def State.cascadeHas (s : State) (m : Nat) : Bool :=
  let c := s.cascade
  u8 c.cfg 0 == 1 && decide (m < 4) && m != u8 c.cfg 1
    && (c.links.any fun e => e.2.expected == m || e.2.peer == some m || e.2.expected == 0xFF)

/-- A source identifier names a source that is present (R154, R122, R203, R402). -/
def State.sourceOk (s : State) (id : Nat) : Bool :=
  let i := idx id
  match cls id with
  | 0 => s.present 1 i && !(s.lanes.lanes.any fun e => e.2.rxLinks.contains i)
  | 1 => decide (i < 512)
  | 2 => s.present 6 i && s.gangHead i == i
  | 3 => s.present 7 i
  | 4 => decide (i < 16) && decide (0 < featureCount s.part.feature 5)
  | 5 => decide (i < 8)
  | 6 => decide (i / 1024 = 0) && s.cascadeHas (i / 256)
  | 15 => i == 0
  | _ => false

/-- A destination is a member of a clone group, of which canvas (R238). -/
def State.cloneOf (s : State) (d : Nat) : Option Nat :=
  (s.pictures.canvases.find? fun e => e.2.members.any fun m => m.1 == d).map (·.1)

/-- A destination identifier names a destination that is present (R154, R122, R203). -/
def State.destOk (s : State) (id : Nat) : Bool :=
  let i := idx id
  match cls id with
  | 0 => s.present 1 i && !(s.lanes.lanes.any fun e => e.2.txLinks.contains i)
  | 1 => decide (i < 512)
  | 2 => s.present 6 i && s.gangHead i == i
  | 3 => decide (i < 64) && s.present 7 (i / 4)
  | 4 => decide (i < 32) && (match s.enc i with | some e => !e.closed | none => false)
  | 5 => decide (i < 2)
  | 6 => decide (i < 256)
  | _ => false

/-- The timing group of the unit behind a source of class 0x2 to 0x5 (R166). -/
def State.unitGroup (s : State) (id : Nat) : Option Nat :=
  let i := idx id
  match cls id with
  | 2 => some (s.pipe i).tg
  | 3 => some (s.canvas i).tg
  | 4 => (s.dec i).map (·.tg)
  | 5 => some (s.gen i).tg
  | _ => none

/-- The timing group of a destination (R154). -/
def State.destGroup (s : State) (id : Nat) : Nat :=
  let i := idx id
  match cls id with
  | 2 => (s.pipe i).tg
  | 3 => (s.canvas (i / 4)).tg
  | 4 => match s.enc i with | some e => e.tg | none => 0
  | 5 => (s.panel i).tg
  | 6 => s.exportGroup i
  | _ => (s.dest id).tg

/-- The raster and rate of a group. -/
def State.groupFormat (s : State) (g : Nat) : Nat × Nat := ((s.tg g).raster, (s.tg g).rate)

/-- The format of a source, when it is known (R167): a generator has that of its group (R156); a flow that was never
configured has none. -/
def State.sourceFormat (s : State) (id : Nat) : Option (Nat × Nat) :=
  let i := idx id
  match cls id with
  | 0 =>
    let l := tabGet s.lanes.lanes i {}
    if l.rxFixed then some (l.rxRaster, l.rxRate)
    else if s.inLoss id then none else (s.input id).format
  | 1 =>
    let f := s.rx i
    if f.cfg.isEmpty then none
    else if f.kind = 0 then some (f.raster, f.rate)
    else if s.inLoss id then none else (s.input id).format
  | 2 => some (s.groupFormat (s.pipe i).tg)
  | 3 => some (s.groupFormat (s.canvas i).tg)
  | 4 => (s.dec i).map fun d => s.groupFormat d.tg
  | 5 => if (s.tg (s.gen i).tg).enabled then some (s.groupFormat (s.gen i).tg) else none
  | 6 => (s.cascade.remotes.find? fun e => e.1 == id).map fun e => (e.2.raster, e.2.rate)
  | _ => none

/-- The format of a destination (R167): the encode channel's input format, else its group's. -/
def State.destFormat (s : State) (id : Nat) : Nat × Nat :=
  match cls id with
  | 4 => match s.enc (idx id) with
    | some e => (e.raster, e.rateCode)
    | none => (0, 0)
  | _ => s.groupFormat (s.destGroup id)

/-- Two rate codes are equal or ÷1.001 counterparts (R167). -/
def rateMatch (a b : Nat) : Bool :=
  a == b || match a, b with
    | 0, 1 | 1, 0 | 3, 4 | 4, 3 | 6, 7 | 7, 6 | 9, 10 | 10, 9 => true
    | _, _ => false

/-- Formats are compatible for sending (R167): equal raster and matching rate, or 1080p and 1080 PsF at
equal rates. -/
def formatsMeet (a b : Nat × Nat) : Bool :=
  (a.1 == b.1 && rateMatch a.2 b.2)
    || (((a.1 == 4 && b.1 == 5) || (a.1 == 5 && b.1 == 4)) && a.2 == b.2)

/-- An SDI output sends a format: an interface carries it, the explicit one where one is set (R118,
R374), at a rate of the quad's family (R371), and SD only from the nominal family (R372). -/
def State.laneSends (s : State) (n : Nat) (f : Nat × Nat) : Bool :=
  let l := tabGet s.lanes.lanes n {}
  let q := tabGet s.lanes.quads (n / 4) {}
  let i := if l.txIface = 0 then autoIface f.1 f.2 else if ifaceCarries l.txIface f.1 f.2 then some l.txIface else none
  match i with
  | none => false
  | some i =>
    if i = 1 then q.mode == 0
    else if q.mode = 1 then rateFamily f.2 == 0 else rateFamily f.2 != 0

/-- A source's format is compatible with a destination on the stream path (R167); a source whose format
is not known is. -/
def State.compatible (s : State) (d src : Nat) : Bool :=
  if src = 0xF000 then true
  else
    let df := s.destFormat d
    let meets := match s.sourceFormat src with
      | none => true
      | some f => formatsMeet f df
    match cls d with
    | 0 => meets && s.laneSends (idx d) df
    | 1 =>
      let k := (s.tx (idx d)).kind
      if k = 4 then meets && ([1, 2, 3, 4].any fun i => ifaceCarries i df.1 df.2) else meets
    | 4 => meets
    | 5 => cls src == 3
    | _ => true

/-! ## Groups -/

/-- A destination of class 0x0 or 0x1 is configured to a group: a lane of an SDI quad with its
transmitter enabled, or an enabled transmit flow, and any destination that is routed (R42). -/
def State.destIn (s : State) (g : Nat) : Bool :=
  s.routing.dests.any fun e => decide (cls e.1 ≤ 1) && e.2.tg == g

/-- Any object belongs to the group (R42). Every destination of class 0x0 and 0x1 that was never
configured to another group belongs to TG0, which is never disabled. -/
def State.groupBusy (s : State) (g : Nat) : Bool :=
  s.destIn g
    || (s.conversion.pipes.any fun e => e.2.enabled && e.2.tg == g)
    || (s.pictures.canvases.any fun e => e.2.enabled && e.2.tg == g)
    || (s.coding.encs.any fun e => !e.2.closed && e.2.tg == g)
    || (s.coding.decs.any fun e => e.2.tg == g)
    || (s.panels.ports.any fun e => e.2.enabled && e.2.tg == g)
    || (s.routing.gens.any fun e => e.2.enabled && e.2.tg == g)
    || (s.audio.dests.any fun e => e.2.tg == g && s.audio.crosses.any fun x => x.1 / 256 == e.1)
    || (s.cascade.exports_.any fun e => e.2 == g && (s.dest (0x6000 + e.1)).source != 0xF000)
    || (s.signals.syncs.any fun e => e.1 % 8 == g)

/-- The detected frame rate of an SDI input lane, for the family of a reference (R40). -/
def State.sdiRate (s : State) (lane : Nat) : Nat :=
  match (s.input lane).format with
  | some f => f.2
  | none => 5

/-- An Ethernet port starts at this lane (R132): any lane of a 10GBASE-R or 25GBASE-R quad, the first
of a 100GBASE-R quad. -/
def State.ethernetPort (s : State) (lane : Nat) : Bool :=
  let q := tabGet s.lanes.quads (lane / 4) {}
  decide (lane < 144) && q.protocol == 2 && (q.mode != 2 || lane % 4 == 0)

/-- A flow uses a port (R370). -/
def Flow.uses (f : Flow) (lane : Nat) : Bool :=
  f.enabled && (List.range f.legCount).any fun i => f.port i == lane

/-- A lane carries work (R370). -/
def State.laneWork (s : State) (n : Nat) : Bool :=
  let q := tabGet s.lanes.quads (n / 4) {}
  let port := if q.protocol = 2 ∧ q.mode = 2 then n / 4 * 4 else n
  let l := tabGet s.lanes.lanes n {}
  (s.dest n).source != 0xF000
    || (s.routing.dests.any fun e => e.2.source == n)
    || (s.lanes.lanes.any fun e => e.2.rxLinks.contains n || e.2.txLinks.contains n)
    || l.rxLinks.any (· != 0xFFFF) || l.txLinks.any (· != 0xFFFF)
    || (s.cloneOf n).isSome
    || (q.protocol == 2 && ((s.signals.rx.any fun e => e.2.uses port) || s.signals.tx.any fun e => e.2.uses port))
    || (s.lanes.links.any fun k => k.contains n)
    || l.gen != 0 || l.inject != 0 || q.loopback != 0
    || s.underTest 1 n

/-- A key handle may protect a flow: it names a slot, and the Lantern is not in its error state (R144, R449). -/
def State.keyUsable (s : State) (h : Nat) : Bool :=
  h == 0 || (s.lantern.state != 3 && s.lantern.slots.any fun e => e.2.handle == h)

/-- A handle names a key slot of a direction (R449). -/
def State.keyDirection (s : State) (h : Nat) (transmit : Bool) : Bool :=
  s.lantern.slots.all fun e => e.2.handle != h || e.2.transmit == transmit

/-- The audio system rate: 0 48 kHz, 1 96 kHz (R326). -/
def State.systemRate (s : State) : Nat := s.audio.rate

/-! ## Offsets -/

/-- A change of a group's format reduces the stored synchroniser offsets of the group modulo the frame
period, and the fine offsets of its destinations modulo the samples of a line (R147). -/
def State.reduceOffsets (s : State) (g : Nat) : State :=
  let t := s.tg g
  let spl := samplesPerLine t.raster t.rate
  let n : Int := totalLines t.raster * spl
  let red (o : Int) : Int :=
    let m := o % n
    if n ≤ 2 * m then m - n else m
  let st := tabMap (fun k (x : SyncSet) => if k % 8 = g then { x with offset := red x.offset } else x) s.signals.settings
  let ds := tabMap (fun _ (x : Dest) => if x.tg = g then { x with fine := x.fine % spl } else x) s.routing.dests
  { s with signals := { s.signals with settings := st }, routing := { s.routing with dests := ds } }

end Sys2Proof.Machine
end

