-- ==== Sys2Proof/Machine/AudioOps.lean ====
section
/-! DEFINITION. Audio endpoints and their channels (R327), cross-points (R329, R330), the changes that wait for a zero
crossing (R346, R347) and audio follow (R331). -/

namespace Sys2Proof.Machine

/-! ## Records -/

/-- The key of a destination channel, and of a cross-point. -/
def chanKey (d ch : Nat) : Nat := d * 256 + ch
def crossKey (d ch k : Nat) : Nat := d * 256 + ch * 4 % 256 + k

/-- The audio settings of a destination. -/
def State.audioDest (s : State) (d : Nat) : AudioDest := tabGet s.audio.dests d {}

/-- What is kept of a destination channel. -/
def State.destChan (s : State) (d ch : Nat) : DestChan := tabGet s.audio.chans (chanKey d ch) {}

/-- Store it. -/
def State.setDestChan (s : State) (d ch : Nat) (x : DestChan) : State :=
  { s with audio := { s.audio with chans := tabPut s.audio.chans (chanKey d ch) x } }

/-- A source endpoint. -/
def State.audioSource (s : State) (e : Nat) : AudioSource := tabGet s.audio.sources e {}

/-- Store it. -/
def State.setAudioSource (s : State) (e : Nat) (x : AudioSource) : State :=
  { s with audio := { s.audio with sources := tabPut s.audio.sources e x } }

/-- A TDM port, and an audio host ring. -/
def State.tdm (s : State) (n : Nat) : Tdm := tabGet s.audio.tdm n {}
def State.setTdm (s : State) (n : Nat) (x : Tdm) : State := { s with audio := { s.audio with tdm := tabPut s.audio.tdm n x } }
def State.audioRing (s : State) (n : Nat) : AudioRing := tabGet s.audio.rings n {}
def State.setAudioRing (s : State) (n : Nat) (x : AudioRing) : State :=
  { s with audio := { s.audio with rings := tabPut s.audio.rings n x } }

def Tdm.enabled (t : Tdm) : Bool := u8 t.cfg 1 == 1
def Tdm.master (t : Tdm) : Bool := u8 t.cfg 2 == 1
def Tdm.slots (t : Tdm) : Nat := u8 t.cfg 3
def AudioRing.enabled (r : AudioRing) : Bool := u64 r.cfg 8 != 0
def AudioRing.channels (r : AudioRing) : Nat := u8 r.cfg 2

/-- The samples of a block, and of a second, at the system rate (R337). -/
def State.blockSize (s : State) : Nat := if s.audio.rate = 1 then 96 else 48
def State.systemHz (s : State) : Nat := if s.audio.rate = 1 then 96000 else 48000

/-! ## Endpoints -/

/-- The channels that an SDI interface embeds (R327, R334): none on SD; at 96 kHz half as many. -/
def State.sdiChannels (s : State) (iface : Nat) : Nat :=
  (if iface ≤ 1 then 0 else if iface = 2 then 16 else 32) / (s.audio.rate + 1)

/-- The channels of a format's single-link interface. -/
def State.formatChannels (s : State) (f : Nat × Nat) : Nat := s.sdiChannels ((autoIface f.1 f.2).getD 3)

/-- The associated audio flows of a kind-0 receive flow (R135, R327). -/
def Flow.assoc (f : Flow) : List Nat :=
  ((List.range 16).map fun i => u16 f.cfg (120 + 2 * i)).filter fun v => v != 0xFFFF

/-- The channels of a source endpoint, through at most n pipes and canvases (R327). -/
def State.sourceChannels (s : State) (n id : Nat) : Nat :=
  let i := idx id
  match cls id with
  | 0 =>
    let l := tabGet s.lanes.lanes i {}
    s.sdiChannels (if l.rxIface = 0 then l.detIface else l.rxIface)
  | 1 =>
    let f := s.rx i
    if !f.enabled then 0
    else match f.kind with
      | 1 => f.channels
      | 2 => f.channels
      | 0 => min 64 ((f.assoc.map fun a => (s.rx (idx a)).channels).sum)
      | 4 => s.formatChannels ((s.input id).format.getD (f.raster, f.rate))
      | _ => 0
  | 2 => match n with
    | 0 => 0
    | k + 1 => s.sourceChannels k (s.dest id).source
  | 3 => match n with
    | 0 => 0
    | k + 1 =>
      let l := u8 (s.canvas i).cfg 12
      if (s.canvas i).enabled && decide (l ≤ 3) then s.sourceChannels k (s.dest (0x3000 + 4 * i + l)).source else 0
  | 5 => 16
  | 6 => 64
  | 7 => if (s.tdm i).enabled then (s.tdm i).slots else 0
  | 8 => if (s.audioRing i).enabled then (s.audioRing i).channels else 0
  | 15 => 1
  | _ => 0

/-- A source endpoint may be named (R327): decoder sources carry no association. -/
def State.audioSourceOk (s : State) (id : Nat) : Bool :=
  match cls id with
  | 4 => false
  | 7 => decide (idx id < 16)
  | 8 => decide (idx id < 16)
  | _ => s.sourceOk id

/-- The channels of a destination endpoint (R327). -/
def State.destChannels (s : State) (id : Nat) : Nat :=
  let i := idx id
  match cls id with
  | 0 =>
    let l := tabGet s.lanes.lanes i {}
    let q := tabGet s.lanes.quads (i / 4) {}
    if l.txEn && q.protocol == 1 then
      (if l.txIface = 0 then s.formatChannels (s.destFormat id) else s.sdiChannels l.txIface)
    else 0
  | 1 =>
    let f := s.tx i
    if !f.enabled then 0
    else match f.kind with
      | 1 => f.channels
      | 2 => f.channels
      | 4 => s.formatChannels (s.destFormat id)
      | _ => 0
  | 6 => if (s.dest id).source = 0xF000 then 0 else 64
  | 7 => if (s.tdm i).enabled then (s.tdm i).slots else 0
  | 8 => if (s.audioRing (16 + i)).enabled then (s.audioRing (16 + i)).channels else 0
  | _ => 0

/-- A destination endpoint whose channels may be named (R327). -/
def State.audioDestOk (s : State) (id : Nat) : Bool :=
  match cls id with
  | 0 => s.destOk id
  | 1 => decide (idx id < 512)
  | 6 => decide (idx id < 256)
  | 7 => decide (idx id < 16)
  | 8 => decide (idx id < 16)
  | _ => false

/-- The timing group of an audio destination (R158, R333). -/
def State.audioGroup (s : State) (id : Nat) : Nat :=
  let own := match cls id with
    | 7 => true
    | 8 => true
    | 1 => let k := (s.tx (idx id)).kind
      k == 1 || k == 2
    | _ => false
  if own then (s.audioDest id).tg else s.destGroup id

/-! ## Changes -/

/-- The cross-points of a destination channel, by number. -/
def State.crossesOf (s : State) (d ch : Nat) : List (Nat × Cross) :=
  (List.range 4).filterMap fun k => (s.audio.crosses.find? fun e => e.1 == crossKey d ch k).map fun e => (k, e.2)

/-- A unity path (R330): exactly one cross-point, gain 0, not muted. -/
def unityPath (l : List (Nat × Cross)) : Bool :=
  match l with
  | [x] => x.2.gain == 0 && !x.2.mute
  | _ => false

/-- A change of a channel is made (R346). -/
def State.makeChange (s : State) (c : AudioChange) : State :=
  let put (t : Tab Cross) (e : Nat × Option Cross) : Tab Cross :=
    match e.2 with
    | some x => tabPut t (crossKey c.dest c.chan e.1) x
    | none => tabDrop t (crossKey c.dest c.chan e.1)
  let s := { s with audio := { s.audio with crosses := c.set.foldl put s.audio.crosses } }
  match c.delay with
  | some v => s.setDestChan c.dest c.chan { (s.destChan c.dest c.chan) with delay := v }
  | none => s

/-- The destination's output is muted: a TDM port that is (R363). -/
def State.destMuted (s : State) (d : Nat) : Bool :=
  cls d == 7 && (match (s.tdm (idx d)).state with
    | .running => false
    | .disabled => false
    | _ => true)

/-- A change falls due (R346, R347, R363): ganged changes and those of a muted port are made at once, others wait. -/
def State.changeDue (s : State) (ganged : Bool) (c : AudioChange) : State :=
  if ganged || s.destMuted c.dest then s.makeChange c
  else { s with audio := { s.audio with changes := s.audio.changes ++ [c] } }

/-- Follow one destination channel: a unity cross-point from a source channel, or none (R331). -/
def State.followChannel (s : State) (d ch src k n : Nat) : State :=
  let x : Option Cross := if k ≤ n then some ⟨src, k, 0, false⟩ else none
  let old := (s.crossesOf d ch).map (·.1)
  let set := (0, x) :: ((old.filter (· != 0)).map fun i => (i, (none : Option Cross)))
  s.changeDue ((s.audioDest d).mode == 1) ⟨0, d, ch, set, none, s.time.dt⟩

/-- The audio of a destination follows its new source (R331). -/
def State.followRoute (s : State) (d src : Nat) : State :=
  let n := if src = 0xF000 then 0 else s.sourceChannels 48 src
  let all (s : State) (e count first : Nat) : State :=
    (List.range count).foldl (fun s i => s.followChannel e (i + 1) src (first + i + 1) n) s
  match cls d with
  | 0 => all s d (s.destChannels d) 0
  | 1 =>
    let k := (s.tx (idx d)).kind
    if k = 4 then all s d (s.destChannels d) 0
    else if k = 0 then
      ((s.audioDest d).follow.foldl (fun (a : State × Nat) f =>
        let e := 0x1000 + idx f
        let c := a.1.destChannels e
        (all a.1 e c a.2, a.2 + c)) (s, 0)).1
    else s
  | _ => s

end Sys2Proof.Machine
end

