-- ==== Sys2Proof/Machine/Capacity.lean ====
section
/-! DEFINITION. Capacity (R23 to R27): what every object is charged now, what scheduled commands will
change, and the admission of a command at its effect point and at every later scheduled one (R26). -/

namespace Sys2Proof.Machine

/-! ## Charges of objects -/

/-- The charge of a conversion: the larger of its input and output cost (R206). -/
def pipeCharge (maxRaster maxRate raster rate : Nat) : Nat :=
  max (formatCost maxRaster maxRate) (formatCost raster rate)

/-- The charge of a pipe as configured. -/
def State.pipeCost (s : State) (p : Nat) : Nat :=
  let x := s.pipe p
  if x.enabled then pipeCharge x.maxRaster x.maxRate (s.tg x.tg).raster (s.tg x.tg).rate else 0

/-- The fields of a layer record (R225). -/
def recLayer (r : Bytes) : Nat := u8 r 0
def recEnabled (r : Bytes) : Bool := u8 r 1 == 1
def recZ (r : Bytes) : Nat := u8 r 2
def recFlatten (r : Bytes) : Bool := bit (u8 r 3) 0
def recSurface (r : Bytes) : Nat := u32 r 4
def recCrop (r : Bytes) : Nat × Nat × Nat × Nat := (u16 r 8, u16 r 10, u16 r 12, u16 r 14)
def recPlace (r : Bytes) : Nat × Nat × Nat × Nat := (u16 r 16, u16 r 18, u16 r 20, u16 r 22)

/-- The maximum input format of a video layer: the format of the source routed to it, or its group's
(R226). -/
def State.layerInput (s : State) (c l : Nat) : Nat × Nat :=
  let src := (s.dest (0x3000 + 4 * c + l)).source
  (s.sourceFormat src).getD (s.groupFormat (s.canvas c).tg)

/-- The charge of an enabled video layer (R214): the larger of its input cost and its placed-area
cost. -/
def State.layerCost (s : State) (c : Nat) (f : Nat × Nat) (r : Bytes) : Nat :=
  if recEnabled r ∧ recLayer r < 4 then
    let i := s.layerInput c (recLayer r)
    let p := recPlace r
    let w := if p.2.2.1 = 0 then activeWidth f.1 else p.2.2.1
    let h := if p.2.2.2 = 0 then activeLines f.1 else p.2.2.2
    max (formatCost i.1 i.2) (k6Cost w h (frameFraction f.1 f.2))
  else 0

/-- The layer records in force on a canvas; a pending record stands in for the committed one (R230). -/
def Canvas.records (c : Canvas) : List Bytes :=
  c.layers.filterMap fun e => match e.2.waiting with
    | some w => some w.rec_
    | none => e.2.cfg

/-- The charges of a canvas: its raster as item 31 of its 32, and one item for each layer record (R214). -/
def State.canvasItems (s : State) (c : Nat) (enabled : Bool) (f : Nat × Nat) (ls : List Bytes) :
    List (Nat × Nat) :=
  (32 * c + 31, if enabled then formatCost f.1 f.2 else 0)
    :: ls.map fun r => (32 * c + recLayer r, if enabled then s.layerCost c f r else 0)

/-- The charge of a canvas as configured. -/
def State.canvasCost (s : State) (c : Nat) : Nat :=
  let x := s.canvas c
  ((s.canvasItems c x.enabled (s.groupFormat x.tg) x.records).map (·.2)).sum

/-- The coding charge of a picture cost: a channel above 4 K6 is ganged and charged 8 K6 (R257). -/
def codingCharge (cost : Nat) : Nat := if 64 < cost then 128 else cost

/-- The picture cost of an encode channel. -/
def Enc.cost (e : Enc) : Nat := codingCharge (formatCost e.raster e.rateCode)

/-- The cost of a decode channel (R304): its raster at the higher of its maximum stream rate and its
group's rate. -/
def decCost (raster maxRate groupRate : Nat) : Nat :=
  codingCharge (max (formatCost raster maxRate) (formatCost raster groupRate))

/-- The share of a charge that one of the cores carrying it bears. -/
def perCore (cost : Nat) (cores : List Nat) : Nat := cost / max 1 cores.length

/-- A conversion holds coding capacity: it is configured for MOTION and has a core (R202: a fallback
for want of a core holds none). -/
def Pipe.holdsCore (p : Pipe) : Bool := p.enabled && p.method == 2 && p.core.isSome

/-! ## Holders of ports and synchronisers -/

/-- A source needs a synchroniser in a group (R166, R404). -/
def State.needsSync (s : State) (src g : Nat) : Bool :=
  match cls src with
  | 0 => true
  | 1 => true
  | 6 => true
  | 15 => false
  | _ => s.unitGroup src != some g

/-- The key of a pair of source and group. -/
def pairKey (src g : Nat) : Nat := src * 8 + g

/-- The amounts a holder of a source in a group takes of source ports (R165) and synchronisers
(R146). -/
def State.holdPort (_s : State) (src g : Nat) : Nat := if src = 0xF000 then 0 else pairKey src g + 1
def State.holdSync (s : State) (src g : Nat) : Nat :=
  if src ≠ 0xF000 ∧ s.needsSync src g then pairKey src g + 1 else 0

/-- The item number of candidate i of the rule of a destination. -/
def candItem (d i : Nat) : Nat := 0x10000 * (i + 1) + d

/-- The charges of a stream-path route of a destination, or of none (R165, R166). -/
def State.routeCharges (s : State) (d src : Nat) (lane : Bool) (g : Nat) : List Charge :=
  let src := if lane then 0xF000 else src
  [⟨101, d, s.holdSync src g⟩, ⟨102, d, s.holdPort src g⟩, ⟨103, d, if src = 0xF000 then 0 else 1⟩]

/-- The charges of a rule's candidates (R177). -/
def State.ruleCharges (s : State) (d g : Nat) (cands : List Nat) : List Charge :=
  ⟨107, d, if cands.isEmpty then 0 else 1⟩ ::
    (List.range 4).flatMap fun i =>
      let src := cands.getD i 0xF000
      [(⟨101, candItem d i, s.holdSync src g⟩ : Charge), ⟨102, candItem d i, s.holdPort src g⟩]

/-! ## Usage now -/

/-- A pool counts distinct amounts, not their sum: synchronisers and source ports (R146,
R165), and matrix rows (R328). -/
def poolDistinct (pool : Nat) : Bool := pool == 101 || pool == 102 || pool == 109

/-- The destination endpoints that take matrix columns (R328). -/
def State.audioEndpoints (s : State) : List Nat :=
  (s.lanes.lanes.map (·.1)) ++ (s.signals.tx.map fun e => 0x1000 + e.1)
    ++ ((s.routing.dests.filter fun e => cls e.1 == 6).map (·.1))
    ++ (s.audio.tdm.map fun e => 0x7000 + e.1)
    ++ ((s.audio.rings.filter fun e => decide (16 ≤ e.1)).map fun e => 0x8000 + (e.1 - 16))

/-- The charges of a pool by what is in effect now. Pools: 0 coding, 1 conversion, 2 composition
(R24), 10 + k core k (R255), 100 + n resource n of R27. -/
def State.baseCharges (s : State) (pool : Nat) : Tab Nat :=
  let routes : List Charge := s.routing.dests.flatMap fun e =>
    s.routeCharges e.1 e.2.source e.2.lane (s.destGroup e.1)
  let rules : List Charge := s.routing.rules.flatMap fun e =>
    s.ruleCharges e.1 (s.destGroup e.1) (e.2.cands.map (·.source))
  let coding : List (Nat × Nat × List Nat) :=
    ((s.coding.encs.filter fun e => !e.2.closed && !e.2.stopped).map fun e => (e.1, e.2.cost, e.2.cores))
      ++ ((s.coding.decs.filter fun e => e.2.state != .stopped).map fun e =>
        (0x100 + e.1, decCost e.2.raster (u8 e.2.cfg 10) (s.tg e.2.tg).rate, e.2.cores))
      ++ ((s.conversion.pipes.filter fun e => e.2.holdsCore).map fun e =>
        (0x200 + e.1, formatCost e.2.maxRaster e.2.maxRate, e.2.core.toList))
  let put (l : List (Nat × Nat)) : Tab Nat :=
    l.foldl (fun t x => if x.2 = 0 then t else tabPut t x.1 x.2) []
  if pool = 0 then put (coding.map fun x => (x.1, x.2.1))
  else if pool = 1 then put (s.conversion.pipes.map fun e => (e.1, s.pipeCost e.1))
  else if pool = 2 then put (s.pictures.canvases.flatMap fun e =>
    s.canvasItems e.1 e.2.enabled (s.groupFormat e.2.tg) e.2.records)
  else if 10 ≤ pool ∧ pool < 18 then
    put ((coding.filter fun x => x.2.2.contains (pool - 10)).map fun x => (x.1, perCore x.2.1 x.2.2))
  else if pool = 101 ∨ pool = 102 ∨ pool = 103 ∨ pool = 107 then
    put (((routes ++ rules).filter fun c => c.pool == pool).map fun c => (c.item, c.amount))
  else if pool = 104 then put [(0, s.waiting)]
  else if pool = 105 then put ((s.coding.encs.filter fun e => !e.2.closed).map fun e => (e.1, 1))
  else if pool = 106 then put (s.coding.decs.map fun e => (e.1, 1))
  else if pool = 108 then put [(0, s.pictures.surfaces.length)]
  else if pool = 109 then put (s.audio.crosses.map fun e => (e.1, chanKey e.2.source e.2.chan + 1))
  else if pool = 110 then put (s.audioEndpoints.map fun e => (e, s.destChannels e))
  else if pool = 111 then put (s.audio.crosses.map fun e => (e.1, 1))
  else if pool = 112 then put ((s.audio.sources.map fun e => (e.1, e.2.asrc.length))
    ++ s.audio.tdm.map fun e => (0x10000 + e.1, e.2.txAsrc.length))
  else if pool = 113 then put (s.pictures.canvases.map fun e => (e.1, e.2.budget))
  else if pool = 114 then put [(0, if s.journal.standingQueued = 0 then 0 else Config.standingBytes s.journal.standingQueued / 4096 + 1)]
  else if pool = 115 then put (s.lantern.slots.map fun e => (e.1, 1))
  else []

/-- Cores, pipes and canvases in service of R24's budgets, in 1/16 K6, and the counts of R27. -/
def State.poolLimit (s : State) (pool : Nat) : Nat :=
  let units (c : Nat) : Nat := ((List.range (unitCount c)).filter fun i => s.inService c i).length
  if pool = 0 then 64 * units 5
  else if pool = 1 then 16 * units 6
  else if pool = 2 then 32 * units 7
  else if 10 ≤ pool ∧ pool < 18 then 64
  else match pool with
    | 101 => 256
    | 102 => 512
    | 103 => 512
    | 104 => 8192
    | 105 => if featureCount s.part.feature 5 = 0 then 0 else 32
    | 106 => if featureCount s.part.feature 5 = 0 then 0 else 16
    | 107 => 512
    | 108 => 4096
    | 109 => if s.audio.rate = 1 then 4096 else 8192
    | 110 => if s.audio.rate = 1 then 4096 else 8192
    | 111 => if s.audio.rate = 1 then 8192 else 16384
    | 112 => if s.audio.rate = 1 then 512 else 1024
    | 113 => 384
    | 114 => 103
    | 115 => 1024
    | _ => 0

/-- No canvas is charged more than 2 K6 (R214). -/
def canvasesFit (t : Tab Nat) : Bool :=
  (List.range 16).all fun c => decide (((t.filter fun e => e.1 / 32 == c).map (·.2)).sum ≤ 32)

/-- What a pool's charges amount to. -/
def poolTotal (pool : Nat) (t : Tab Nat) : Nat :=
  if poolDistinct pool then ((t.map (·.2)).filter (· != 0)).eraseDups.length
  else (t.map (·.2)).sum

/-! ## The timeline -/

/-- A charge that takes effect at a DT. -/
structure Timed where
  dt : Int
  charge : Charge

/-- Insert a timed charge after those that are not later. -/
def insertTimed (x : Timed) : List Timed → List Timed
  | [] => [x]
  | y :: r => if x.dt < y.dt then x :: y :: r else y :: insertTimed x r

/-- The DT at which a scheduled command takes effect (R26: compared by DT). -/
def State.schedDt (s : State) (e : Sched) : Int :=
  match e.atDt with
  | some d => d
  | none => (s.tg e.effect.tg).dtOf e.effect.frame e.effect.line

/-- The charges of every scheduled command, in the order in which they take effect. -/
def State.timeline (s : State) (more : List Timed) : List Timed :=
  (more ++ (s.ccp.schedule.flatMap fun e => e.charges.map fun c => (⟨s.schedDt e, c⟩ : Timed)).reverse).foldr
    insertTimed []

/-- The charges of a pool at a DT, once everything that takes effect by then has done so. -/
def State.chargesAt (s : State) (pool : Nat) (tl : List Timed) (dt : Int) : Tab Nat :=
  tl.foldl (fun t x => if x.charge.pool = pool ∧ x.dt ≤ dt then tabPut t x.charge.item x.charge.amount
    else t) (s.baseCharges pool)

/-- The admission of R26: at the command's effect and at every later scheduled point, every pool that
it charges stays within its total and, for composition, within 2 K6 of a canvas. -/
def State.admits (s : State) (charges : List Charge) (dt : Int) : Bool :=
  let tl := s.timeline (charges.map fun c => (⟨dt, c⟩ : Timed))
  let points := dt :: ((tl.map (·.dt)).filter fun d => dt < d)
  let pools := (charges.map (·.pool)).eraseDups
  pools.all fun p => points.all fun d =>
    let t := s.chargesAt p tl d
    decide (poolTotal p t ≤ s.poolLimit p) && (p != 2 || canvasesFit t)

/-- Admission at an effect point. -/
def State.fits (s : State) (charges : List Charge) (e : Effect) : Bool :=
  s.admits charges ((s.tg e.tg).dtOf e.frame e.line)

/-- Admission of a command that takes effect at acceptance. -/
def State.fitsNow (s : State) (charges : List Charge) : Bool := s.admits charges s.time.dt

/-! ## Cores -/

/-- The kind of a coding item: 1 encode, 2 decode, 3 conversion (R255). -/
def itemMode (item : Nat) : Nat := if item < 0x100 then 1 else if item < 0x200 then 2 else 3

/-- The mode a core has at a DT (R255, R256): that of any item it carries then, or of an item whose
release has not reached its frame boundary; 0 IDLE. -/
def State.coreModeAt (s : State) (k : Nat) (tl : List Timed) (dt : Int) : Nat :=
  let now := (s.chargesAt (10 + k) tl dt).filter fun e => e.2 != 0
  match now with
  | e :: _ => itemMode e.1
  | [] =>
    let ends (e : Sched) : Int :=
      (s.tg e.effect.tg).dtOf (e.effect.frame + 1) 1
    let rel := s.ccp.schedule.filter fun e =>
      decide (dt < ends e) && e.charges.any fun c => c.pool == 10 + k && c.amount == 0
    match rel with
    | e :: _ => itemMode (((e.charges.find? fun c => c.pool == 10 + k).map (·.item)).getD 0)
    | [] => if tabHas s.coding.returning k then tabGet s.coding.modes k 0 else 0

/-- The cores in service. -/
def State.coresUp (s : State) : List Nat := (List.range 8).filter fun k => s.inService 5 k

/-- The charge on a core at a DT, an item excepted. -/
def State.coreLoad (s : State) (k : Nat) (tl : List Timed) (dt : Int) (item : Nat) : Nat :=
  (((s.chargesAt (10 + k) tl dt).filter fun e => e.1 != item).map (·.2)).sum

/-- The core or pair that placement chooses for an item of a cost at a DT (R201, R256, R257). -/
def State.placeCores (s : State) (item cost : Nat) (dt : Int) : Option (List Nat) :=
  let tl := s.timeline []
  let m := itemMode item
  let points := dt :: ((tl.map (·.dt)).filter fun d => dt < d)
  let idle (k : Nat) : Bool := points.all fun d => s.coreModeAt k tl d == 0
  let goes (k : Nat) : Bool := points.all fun d =>
    let n := s.coreModeAt k tl d
    (n == m || n == 0) && decide (s.coreLoad k tl d item + cost ≤ 64)
  if 64 < cost then
    ((([0, 2, 4, 6] : List Nat).filter fun k =>
      s.inService 5 k && s.inService 5 (k + 1) && idle k && idle (k + 1)).head?).map fun k => [k, k + 1]
  else
    let same := s.coresUp.filter fun k =>
      s.coreModeAt k tl dt == m && goes k
    match same with
    | k :: _ => some [k]
    | [] => ((s.coresUp.filter fun k => s.coreModeAt k tl dt == 0 && goes k).head?).map fun k => [k]

/-- The charges of a coding item on given cores, and its release from those it leaves. -/
def coreCharges (item cost : Nat) (cores old : List Nat) : List Charge :=
  ⟨0, item, cost⟩ :: (cores.map fun k => (⟨10 + k, item, perCore cost cores⟩ : Charge))
    ++ (old.filter fun k => !cores.contains k).map fun k => (⟨10 + k, item, 0⟩ : Charge)

end Sys2Proof.Machine
end

