-- ==== Sys2Proof/Machine/LaneOps.lean ====
section
/-! DEFINITION. Training units and their states (R383 to R386). -/

namespace Sys2Proof.Machine

/-- A lane of the state. -/
def State.lane (s : State) (n : Nat) : Lane := tabGet s.lanes.lanes n {}

/-- Store a lane. -/
def State.setLane (s : State) (n : Nat) (x : Lane) : State :=
  { s with lanes := { s.lanes with lanes := tabPut s.lanes.lanes n x } }

/-- A quad of the state. -/
def State.quad (s : State) (q : Nat) : Quad := tabGet s.lanes.quads q {}

/-- Store a quad. -/
def State.setQuad (s : State) (q : Nat) (x : Quad) : State :=
  { s with lanes := { s.lanes with quads := tabPut s.lanes.quads q x } }

/-- Change several lanes. -/
def State.mapLanes (s : State) (ns : List Nat) (f : Lane → Lane) : State :=
  ns.foldl (fun s n => s.setLane n (f (s.lane n))) s

/-- The lanes of a training unit: a lane alone, the four lanes of a 100GBASE-R port, or the lanes of a
Lightpipe link; a quad of LIGHTPIPE outside every configured link is a unit of its own (R383). -/
def State.unitOf (s : State) (n : Nat) : List Nat :=
  let q := s.quad (n / 4)
  let four := [n / 4 * 4, n / 4 * 4 + 1, n / 4 * 4 + 2, n / 4 * 4 + 3]
  if q.protocol = 2 ∧ q.mode = 2 then four
  else if q.protocol = 3 then (s.lanes.links.find? fun l => l.contains n).getD four
  else [n]

/-- The receiver of a lane may train: enabled, in an allocated quad that is not fenced (R383). -/
def State.mayTrain (s : State) (n : Nat) : Bool :=
  (s.lane n).rxEn && (s.quad (n / 4)).protocol != 0 && s.inService 1 n

/-- The equaliser values an attempt starts its ADAPT phase from (R384): those of the last UP, else
the boost of FIXED or the seed of a pass, else 12 dB with every tap at 0. -/
def Lane.startEq (l : Lane) : Nat × List Int :=
  match l.lastUp with
  | some e => e
  | none =>
    if l.eqMode = 2 then (l.ctleSet, [])
    else match l.seed with
      | some c => (c, [])
      | none => (24, [])

/-- A lane starts an attempt (R384): phase CDR_LOCK. -/
def Lane.beginAttempt (l : Lane) : Lane :=
  { l with state := .training, phase := 1, cdrLock := false, frameLock := false
           eyeH := 0, eyeV := 0, eyeReports := 0, ctle := l.startEq.1, dfe := l.startEq.2 }

/-- A lane waits for signal. -/
def Lane.wait (l : Lane) : Lane :=
  { l with state := .waitSignal, phase := 0, cdrLock := false, frameLock := false, detIface := 0 }

/-- A lane is disabled. -/
def Lane.disable (l : Lane) : Lane :=
  { l with state := .disabled, phase := 0, cdrLock := false, frameLock := false, detIface := 0
           attempts := 0, lastUp := none, eyeH := 0, eyeV := 0, eyeReports := 0, ctle := 0, dfe := [] }

/-- A unit begins an attempt at once, or waits for signal on some lane (R385); the SDI inputs it carries
are in LOSS until it is UP (R387). -/
def State.attempt (s : State) (u : List Nat) : State :=
  (if u.all fun n => (s.lane n).signal then s.mapLanes u Lane.beginAttempt
    else s.mapLanes u Lane.wait).lanesDown u

/-- Training of a unit starts afresh with the count at 0 (R385, R386), or is DISABLED (R383). -/
def State.restartUnit (s : State) (u : List Nat) : State :=
  if u.all s.mayTrain then (s.mapLanes u fun l => { l with attempts := 0 }).attempt u
  else (s.mapLanes u Lane.disable).lanesDown u

/-- The units of some lanes, each once. -/
def State.unitsOf (s : State) (ns : List Nat) : List (List Nat) :=
  (ns.map s.unitOf).foldl (fun acc u => if acc.contains u then acc else acc ++ [u]) []

/-- Restart the training of every unit that holds one of the lanes. -/
def State.restartLanes (s : State) (ns : List Nat) : State :=
  (s.unitsOf ns).foldl State.restartUnit s

/-- The reset values of LANE_CONFIGURE on a lane (R370); what the receiver has seen stays. -/
def Lane.resetConfig (l : Lane) (en : Bool) : Lane :=
  { l with rxEn := en, txEn := en, rxIface := 0, txIface := 0, rxFixed := false, rxRaster := 0, rxRate := 0
           eqMode := 0, rxLinks := [0xFFFF, 0xFFFF, 0xFFFF], txLinks := [0xFFFF, 0xFFFF, 0xFFFF]
           ctleSet := 0, flags := 0, pre := 0, post := 0, swing := 8, lastUp := none, seed := none }

/-- The other links of a group, those that are used. -/
def usedLinks (l : List Nat) : List Nat := l.filter fun n => n != 0xFFFF

/-- The lanes of the receive group of a lane, link 1 first. -/
def State.rxGroup (s : State) (n : Nat) : List Nat := n :: usedLinks (s.lane n).rxLinks

/-- The lanes of the transmit group of a lane, link 1 first. -/
def State.txGroup (s : State) (n : Nat) : List Nat := n :: usedLinks (s.lane n).txLinks

/-- The lane whose receive group holds a lane as link 2 to 4. -/
def State.rxOwner (s : State) (n : Nat) : Option Nat :=
  (s.lanes.lanes.find? fun e => e.2.rxLinks.contains n).map (·.1)

/-- The lane whose transmit group holds a lane as link 2 to 4. -/
def State.txOwner (s : State) (n : Nat) : Option Nat :=
  (s.lanes.lanes.find? fun e => e.2.txLinks.contains n).map (·.1)

/-- An intrusive test action holds a lane: generator, injection, or a loopback of its quad (R392). -/
def State.testHolds (s : State) (n : Nat) : Bool :=
  let l := s.lane n
  l.gen != 0 || l.inject != 0 || (s.quad (n / 4)).loopback != 0

end Sys2Proof.Machine
end

