-- ==== Sys2Proof/Machine/CascadeOps.lean ====
section
/-! DEFINITION. The links of the Lightpipe cascade (R394), their payload rates and the subscriptions that cross them
(R403). -/

namespace Sys2Proof.Machine

/-- Change the cascade. -/
def State.mapCascade (s : State) (f : Cascade → Cascade) : State := { s with cascade := f s.cascade }

/-- This module's number (R396). -/
def Cascade.self (c : Cascade) : Nat := u8 c.cfg 1

/-- The cascade is enabled (R396). -/
def Cascade.enabled (c : Cascade) : Bool := u8 c.cfg 0 == 1

/-- A configured link of the state. -/
def State.link (s : State) (k : Nat) : Option Link := (s.cascade.links.find? fun e => e.1 == k).map (·.2)

/-- Store a link. -/
def State.setLink (s : State) (k : Nat) (x : Link) : State :=
  s.mapCascade fun c => { c with links := tabPut c.links k x }

/-- The lanes of a link (R394). -/
def Link.lanes (l : Link) : List Nat := l.quads.flatMap fun q => [4 * q, 4 * q + 1, 4 * q + 2, 4 * q + 3]

/-- A link is UP (R383). -/
def State.linkUp (s : State) (k : Nat) : Bool :=
  match s.link k with
  | none => false
  | some l => s.cascade.enabled && l.lanes.all fun n => (s.lane n).state == Train.up

/-- The links that are UP, in order. -/
def State.linksUp (s : State) : List Nat := (s.cascade.links.map (·.1)).filter s.linkUp

/-- The payload rate of a link in 1/160 Gb/s: 248.2 Gb/s for 8 lanes, 496.4 Gb/s for 16 (R394). -/
def Link.payload (l : Link) : Nat := if l.quads.length = 2 then 39712 else 79424

/-- The charge of an export by its cost in 1/16 K6 (R403): 10.2 Gb/s for each K6 and 0.1 Gb/s for its audio, in
1/160 Gb/s. -/
def exportCharge (cost : Nat) : Nat := 102 * cost + 16

/-- The exports that cross a link, each once, with their charges (R403). -/
def State.crossing (s : State) (k : Nat) : Tab Nat :=
  s.cascade.subs.foldl (fun t x => if x.link = some k then tabPut t (x.origin * 256 + x.slot) x.charge else t) []

/-- A further export fits a link: at most 95 % of its payload rate (R403). -/
def State.linkFits (s : State) (k origin slot charge : Nat) : Bool :=
  match s.link k with
  | none => false
  | some l =>
    decide (100 * ((tabPut (s.crossing k) (origin * 256 + slot) charge).map (·.2)).sum ≤ 95 * l.payload)

/-- The origin and slot of a remote source (R402). -/
def remoteOf (src : Nat) : Nat × Nat := (idx src / 256, idx src % 256)

/-- The charge of a remote source by the format heard of it; of one not heard of, its audio only. -/
def State.remoteCharge (s : State) (src : Nat) : Nat :=
  match s.sourceFormat src with
  | some f => exportCharge (formatCost f.1 f.2)
  | none => exportCharge 0

/-- The shortest path to a module that an export of a charge fits (R403, R405): the direct link when it is UP, else the first
other link that is UP, by one intermediate module. -/
def State.pathTo (s : State) (m slot charge : Nat) : Option (Nat × Nat) :=
  let fit := s.linksUp.filter fun k => s.linkFits k m slot charge
  match fit.find? fun k => (s.link k).bind (·.peer) == some m with
  | some k => some (k, 1)
  | none => fit.head?.map fun k => (k, 2)

/-- The subscription of this module to a remote source. -/
def State.ownSub (s : State) (src : Nat) : Option Subscription :=
  s.cascade.subs.find? fun x => x.taker == s.cascade.self && (x.origin, x.slot) == remoteOf src

/-- A route to a remote source is admitted (R403): it is subscribed to already, or a path has room for it; where no link is
UP it has no path yet and reaches LOSS (R405). -/
def State.remoteFits (s : State) (src : Nat) : Bool :=
  cls src != 6 || (s.ownSub src).isSome || s.linksUp.isEmpty
    || (s.pathTo (remoteOf src).1 (remoteOf src).2 (s.remoteCharge src)).isSome

/-- The remote sources that synchronisers are taken for. -/
def remoteNeeds (keys : List Nat) : List Nat := ((keys.map (· / 8)).filter fun src => cls src == 6).eraseDups

/-- Subscribe to the remote sources that are routed, and end the subscriptions to the others (R403). -/
def State.refreshSubs (s : State) (need : List Nat) : State :=
  let me := s.cascade.self
  let keep (x : Subscription) : Bool := x.taker != me || need.any fun src => remoteOf src == (x.origin, x.slot)
  let s := s.mapCascade fun c => { c with subs := c.subs.filter keep }
  need.foldl (fun s src =>
    if (s.ownSub src).isSome then s
    else
      let o := remoteOf src
      let charge := s.remoteCharge src
      let p := s.pathTo o.1 o.2 charge
      let x : Subscription := { origin := o.1, slot := o.2, taker := me, link := p.map (·.1)
                                hops := (p.map (·.2)).getD 0, charge }
      s.mapCascade fun c => { c with subs := c.subs ++ [x] }) s

end Sys2Proof.Machine
end

