-- ==== Sys2Proof/Machine/RouteOps.lean ====
section
/-! DEFINITION. What routing does to the state: synchronisers taken and returned (R146), routes (R163,
R164, R168), tallies (R175), destination settings (R158, R159), watch rules (R178 to R181), and which
identifiers a fence holds (R531). -/

namespace Sys2Proof.Machine

/-! ## Synchronisers -/

/-- The pairs of source and group that hold a synchroniser: by a route or a rule now, or by a scheduled
command that has been armed (R146). -/
def State.syncNeeds (s : State) : List Nat :=
  let now := (s.baseCharges 101).map (·.2)
  let armed := (s.ccp.schedule.flatMap fun e => e.charges.filter fun c => c.pool == 101).map (·.amount)
  (((now ++ armed).filter (· != 0)).map (· - 1)).eraseDups

/-- Take and return synchronisers by the routes in force and armed (R146), and subscribe to the remote sources among them
(R403). -/
def State.refreshSyncs (s : State) : State :=
  let need := s.syncNeeds
  let kept := s.signals.syncs.filter fun e => need.contains e.1
  let new := need.filter fun k => !tabHas kept k
  let s := { s with signals := { s.signals with
      syncs := new.foldl (fun t k => tabPut t k { started := s.time.dt }) kept } }
  s.refreshSubs (remoteNeeds need)

/-- Schedule a command, and start the synchronisers that it takes (R146). -/
def State.scheduleSync (s : State) (c : Ctx) (opcode : Nat) (kind : Point) (g : Nat) (args : Bytes)
    (charges : List Charge) : Answer :=
  let a := s.schedule c opcode kind g args charges (s.fits charges)
  { a with state := a.state.refreshSyncs }

/-! ## Fences -/

/-- The unit behind a source identifier is fenced (R531). -/
def State.sourceFenced (s : State) (id : Nat) : Bool :=
  let i := idx id
  match cls id with
  | 0 => s.fenced 1 i
  | 2 => (List.range (s.pipe i).gang).any fun k => s.pipeDown (i + k)
  | 3 => s.canvasDown i
  | 4 => match s.dec i with | some d => d.cores.any (s.fenced 5) | none => false
  | _ => false

/-- The unit behind a destination identifier is fenced (R531). -/
def State.destFenced (s : State) (id : Nat) : Bool :=
  let i := idx id
  match cls id with
  | 0 => s.fenced 1 i
  | 2 => (List.range (s.pipe i).gang).any fun k => s.pipeDown (i + k)
  | 3 => s.canvasDown (i / 4)
  | 4 => match s.enc i with | some e => e.cores.any (s.fenced 5) | none => false
  | _ => false

/-! ## Tally -/

/-- The tally of a source through at most n further units (R175). -/
def State.tallyOf (s : State) (n src : Nat) : Nat :=
  s.routing.dests.foldl (fun t e =>
    if e.2.source ≠ src then t
    else
      let own := max t e.2.tally
      match n with
      | 0 => own
      | m + 1 =>
        match cls e.1 with
        | 2 => max own (s.tallyOf m (0x2000 + idx e.1))
        | 3 => max own (s.tallyOf m (0x3000 + idx e.1 / 4))
        | _ => own) 0

/-- The tally of a source: inheritance runs through at most 4 units (R175). -/
def State.tally (s : State) (src : Nat) : Nat := s.tallyOf 4 src

/-- Raise TALLY_CHANGED once for each source whose tally changed (R175). -/
def State.tellTallies (s : State) : State :=
  let srcs := ((s.routing.dests.map fun e => e.2.source) ++ s.routing.told.map (·.1)).eraseDups
  srcs.foldl (fun s src =>
    let v := s.tally src
    if v = tabGet s.routing.told src 0 then s
    else ({ s with routing := { s.routing with told := tabPut s.routing.told src v } }).raise .tallyChanged
      (srcSource src) v) s

/-! ## Entries of the device's own decisions -/

/-- A decision or device action that the device makes by itself is journalled, or logged for the new
firmware while a swap runs (R97, R114, R115). -/
def State.logOwn (s : State) (e : Entry) : State :=
  if s.journal.swapping then
    if s.journal.decisionLog.length < 4096 then
      { s with journal := { s.journal with decisionLog := s.journal.decisionLog ++ [e] } }
    else { s with journal := { s.journal with decisionsLost := s.journal.decisionsLost + 1 } }
  else s.log e

/-- A DEVICE entry of the device's own action. -/
def State.logAction (s : State) (action : Nat) (args : Bytes) (standing : Bool := false) : State :=
  s.logOwn (deviceEntry s.time.dt action args standing)

/-! ## Routes -/

/-- The destination's audio association follows its picture (R169). -/
def followAudio (x : Dest) (src : Nat) (noFollow : Bool) : Nat := if noFollow then x.audio else src

/-- A rule meets a host route of its destination (R181): a route to a candidate makes it current with
fresh counts and ends a suspension; any other, or the lane path, suspends it. -/
def Rule.meetRoute (r : Rule) (src : Nat) (lane : Bool) : Rule :=
  if !lane && r.cands.any fun c => c.source == src then
    { r with suspended := false, decided := none
             cands := r.cands.map fun c => if c.source = src then { c with counts := [0, 0, 0, 0, 0, 0] } else c }
  else { r with suspended := true, decided := none }

/-- The rule of a destination meets a host route, with WATCH_SUSPENDED on entry (R181). -/
def State.ruleMeets (s : State) (d src : Nat) (lane : Bool) : State :=
  match s.rule d with
  | none => s
  | some r =>
    let r' := r.meetRoute src lane
    let s' := s.setRule d r'
    if r'.suspended && !r.suspended then
      s'.raiseAt .watchSuspended (srcDestination d) (s.destGroup d) else s'

/-- A Nightlight pass still drives a destination (R421). -/
def State.passed (s : State) (d : Nat) : Bool := s.boot.passes.any fun p => p.record.dest == d && p.live

/-- A destination's pass ends. -/
def State.endPass (s : State) (d : Nat) : State :=
  { s with boot := { s.boot with passes := s.boot.passes.filter fun p => p.record.dest != d } }

/-- Put a source on a destination (R163, R164, R168): a lane switch, a change of path and a route that cancels an adoption
(R423) are hot cuts. The watch decision's own switch does not meet the rule again. -/
def State.putRoute (s : State) (d src : Nat) (lane noFollow : Bool) : State :=
  let x := s.dest d
  let cut := lane || (x.lane && !lane) || s.passed d
  let s := s.endPass d
  let s := s.setDest d { x with
    source := src, lane, noFollow, laneLoss := false, hotCut := x.hotCut || cut
    audio := followAudio x src noFollow }
  let s := if cut then s.raiseAt .routeHotCut (srcDestination d) (s.destGroup d) else s
  let s := if lane || noFollow then s else s.followRoute d src
  if cls d = 5 then
    let p := s.panel (idx d)
    s.setPanel (idx d) { p with oweActive := p.oweActive || p.state == .stretched
                                state := if p.state = .stretched then .active else p.state, still := 0 }
  else s

/-- One route entry takes effect (R171). -/
def applyRoute (p : Bytes) (s : State) : State :=
  let d := u16 p 0
  let lane := u8 p 4 == 1
  (s.putRoute d (u16 p 2) lane (bit (u8 p 5) 0)).ruleMeets d (u16 p 2) lane

/-- The 8-byte route entries of an argument area. -/
def routeEntries (p : Bytes) : List Bytes :=
  (List.range (p.length / 8)).map fun i => slice p (8 * i) 8

/-- A route or a salvo's part takes effect: every entry, then synchronisers and tallies (R171, R172). -/
def applyRoutes (p : Bytes) (s : State) : State :=
  ((routeEntries p).foldl (fun s e => applyRoute e s) s).refreshSyncs.tellTallies

/-! ## Destination settings -/

/-- The fine offset, loss behaviour and tally class of DESTINATION_CONFIGURE take effect (R158). -/
def applyDestSettings (p : Bytes) (s : State) : State :=
  let d := u16 p 0
  let x := s.dest d
  (s.setDest d { x with fine := u32 p 4, passLoss := u8 p 3 == 1, tally := u8 p 8 }).tellTallies

/-- The change of timing group takes effect (R159): a seam flagged HOT_CUT, synchronisers exchanged. -/
def applyDestGroup (p : Bytes) (s : State) : State :=
  let d := u16 p 0
  let g := u8 p 2
  let x := s.dest d
  ((s.setDest d { x with tg := g, hotCut := true }).raiseAt .routeHotCut (srcDestination d) g).refreshSyncs

/-! ## Watch conditions -/

/-- The fields of WATCH_RULE_SET with their defaults (R176). -/
def ruleMask (p : Bytes) : Nat := u8 p 12
def ruleReturn (p : Bytes) : Bool := u8 p 13 == 1
def ruleReturnHold (p : Bytes) : Nat := let v := u16 p 14; if v = 0 then 250 else v
def ruleHold (p : Bytes) (k : Nat) : Nat :=
  let v := u16 p (16 + 2 * k)
  if v = 0 then [1, 50, 50, 150, 1, 1].getD k 1 else v
def ruleFrozen (p : Bytes) : Nat := u16 p 28
def ruleBlackMean (p : Bytes) : Nat := let v := u16 p 30; if v = 0 then 70 else v
def ruleBlackPeak (p : Bytes) : Nat := let v := u16 p 32; if v = 0 then 100 else v
def ruleSilence (p : Bytes) : Int := let v := i16 p 34; if v = 0 then -60 else v
def ruleChannels (p : Bytes) : Nat := let v := u16 p 36; if v = 0 then 3 else v
def ruleCrc (p : Bytes) : Nat := let v := u16 p 38; if v = 0 then 10 else v
def ruleCrcWindow (p : Bytes) : Nat := let v := u16 p 40; if v = 0 then 60 else v

/-- A channel is silent (R178): digital zero at every level; a non-audio channel never. -/
def Level.silent (l : Level) (dbfs : Int) : Bool :=
  match l with
  | .zero => true
  | .rms h => decide (h ≤ dbfs * 100)
  | .nonAudio => false

/-- The unit of a source is fenced or stopped (R178). -/
def State.sourceStopped (s : State) (src : Nat) : Bool :=
  s.sourceFenced src || match cls src with
    | 4 => (match s.dec (idx src) with | some d => d.state == .stopped | none => false)
    | _ => false

/-- The association of a source carries house silence (R178): the source is in LOSS, or a disabled
generator. -/
def State.houseSilent (s : State) (src : Nat) : Bool :=
  (s.inLoss src && decide (cls src ≤ 1)) || (cls src == 5 && !(s.gen (idx src)).enabled)

/-- Condition k is present on a source at an evaluation (R178). -/
def State.conditionPresent (s : State) (p : Bytes) (src k : Nat) : Bool :=
  if src = 0xF000 then false
  else
    let i := s.input src
    match k with
    | 0 => s.inLoss src || s.sourceStopped src
    | 1 => match i.picture with | some m => decide (m.diff ≤ ruleFrozen p * 16) | none => false
    | 2 => match i.picture with
      | some m => decide (m.mean ≤ ruleBlackMean p * 256) && decide (m.peak ≤ ruleBlackPeak p)
      | none => false
    | 3 =>
      s.houseSilent src || match i.picture with
        | some m => !m.levels.isEmpty && (List.range 16).all fun c =>
            !bit (ruleChannels p) c || match m.levels[c]? with
              | some l => Level.silent l (ruleSilence p)
              | none => true
        | none => false
    | 4 =>
      (cls src == 0 || (cls src == 1 && (s.rx (idx src)).kind == 4))
        && decide (ruleCrc p ≤ (i.errRun.take (ruleCrcWindow p)).sum)
    | 5 => cls src == 1 && (s.rx (idx src)).legCount == 2 && (s.rx (idx src)).legs.any (·.lost)
    | _ => false

/-- The conditions present on a source, as the mask of R176. -/
def State.presentMask (s : State) (p : Bytes) (src : Nat) : Nat :=
  ((List.range 6).filter fun k => s.conditionPresent p src k).foldl (fun m k => m + 2 ^ k) 0

/-- A candidate exists (R179). -/
def State.candidateExists (s : State) (src : Nat) : Bool := src == 0xF000 || s.sourceOk src

/-- One evaluation moves a candidate's counts (R179). -/
def State.evalCandidate (s : State) (p : Bytes) (c : Watched) : Watched :=
  let m := s.presentMask p c.source
  let ok := s.candidateExists c.source && !s.sourceFenced c.source
    && !((List.range 6).any fun k => bit (ruleMask p) k && bit m k)
  { c with present := m, healthy := if ok then c.healthy + 1 else 0
           counts := (List.range 6).map fun k => if bit m k then c.counts.getD k 0 + 1 else 0 }

/-- The lowest enabled condition that is active on a candidate (R97, R179). -/
def activeCondition (p : Bytes) (c : Watched) : Option Nat :=
  (List.range 6).find? fun k => bit (ruleMask p) k && decide (ruleHold p k ≤ c.counts.getD k 0)

/-- What an evaluation decides (R179): nothing, a switch to a position for a condition, or no healthy
candidate. -/
inductive Verdict where
  | stay
  | switch (pos cond : Nat)
  | stuck
  deriving DecidableEq, Repr

/-- Step 3 of R179 on evaluated candidates. -/
def decide_ (p : Bytes) (cands : List Watched) (current : Nat) : Verdict :=
  let healthy (i : Nat) : Bool := match cands[i]? with
    | some c => c.source != current && decide (0 < c.healthy)
    | none => false
  match (cands.find? fun c => c.source == current).bind (activeCondition p) with
  | some k =>
    match (List.range 4).find? healthy with
    | some i => .switch i k
    | none => .stuck
  | none =>
    if ruleReturn p && (match cands[0]? with
        | some c => c.source != current && decide (ruleReturnHold p ≤ c.healthy)
        | none => false) then .switch 0 0x80
    else .stay

/-- The route commands of a destination that this Dusk line freezes: line S of F + 1 (R179). -/
def State.frozenRoute (s : State) (d g f : Nat) : Option (Nat × Bool) :=
  let es := s.ccp.schedule.filter fun e =>
    (e.opcode == 0x0401 || e.opcode == 0x0402) && e.effect.tg == g && e.effect.frame == f + 1 && e.kind == 0
  let ps := (es.flatMap fun e => routeEntries e.args).filter fun p => u16 p 0 == d
  (ps.getLast?).map fun p => (u16 p 2, u8 p 4 == 1)

/-- The evaluation of one rule at line D of frame F of its destination's group (R179, R180, R181). -/
def State.evalRule (s : State) (d : Nat) (r : Rule) (g f : Nat) : State :=
  let s := match s.frozenRoute d g f with
    | some x => s.ruleMeets d x.1 x.2
    | none => s
  let r := (s.rule d).getD r
  let current := match s.frozenRoute d g f with
    | some x => x.1
    | none => (s.dest d).source
  let cands := r.cands.map (s.evalCandidate r.cfg)
  let some_ := cands.any fun c => c.source != current && decide (0 < c.healthy)
  let r := { r with cands, noCandTold := r.noCandTold && !some_ }
  if r.suspended || (s.dest d).lane || r.decided.isSome then s.setRule d r
  else match decide_ r.cfg cands current with
    | .stay => s.setRule d r
    | .switch i k => s.setRule d { r with decided := some (i, k, f + 1) }
    | .stuck =>
      if r.noCandTold then s.setRule d r
      else (s.setRule d { r with noCandTold := true }).raiseAt .watchNoCandidate (srcDestination d) g

/-- The watch table is evaluated for a group at the end of its Dusk line (R179). -/
def State.evalRules (s : State) (g : Nat) : State :=
  let f := (s.tg g).pos.frame
  s.routing.rules.foldl (fun s e => if s.destGroup e.1 = g ∧ !s.passed e.1 then s.evalRule e.1 e.2 g f else s) s

/-- The detail of WATCH_FAILOVER and WATCH_RETURN (R180). -/
def watchDetail (src cond pos : Nat) : Nat := src + cond * 65536 + pos * 16777216

/-- The DECISION entry of a rule's switch (R97). -/
def State.decisionEntry (s : State) (d old new cond pos g : Nat) : Entry :=
  let a := le 2 d ++ le 2 old ++ le 2 new ++ le 1 cond ++ le 1 (if cond = 0x80 then 1 else 0) ++ le 1 pos
    ++ zeros 7
  { blankEntry 2 with
    dt := s.time.dt, view := 2, frame := (s.tg g).pos.frame, line := (s.tg g).pos.line, tg := g
    opcode := 0x0401, argLen := 16, args := a, outcome := 16 }

/-- A decision takes effect at line S of F + 1 (R180). -/
def State.takeDecision (s : State) (d : Nat) (r : Rule) (pos cond : Nat) : State :=
  let g := s.destGroup d
  let t := s.tg g
  let old := (s.dest d).source
  match r.cands[pos]? with
  | none => s
  | some c =>
    let s := s.setRule d { r with
      decided := none, noCandTold := false, last := some (s.time.dt, t.pos.frame, t.pos.line)
      cands := r.cands.set pos { c with counts := [0, 0, 0, 0, 0, 0], healthy := 0 } }
    let s := s.putRoute d c.source false (s.dest d).noFollow
    let s := s.raiseAt (if cond = 0x80 then .watchReturn else .watchFailover) (srcDestination d) g
      (watchDetail c.source cond pos)
    (s.logOwn (s.decisionEntry d old c.source cond pos g)).refreshSyncs.tellTallies

/-- A watch-table edit takes effect (R176, R181): counts of candidates kept go on. -/
def applyWatchRule (p : Bytes) (s : State) : State :=
  let d := u16 p 0
  if u8 p 2 = 0 then
    { s with routing := { s.routing with rules := tabDrop s.routing.rules d } }.refreshSyncs
  else
    let old := ((s.rule d).map (·.cands)).getD []
    let cands := (List.range (u8 p 3)).map fun i =>
      let src := u16 p (4 + 2 * i)
      (old.find? fun c => c.source == src).getD { source := src }
    (s.setRule d { cfg := p, cands, suspended := (s.dest d).lane }).refreshSyncs

end Sys2Proof.Machine
end

