-- ==== Sys2Proof/Machine/Routing.lean ====
section
/-! DEFINITION. The commands of the crosspoints and the watch rules (family 04): routes and salvos
(R171, R172), locks (R173), destination settings (R158), watch rules (R176), synchroniser settings (R148), test
generators (R157), and the queries; the effect of a watch decision (R180) and the lane path's loss (R162). -/

namespace Sys2Proof.Machine

/-! ## What a route names -/

/-- The quad of a lane is allocated to SDI (R161). -/
def State.sdiLane (s : State) (n : Nat) : Bool := s.present 1 n && (s.quad (n / 4)).protocol == 1

/-- A source of a stream-path route (R154, R161): a lane in an SDI quad, a receive flow of a picture kind
(R134). -/
def State.streamSource (s : State) (id : Nat) : Bool :=
  s.sourceOk id && (cls id != 0 || s.sdiLane (idx id)) && (cls id != 1 || pictureKind (s.rx (idx id)).kind)

/-- A destination of a stream-path route (R154, R161): a lane in an SDI quad, a transmit flow of a picture
or ancillary kind. -/
def State.streamDest (s : State) (id : Nat) : Bool :=
  s.destOk id && (cls id != 0 || s.sdiLane (idx id))
    && (cls id != 1 || pictureKind (s.tx (idx id)).kind || (s.tx (idx id)).kind == 3)

/-- A route entry's arguments are valid (R154, R161, R171, R239). -/
def State.routeValid (s : State) (p : Bytes) : Bool :=
  let d := u16 p 0
  let src := u16 p 2
  decide (u8 p 4 ≤ 1 ∧ u8 p 5 ≤ 1 ∧ u16 p 6 = 0) && (s.cloneOf d).isNone &&
    (if u8 p 4 = 1 then
      cls d == 0 && s.sdiLane (idx d) && cls src == 0 && s.sdiLane (idx src)
     else s.streamDest d && s.streamSource src)

/-- A test holds the unit behind an identifier (R526). -/
def State.destTested (s : State) (id : Nat) : Bool :=
  let i := idx id
  match cls id with
  | 0 => s.testHolds i
  | 2 => (List.range (s.pipe i).gang).any fun k => s.underTest 6 (s.pipeUnit (i + k))
  | 3 => s.underTest 7 (s.canvasUnit (i / 4))
  | 4 => match s.enc i with | some e => e.cores.any (s.underTest 5) | none => false
  | _ => false

/-- The quad of the destination transmits the rate of the source on the lane path (R161). A source that is
not locked has no rate that could differ. -/
def State.laneMeets (s : State) (d src : Nat) : Bool :=
  src == 0xF000 || (s.lane (idx src)).state != .up
    || (s.lane (idx src)).detFamily == b2n ((s.quad (idx d / 4)).mode == 1)

/-- What refuses an accepted route entry before capacity is looked at (R531, R174, R526, R161, R167). -/
def State.routeRefusal (s : State) (p : Bytes) : Option Nat :=
  let d := u16 p 0
  let src := u16 p 2
  if s.destFenced d || s.sourceFenced src then some stUnitFenced
  else if (s.dest d).locked then some stDestinationLocked
  else if s.destTested d then some stUnitBusy
  else if !(if u8 p 4 = 1 then s.laneMeets d src else s.compatible d src) then some stFormatMismatch
  else if !s.remoteFits src then some stNoCapacity
  else none

/-- The charges of a route entry (R165, R166). -/
def State.entryCharges (s : State) (p : Bytes) : List Charge :=
  s.routeCharges (u16 p 0) (u16 p 2) (u8 p 4 == 1) (s.destGroup (u16 p 0))

/-- The kind of effect point of a route entry (R48). -/
def routeKind (p : Bytes) : Point :=
  if u8 p 4 = 1 then .laneFreeze else if cls (u16 p 0) = 5 then .firstActive else .switchLine

/-! ## ROUTE_SET -/

/-- ROUTE_SET (R171). A lane-path route freezes in the group that the command names, TG0 by default (R163). -/
def routeSet : Cmd where
  opcode := 0x0401
  timed := true
  shape := exactly 8 [(6, 2)]
  args c s := s.routeValid c.args
  run c s :=
    match s.routeRefusal c.args with
    | some st => s.deny st
    | none =>
      let g := if u8 c.args 4 = 1 then c.req.group.toNat else s.destGroup (u16 c.args 0)
      s.scheduleSync c 0x0401 (routeKind c.args) g c.args (s.entryCharges c.args)

/-- ROUTE_SET. -/
def execRouteSet (r : Request) (s : State) : Host.Outcome State Fault Refusal := .next (routeSet.serve r s)

/-! ## SALVO -/

/-- The header and entries of a salvo: inline, or as request data (R71, R171). -/
def salvoBytes (c : Ctx) : Bytes := c.args ++ c.data

/-- The entries of a salvo. -/
def salvoEntries (c : Ctx) : List Bytes := routeEntries ((salvoBytes c).drop 8)

/-- The count of a salvo is 1 to 1,024, and its entries are as many (R171). -/
def salvoSized (c : Ctx) : Bool :=
  let b := salvoBytes c
  decide (1 ≤ u16 b 0 ∧ u16 b 0 ≤ 1024 ∧ b.length = 8 + 8 * u16 b 0) && zeroFields b [(2, 6)]

/-- The index of the first entry that fails a test. -/
def firstIndex (l : List Bytes) (f : Nat → Bytes → Bool) : Option Nat :=
  (List.range l.length).find? fun i => match l[i]? with
    | some p => f i p
    | none => false

/-- The first member whose arguments are not valid, a repeated destination included (R172). -/
def salvoBad (c : Ctx) (s : State) : Option Nat :=
  let es := salvoEntries c
  firstIndex es fun i p => !s.routeValid p || (es.take i).any fun q => u16 q 0 == u16 p 0

/-- One part of a salvo: its effect, its kind and its entries. -/
structure SalvoPart where
  effect : Effect
  kind : Point
  entries : List Bytes

/-- The effect of an entry when the salvo takes place in a frame of its group (R49): in that frame; in
another group, at the first point at or after the DT of that frame's switching line; on the lane path,
frozen at the Dusk line before. -/
def State.salvoEffect (s : State) (g f : Nat) (p : Bytes) : Effect :=
  let t := s.tg g
  let k := routeKind p
  if u8 p 4 = 1 then ⟨g, f - 1, t.duskLine⟩
  else
    let h := s.destGroup (u16 p 0)
    let th := s.tg h
    let e := if h = g then
        (match k with
         | .firstActive => (f, Machine.firstActive t.raster)
         | _ => (f, Machine.switchLine t.raster))
      else k.governedBy th (k.frameAtDt th (t.dtOf f (Machine.switchLine t.raster)))
    ⟨h, e.1, e.2⟩

/-- The governing Dusk line of an effect has not passed in its group (R47). -/
def State.armable (s : State) (k : Point) (e : Effect) : Bool :=
  let t := s.tg e.tg
  let f := match k with
    | .switchLine => e.frame - 1
    | _ => e.frame
  posLe t.pos.frame t.pos.line f t.duskLine

/-- The first of the four frames from `f` at which every member can be armed (R49). -/
def State.salvoFrame (s : State) (g f : Nat) (es : List Bytes) : Nat :=
  (([f, f + 1, f + 2, f + 3] : List Nat).find? fun x =>
    es.all fun p => s.armable (routeKind p) (s.salvoEffect g x p)).getD f

/-- Add an entry to the part of its effect point. -/
def addPart (l : List SalvoPart) (e : Effect) (k : Point) (p : Bytes) : List SalvoPart :=
  if l.any fun x => x.effect == e && x.kind == k then
    l.map fun x => if x.effect = e ∧ x.kind = k then { x with entries := x.entries ++ [p] } else x
  else l ++ [⟨e, k, [p]⟩]

/-- The DT of an effect point (R36). -/
def State.effectDt (s : State) (e : Effect) : Int := (s.tg e.tg).dtOf e.frame e.line

/-- Insert a part after those that are not later. -/
def State.insertPart (s : State) (x : SalvoPart) : List SalvoPart → List SalvoPart
  | [] => [x]
  | y :: r => if s.effectDt x.effect < s.effectDt y.effect then x :: y :: r else y :: s.insertPart x r

/-- The parts of a salvo, in the order of their effect points. -/
def State.salvoParts (s : State) (g f : Nat) (es : List Bytes) : List SalvoPart :=
  ((es.foldl (fun l p => addPart l (s.salvoEffect g f p) (routeKind p) p) []).foldl
    (fun l x => s.insertPart x l) [])

/-- The charges of a part's entries. -/
def State.partCharges (s : State) (x : SalvoPart) : List Charge := x.entries.flatMap s.entryCharges

/-- Admission of changes at several effect points together (R26, R172): the pools that fail. -/
def State.overfull (s : State) (new : List Timed) : List Nat :=
  let tl := s.timeline new
  let points := (new.map (·.dt)).eraseDups ++ ((tl.map (·.dt)).filter fun d => new.any fun x => x.dt < d)
  ((new.map (·.charge.pool)).eraseDups).filter fun p => points.any fun d =>
    let t := s.chargesAt p tl d
    !(decide (poolTotal p t ≤ s.poolLimit p) && (p != 2 || canvasesFit t))

/-- The scheduled command of one part. -/
def Ctx.sched (c : Ctx) (opcode : Nat) (k : Point) (e : Effect) (args : Bytes) (charges : List Charge)
    (status : Nat) (last : Bool) : Sched :=
  { jsn := c.jsn, opcode, view := c.req.view, session := c.session, flags := c.flags
    token := c.req.token.toNat, major := c.req.major.toNat, minor := c.req.minor.toNat, args
    effect := e, kind := k.code, status, charges, last, begun := false, atDt := none }

/-- Put scheduled parts into the schedule; the last one writes the OUTCOME. -/
def State.armParts (s : State) (c : Ctx) (opcode status : Nat) (parts : List SalvoPart) : State :=
  let n := parts.length
  let es := (List.range n).flatMap fun i => match parts[i]? with
    | some x => [c.sched opcode x.kind x.effect (x.entries.flatMap id) (s.partCharges x) status (i + 1 == n)]
    | none => []
  ({ s with ccp := { s.ccp with schedule := s.ccp.schedule ++ es } }).refreshSyncs

/-- The timing group of a salvo: the one that its header names; where that group is disabled, the group of
its first stream-path member (R49). -/
def State.salvoGroup (s : State) (c : Ctx) (es : List Bytes) : Nat :=
  if (s.tg c.req.group.toNat).enabled then c.req.group.toNat
  else match es.find? fun p => u8 p 4 == 0 with
    | some p => s.destGroup (u16 p 0)
    | none => 0

/-- The HRT of effect of a salvo: the switching line of its frame; with members on the lane path only, the Dusk line that
freezes them (R48, R49, R63). -/
def State.salvoAt (s : State) (g f : Nat) (es : List Bytes) : Effect :=
  if es.all fun p => u8 p 4 == 1 then ⟨g, f - 1, (s.tg g).duskLine⟩ else ⟨g, f, Machine.switchLine (s.tg g).raster⟩

/-- The first member that takes a charge in a pool that is overfull (R172). -/
def salvoShort (s : State) (es : List Bytes) (pools : List Nat) : Nat :=
  (firstIndex es fun _ p => (s.entryCharges p).any fun x => x.amount != 0 && pools.contains x.pool).getD 0

/-- SALVO (R49, R171, R172). -/
def salvo : Cmd where
  opcode := 0x0402
  timed := true
  dma := .optional
  shape p := decide (p.length % 8 = 0) && zeroFields p [(2, 6)]
  args c s := salvoSized c && (salvoBad c s).isNone
  badPayload c s := match salvoBad c s with
    | some i => if salvoSized c then le 2 i else []
    | none => []
  run c s :=
    let es := salvoEntries c
    match firstIndex es fun _ p => (s.routeRefusal p).isSome with
    | some i =>
      { status := ((es[i]?).bind s.routeRefusal).getD stBadArgument, payload := le 2 i, state := s }
    | none =>
      let g := s.salvoGroup c es
      let p := s.place .switchLine g c.req.atFrame.toNat c.req.atLine.toNat c.req.group.toNat (s.stampOf c.key g)
      let f := s.salvoFrame g p.effect.frame es
      let isLate := p.late || f != p.effect.frame
      if isLate && flagDiscard c.flags then s.deny stLateDiscarded
      else
        let parts := s.salvoParts g f es
        let new := parts.flatMap fun x => (s.partCharges x).map fun q => (⟨s.effectDt x.effect, q⟩ : Timed)
        let excess := s.overfull new
        if !excess.isEmpty then { status := stNoCapacity, payload := le 2 (salvoShort s es excess), state := s }
        else if 8192 ≤ s.waiting then s.deny stNoCapacity
        else
          let st := if isLate then stAppliedLate else stScheduled
          { status := st, effect := some (s.salvoAt g f es)
            state := s.armParts c 0x0402 st parts }

/-- SALVO. -/
def execSalvo (r : Request) (s : State) : Host.Outcome State Fault Refusal := .next (salvo.serve r s)

/-! ## DESTINATION_LOCK -/

/-- DESTINATION_LOCK (R173): at acceptance, standing. -/
def destinationLock : Cmd where
  opcode := 0x0403
  shape := exactly 8 [(3, 5)]
  args c s := (s.destOk (u16 c.args 0) || decide (cls (u16 c.args 0) = 4 ∧ idx (u16 c.args 0) < 32)) && decide (u8 c.args 2 ≤ 1)
  run c s :=
    let d := u16 c.args 0
    if s.destFenced d then s.deny stUnitFenced
    else (s.setDest d { s.dest d with locked := u8 c.args 2 == 1 }).done [] true

/-- DESTINATION_LOCK. -/
def execDestinationLock (r : Request) (s : State) : Host.Outcome State Fault Refusal :=
  .next (destinationLock.serve r s)

/-! ## WATCH_RULE_SET -/

/-- The candidates that a payload names. -/
def ruleCands (p : Bytes) : List Nat := (List.range (u8 p 3)).map fun i => u16 p (4 + 2 * i)

/-- A field is its default, or lies in its range. -/
def zeroOr (v lo hi : Nat) : Bool := v == 0 || decide (lo ≤ v ∧ v ≤ hi)

/-- The arguments of WATCH_RULE_SET (R176): a deletion names its destination only. -/
def ruleValid (p : Bytes) (s : State) : Bool :=
  let d := u16 p 0
  let cs := ruleCands p
  decide (cls d ≤ 5 ∧ u8 p 2 ≤ 1) && s.destOk d && (s.cloneOf d).isNone &&
  (u8 p 2 == 0 ||
    (s.streamDest d && decide (1 ≤ u8 p 3 ∧ u8 p 3 ≤ 4) && cs.eraseDups.length == cs.length && cs.all s.streamSource
      && ((List.range 4).all fun i => decide (i < u8 p 3) || u16 p (4 + 2 * i) == 0xF000)
      && decide (u8 p 12 < 64 ∧ u8 p 13 ≤ 1 ∧ u16 p 28 ≤ 256)
      && zeroOr (u16 p 30) 64 200 && zeroOr (u16 p 32) 64 400
      && (i16 p 34 == 0 || decide (-90 ≤ i16 p 34 ∧ i16 p 34 ≤ -20)) && zeroOr (u16 p 40) 1 3000))

/-- WATCH_RULE_SET (R176, R177, R181). -/
def watchRuleSet : Cmd where
  opcode := 0x0404
  timed := true
  shape := exactly 48 [(42, 6)]
  args c s := ruleValid c.args s
  run c s :=
    let p := c.args
    let d := u16 p 0
    let g := s.destGroup d
    let cs := if u8 p 2 = 1 then ruleCands p else []
    if s.destFenced d || cs.any s.sourceFenced then s.deny stUnitFenced
    else if (s.dest d).locked then s.deny stDestinationLocked
    else if cs.any fun x => !s.compatible d x then s.deny stFormatMismatch
    else s.scheduleSync c 0x0404 .dusk g p (s.ruleCharges d g cs)

/-- WATCH_RULE_SET. -/
def execWatchRuleSet (r : Request) (s : State) : Host.Outcome State Fault Refusal :=
  .next (watchRuleSet.serve r s)

/-! ## SYNC_CONFIGURE -/

/-- The offset lies within half a frame period of an enabled group's format; for a disabled group it is not
checked (R147). -/
def offsetOk (t : Tg) (o : Int) : Bool :=
  let n : Int := totalLines t.raster * samplesPerLine t.raster t.rate
  !t.enabled || decide (-n ≤ 2 * o ∧ 2 * o < n)

/-- A source of several links cannot be passed through (R124, R147). -/
def State.multiLink (s : State) (src : Nat) : Bool :=
  cls src == 0 && !(usedLinks (s.lane (idx src)).rxLinks).isEmpty

/-- The arguments of SYNC_CONFIGURE (R147, R148). -/
def syncValid (c : Ctx) (s : State) : Bool :=
  let p := c.args
  let g := u8 p 2
  s.sourceOk (u16 p 0) && cls (u16 p 0) != 15 && decide (g < 8 ∧ u8 p 3 ≤ 2) && c.atNames g
    && !(u8 p 3 == 2 && s.multiLink (u16 p 0)) && offsetOk (s.tg g) (i32 p 4) && zeroOr (u16 p 8) 4 128

/-- The settings of SYNC_CONFIGURE take effect (R148). -/
def applySync (p : Bytes) (s : State) : State :=
  let x : SyncSet := { loss := u8 p 3, offset := i32 p 4, guard := if u16 p 8 = 0 then 16 else u16 p 8
                       freeze := u16 p 10 }
  { s with signals := { s.signals with
      settings := tabPut s.signals.settings (pairKey (u16 p 0) (u8 p 2)) x } }

/-- SYNC_CONFIGURE (R148). A disabled group has no frame: its settings are stored at acceptance (R147). -/
def syncConfigure : Cmd where
  opcode := 0x0405
  timed := true
  shape := exactly 16 [(12, 4)]
  args := syncValid
  run c s :=
    let p := c.args
    if s.sourceFenced (u16 p 0) then s.deny stUnitFenced
    else if (s.tg (u8 p 2)).enabled then
      s.schedule c 0x0405 .frameStart (u8 p 2) p [] (fun _ => true)
    else (applySync p s).done [] true

/-- SYNC_CONFIGURE. -/
def execSyncConfigure (r : Request) (s : State) : Host.Outcome State Fault Refusal :=
  .next (syncConfigure.serve r s)

/-! ## DESTINATION_CONFIGURE -/

/-- The arguments of DESTINATION_CONFIGURE (R158). -/
def destValid (p : Bytes) (s : State) : Bool :=
  let d := u16 p 0
  let g := u8 p 2
  let t := s.tg g
  s.destOk d && decide (cls d ≤ 5 ∧ u8 p 8 ≤ 2) && (if cls d = 0 then decide (u8 p 3 ≤ 1) else u8 p 3 == 0) &&
  (if cls d ≤ 1 then decide (g < 8) && t.enabled && decide (u32 p 4 < samplesPerLine t.raster t.rate)
   else g == 0xFF && u32 p 4 == 0)

/-- The charges of a destination's route and rule once it lies in another group (R159). -/
def State.moveCharges (s : State) (d g : Nat) : List Charge :=
  let x := s.dest d
  s.routeCharges d x.source x.lane g
    ++ (match s.rule d with
        | some r => s.ruleCharges d g (r.cands.map (·.source))
        | none => [])

/-- DESTINATION_CONFIGURE (R158, R159): the group at a frame start of the new group, the rest at the
destination's next switching line. -/
def destinationConfigure : Cmd where
  opcode := 0x0406
  timed := true
  shape := exactly 12 [(9, 3)]
  args c s := destValid c.args s
  run c s :=
    let p := c.args
    let d := u16 p 0
    let g := s.destGroup d
    let h := u8 p 2
    if s.destFenced d then s.deny stUnitFenced
    else if (s.dest d).locked then s.deny stDestinationLocked
    else if 1 < cls d ∨ h = g then s.schedule c 0x0406 .switchLine g p [] (fun _ => true)
    else
      let at_ (k : Point) (g : Nat) : Placed :=
        s.place k g c.req.atFrame.toNat c.req.atLine.toNat c.req.group.toNat (s.stampOf c.key g)
      let a := at_ .switchLine g
      let b := at_ .frameStart h
      let isLate := a.late || b.late
      if isLate && flagDiscard c.flags then s.deny stLateDiscarded
      else if 8192 ≤ s.waiting || !s.fits (s.moveCharges d h) b.effect then s.deny stNoCapacity
      else
        let st := if isLate then stAppliedLate else stScheduled
        let first := decide (s.effectDt a.effect ≤ s.effectDt b.effect)
        let x := c.sched 0x0406 .switchLine a.effect p [] st (!first)
        let y := c.sched 0x0406 .frameStart b.effect p (s.moveCharges d h) st first
        let t := s.dest d
        let groupOnly := t.fine == u32 p 4 && t.passLoss == (u8 p 3 == 1) && t.tally == u8 p 8
        { status := st, effect := some (if groupOnly then b.effect else a.effect)
          state := ({ s with ccp := { s.ccp with
            schedule := s.ccp.schedule ++ (if first then [x, y] else [y, x]) } }).refreshSyncs }

/-- DESTINATION_CONFIGURE. -/
def execDestinationConfigure (r : Request) (s : State) : Host.Outcome State Fault Refusal :=
  .next (destinationConfigure.serve r s)

/-! ## TEST_GENERATOR_SET -/

/-- A generator's pattern and colour are valid (R156, R157). -/
def patternOk (p : Bytes) : Bool :=
  let v (i : Nat) : Nat := u16 p (6 + 2 * i)
  decide (u8 p 5 ≤ 4) && if u8 p 5 = 3 then ([0, 1, 2] : List Nat).all fun i => decide (4 ≤ v i ∧ v i ≤ 1019)
    else ([0, 1, 2] : List Nat).all fun i => v i == 0

/-- The arguments of TEST_GENERATOR_SET (R157): an enabled generator has the format of its enabled group. -/
def generatorValid (c : Ctx) (s : State) : Bool :=
  let p := c.args
  let t := s.tg (u8 p 2)
  decide (u8 p 0 < 8 ∧ u8 p 1 ≤ 1 ∧ u8 p 2 < 8) && patternOk p && c.atNames (u8 p 2)
    && (u8 p 1 == 0 || (t.enabled && t.raster == u8 p 3 && t.rate == u8 p 4))

/-- A source is routed or is a candidate of a rule (R157). -/
def State.sourceUsed (s : State) (id : Nat) : Bool :=
  (s.routing.dests.any fun e => e.2.source == id) || s.routing.rules.any fun e => e.2.cands.any fun w => w.source == id

/-- The pattern and colour of TEST_GENERATOR_SET take effect (R157). -/
def applyPattern (p : Bytes) (s : State) : State :=
  let n := u8 p 0
  s.setGen n { s.gen n with
    pattern := u8 p 5, colour := [u16 p 6, u16 p 8, u16 p 10], shown := (s.gen n).enabled }

/-- TEST_GENERATOR_SET (R157): a disable and a change of group, raster or rate at acceptance; a change of pattern or colour,
and the pattern of a generator that is enabled, at the first active line. -/
def testGeneratorSet : Cmd where
  opcode := 0x0407
  timed := true
  shape := exactly 16 [(12, 4)]
  args := generatorValid
  run c s :=
    let p := c.args
    let n := u8 p 0
    let x := s.gen n
    let used := s.sourceUsed (0x5000 + n)
    let same := x.tg == u8 p 2 && x.raster == u8 p 3 && x.rate == u8 p 4
    let y := { x with enabled := u8 p 1 == 1, tg := u8 p 2, raster := u8 p 3, rate := u8 p 4 }
    if u8 p 1 = 0 then
      if used && x.enabled then s.deny stUnitBusy
      else (s.setGen n { y with
        pattern := u8 p 5, colour := [u16 p 6, u16 p 8, u16 p 10], shown := false }).done [] true (s.effectNow (u8 p 2))
    else if used && !same then s.deny stUnitBusy
    else if x.enabled && x.pattern == u8 p 5 && x.colour == [u16 p 6, u16 p 8, u16 p 10]
        && !s.waitsOn 0x0407 (fun q => u8 q 0 == n) then
      (s.setGen n { y with shown := x.shown && same }).done [] true (s.effectNow (u8 p 2))
    else (s.setGen n { y with shown := x.shown && x.enabled && same }).schedule c 0x0407 .firstActive (u8 p 2) p []
      (fun _ => true)

/-- TEST_GENERATOR_SET. -/
def execTestGeneratorSet (r : Request) (s : State) : Host.Outcome State Fault Refusal :=
  .next (testGeneratorSet.serve r s)

/-! ## Queries -/

/-- Two-bit fields of n values, padded to a multiple of 4 bytes (R175). -/
def twoBits (v : Nat → Nat) (n : Nat) : Bytes :=
  let byte (k : Nat) : Nat :=
    (([0, 1, 2, 3] : List Nat).map fun j => if 4 * k + j < n then v (4 * k + j) % 4 * 4 ^ j else 0).sum
  (List.range (4 * ceilDiv n 16)).map fun k => BitVec.ofNat 8 (byte k)

/-- The areas of TALLY_READ (R175): sources, then destinations, each a class and a count. -/
def tallyBytes (s : State) : Bytes :=
  let src (c n : Nat) : Bytes := twoBits (fun i => s.tally (c * 4096 + i)) n
  let dst (c n : Nat) : Bytes := twoBits (fun i => (s.dest (c * 4096 + i)).tally) n
  src 0 144 ++ src 1 512 ++ src 2 32 ++ src 3 16 ++ src 4 16 ++ src 5 8 ++ src 6 1024 ++ src 15 1
    ++ dst 0 144 ++ dst 1 512 ++ dst 2 32 ++ dst 3 64 ++ dst 4 32 ++ dst 5 2 ++ dst 6 256

/-- TALLY_READ (R175). -/
def tallyRead : Cmd where
  opcode := 0x0480
  run _ s := s.done (tallyBytes s)

/-- TALLY_READ. -/
def execTallyRead (r : Request) (s : State) : Host.Outcome State Fault Refusal := .next (tallyRead.serve r s)

/-- The state of a watch rule (R182): 0 ACTIVE, 1 SUSPENDED, 2 NO_CANDIDATE. -/
def Rule.status (r : Rule) : Nat := if r.suspended then 1 else if r.noCandTold then 2 else 0

/-- What ROUTE_READ gives of a destination (R171). -/
def routeValues (s : State) (d : Nat) : List Int :=
  let x := s.dest d
  [d, x.source, b2n x.lane, b2n x.noFollow, b2n x.locked, x.tally,
   match s.rule d with | some r => r.status + 1 | none => 0]

/-- ROUTE_READ (R171): the request lists destinations (log entries 17, 20). -/
def routeRead : Cmd where
  opcode := 0x0481
  shape p := decide (p.length % 2 = 0)
  args c s := (List.range (c.args.length / 2)).all fun i => s.destOk (u16 c.args (2 * i))
  run c s := s.done (Config.layout 0x0481
    ((List.range (c.args.length / 2)).flatMap fun i => routeValues s (u16 c.args (2 * i))))

/-- ROUTE_READ. -/
def execRouteRead (r : Request) (s : State) : Host.Outcome State Fault Refusal := .next (routeRead.serve r s)

/-- The conditions active on a candidate (R179, R182). -/
def activeMask (p : Bytes) (c : Watched) : Nat :=
  ((List.range 6).filter fun k => decide (ruleHold p k ≤ c.counts.getD k 0)).foldl (fun m k => m + 2 ^ k) 0

/-- What WATCH_STATUS gives of a rule (R182). -/
def watchValues (s : State) (d : Nat) (r : Rule) : List Int :=
  let l := r.last.getD (0, 0, 0)
  [(d : Int), (r.status : Int), ((s.dest d).source : Int), (l.1 : Int), (l.2.1 : Int), (l.2.2 : Int)]
    ++ r.cands.flatMap fun c =>
      let v : List Nat := [c.source, c.present, activeMask r.cfg c, c.healthy] ++ c.counts
      v.map Int.ofNat

/-- WATCH_STATUS (R182). -/
def watchStatus : Cmd where
  opcode := 0x0482
  run _ s := s.done (Config.layout 0x0482 (s.routing.rules.flatMap fun e => watchValues s e.1 e.2))

/-- WATCH_STATUS. -/
def execWatchStatus (r : Request) (s : State) : Host.Outcome State Fault Refusal := .next (watchStatus.serve r s)

/-! ## Happenings -/

/-- A watch decision switches its destination (R180). -/
def watchDecisionEffect (d : Nat) (s : State) : State :=
  match s.rule d with
  | none => s
  | some r => match r.decided with
    | none => s
    | some (pos, cond, _) => s.takeDecision d r pos cond

/-- WATCH_DECISION_EFFECT. -/
def execWatchDecisionEffect (d : Nat) (s : State) : Host.Outcome State Fault Refusal :=
  .next (watchDecisionEffect d s)

/-- A destination that its lane path feeds loses its source and takes its loss behaviour (R162). -/
def lanePassLoss (n : Nat) (s : State) : State :=
  let x := s.dest n
  if n < 144 ∧ x.lane then s.setDest n { x with laneLoss := true } else s

/-- LANE_PASS_LOSS. -/
def execLanePassLoss (n : Nat) (s : State) : Host.Outcome State Fault Refusal := .next (lanePassLoss n s)

/-- A destination on the lane path passes its source again (R162). -/
def lanePassResume (n : Nat) (s : State) : State :=
  let x := s.dest n
  if n < 144 ∧ x.lane then s.setDest n { x with laneLoss := false } else s

/-- LANE_PASS_RESUME. -/
def execLanePassResume (n : Nat) (s : State) : Host.Outcome State Fault Refusal := .next (lanePassResume n s)

end Sys2Proof.Machine
end

