-- ==== Sys2Proof/Machine/Audio.lean ====
section
/-! DEFINITION. The audio router (R326 to R351): its commands, the 1 ms block, synchronism, slips, non-audio payload and
the changes at zero crossings. -/

namespace Sys2Proof.Machine

/-! ## Arithmetic of R330 and R356 -/

/-- Saturation to n bits. -/
def saturate (n : Nat) (v : Int) : Int := max (-(2 ^ (n - 1) : Int)) (min (2 ^ (n - 1) - 1 : Int) v)

/-- A sample through a cross-point (R330). -/
def crossSample (x : Cross) (v : Int) : Int := if x.mute then 0 else if x.gain = 0 then v else Config.gained v x.gain

/-- A 24-bit sample reduced to D bits: rounded half up, saturated, no dither (R330, R356). -/
def reduceBits (d : Nat) (v : Int) : Int :=
  if d = 24 then v else saturate d ((v + 2 ^ (23 - d)) / 2 ^ (24 - d))

/-- A received sample of D bits as a signed 24-bit value (R356). -/
def expandBits (d : Nat) (v : Int) : Int := v * 2 ^ (24 - d)

/-- The bits of a destination's samples (R345, R356). -/
def State.destBits (s : State) (d : Nat) : Nat :=
  match cls d with
  | 1 => let f := s.tx (idx d)
    if f.kind == 1 && u8 f.cfg 100 == 1 then 16 else 24
  | 7 => u8 (s.tdm (idx d)).cfg 5
  | _ => 24

/-! ## AUDIO_ROUTE_SET, AUDIO_GAIN_SET -/

/-- The header and entries of an audio route command: inline, or as request data (R71, R329). -/
def audioBytes (c : Ctx) : Bytes := c.args ++ c.data

/-- The 16-byte entries. -/
def audioEntries (b : Bytes) : List Bytes := (List.range ((b.length - 8) / 16)).map fun i => slice b (8 + 16 * i) 16

/-- An entry of AUDIO_ROUTE_SET is valid (R327, R329). -/
def audioEntryOk (p : Bytes) (s : State) : Bool :=
  let d := u16 p 0
  s.audioDestOk d && decide (1 ≤ u8 p 2 ∧ u8 p 2 ≤ 64 ∧ u8 p 2 ≤ s.destChannels d ∧ u8 p 3 ≤ 3)
    && s.audioSourceOk (u16 p 4) && decide (1 ≤ u8 p 6 ∧ u8 p 6 ≤ 64 ∧ u8 p 7 < 4)
    && decide (-9600 ≤ i16 p 8 ∧ i16 p 8 ≤ 1200) && zeroAt p 10 6

/-- An entry of AUDIO_GAIN_SET is valid: its cross-point exists (R329). -/
def gainEntryOk (p : Bytes) (s : State) : Bool :=
  let d := u16 p 0
  s.audioDestOk d && decide (1 ≤ u8 p 2 ∧ u8 p 2 ≤ 64 ∧ u8 p 3 ≤ 3) && ((s.crossesOf d (u8 p 2)).any fun x => x.1 == u8 p 3)
    && zeroAt p 4 3 && decide (u8 p 7 ≤ 1) && decide (-9600 ≤ i16 p 8 ∧ i16 p 8 ≤ 1200) && zeroAt p 10 6

/-- The header of R329 fits its entries. -/
def audioHeaderOk (b : Bytes) : Bool :=
  let n := u16 b 0
  decide (1 ≤ n ∧ n ≤ 1024 ∧ b.length = 8 + 16 * n) && decide (u8 b 2 < 2) && zeroAt b 3 5

/-- The first entry that fails a check. -/
def firstBadEntry (b : Bytes) (ok : Bytes → Bool) : Option Nat :=
  if audioHeaderOk b then firstIndex (audioEntries b) fun _ p => !ok p else none

/-- The charges of an entry (R328). -/
def audioCharges (p : Bytes) : List Charge :=
  let k := crossKey (u16 p 0) (u8 p 2) (u8 p 3)
  let on := !bit (u8 p 7) 1
  [⟨109, k, if on then chanKey (u16 p 4) (u8 p 6) + 1 else 0⟩, ⟨111, k, b2n on⟩]

/-- The position at which an entry takes effect (R46, R48, R329). -/
def State.audioPlace (s : State) (c : Ctx) (p : Bytes) : Placed :=
  let g := s.audioGroup (u16 p 0)
  s.place .anyLine g c.req.atFrame.toNat c.req.atLine.toNat c.req.group.toNat (s.stampOf c.key g)

/-- Arm the parts of an audio command, one for each effect point, in the order of their DTs (R97, R329). -/
def State.armAudio (s : State) (c : Ctx) (opcode : Nat) (b : Bytes) (charge : Bytes → List Charge) : Answer :=
  let es := audioEntries b
  let isLate := es.any fun p => (s.audioPlace c p).late
  let parts := (es.foldl (fun l p => addPart l (s.audioPlace c p).effect .anyLine p) []).foldl (fun l x => s.insertPart x l) []
  let timed := parts.flatMap fun x =>
    x.entries.flatMap fun p => (charge p).map fun k => (⟨s.effectDt x.effect, k⟩ : Timed)
  if isLate && flagDiscard c.flags then s.deny stLateDiscarded
  else if 8192 ≤ s.waiting then s.deny stNoCapacity
  else if !(s.overfull timed).isEmpty then
    { s.deny stNoCapacity with payload := le 2 ((firstIndex es fun _ p => !(charge p).isEmpty).getD 0) }
  else
    let st := if isLate then stAppliedLate else stScheduled
    let n := parts.length
    let new := (List.range n).flatMap fun i => match parts[i]? with
      | some x => [c.sched opcode .anyLine x.effect (le 1 (u8 b 2) ++ x.entries.flatten) (x.entries.flatMap charge) st
          (i + 1 == n)]
      | none => []
    { status := st, effect := (parts.getLast?).map (·.effect)
      state := { s with ccp := { s.ccp with schedule := s.ccp.schedule ++ new } } }

/-- AUDIO_ROUTE_SET (R328, R329). -/
def audioRouteSet : Cmd where
  opcode := 0x0801
  timed := true
  dma := .optional
  shape := fun _ => true
  args c s :=
    let b := audioBytes c
    audioHeaderOk b && (firstBadEntry b fun p => audioEntryOk p s).isNone
  badPayload c s := match firstBadEntry (audioBytes c) fun p => audioEntryOk p s with
    | some i => le 2 i
    | none => []
  run c s :=
    let b := audioBytes c
    match firstIndex (audioEntries b) fun _ p => s.destFenced (u16 p 0) || s.sourceFenced (u16 p 4) with
    | some i => { s.deny stUnitFenced with payload := le 2 i }
    | none => s.armAudio c 0x0801 b audioCharges

/-- AUDIO_ROUTE_SET. -/
def execAudioRouteSet (r : Request) (s : State) : Host.Outcome State Fault Refusal := .next (audioRouteSet.serve r s)

/-- AUDIO_GAIN_SET (R329). -/
def audioGainSet : Cmd where
  opcode := 0x0802
  timed := true
  dma := .optional
  shape := fun _ => true
  args c s :=
    let b := audioBytes c
    audioHeaderOk b && (firstBadEntry b fun p => gainEntryOk p s).isNone
  badPayload c s := match firstBadEntry (audioBytes c) fun p => gainEntryOk p s with
    | some i => le 2 i
    | none => []
  run c s :=
    let b := audioBytes c
    match firstIndex (audioEntries b) fun _ p => s.destFenced (u16 p 0) with
    | some i => { s.deny stUnitFenced with payload := le 2 i }
    | none => s.armAudio c 0x0802 b (fun _ => [])

/-- AUDIO_GAIN_SET. -/
def execAudioGainSet (r : Request) (s : State) : Host.Outcome State Fault Refusal := .next (audioGainSet.serve r s)

/-- The change that an entry makes to its channel: a cross-point set or removed, or the gain and MUTE of one that
exists. -/
def State.entryChange (s : State) (gainOnly : Bool) (p : Bytes) : List (Nat × Option Cross) :=
  let k := u8 p 3
  let mute := bit (u8 p 7) 0
  if gainOnly then
    match (s.crossesOf (u16 p 0) (u8 p 2)).find? fun x => x.1 == k with
    | some x => [(k, some { x.2 with gain := i16 p 8, mute })]
    | none => []
  else if bit (u8 p 7) 1 then [(k, none)]
  else [(k, some ⟨u16 p 4, u8 p 6, i16 p 8, mute⟩)]

/-- Add an entry to the change of its channel. -/
def addChange (l : List AudioChange) (c : AudioChange) : List AudioChange :=
  if l.any fun x => x.dest == c.dest && x.chan == c.chan then
    l.map fun x => if x.dest = c.dest ∧ x.chan = c.chan then { x with set := x.set ++ c.set } else x
  else l ++ [c]

/-- The OUTCOME of an audio command is written once every channel of it has changed (R97, R346). Its last part then
stands in the schedule with kind 100. -/
def State.settleAudio (s : State) (jsn : Nat) : State :=
  if s.audio.changes.any fun c => c.jsn == jsn then s
  else
    let parts := s.ccp.schedule.filter fun e => e.jsn == jsn
    match parts with
    | [e] => if e.kind = 100 then s.effected e 1 true else s
    | _ => s

/-- A part of an audio command reaches its effect line (R346): its changes fall due. -/
def State.applyAudio (s : State) (e : Sched) : State :=
  let b := e.args.drop 1
  let es := (List.range (b.length / 16)).map fun i => slice b (16 * i) 16
  let cs := es.foldl (fun l p =>
    addChange l ⟨e.jsn, u16 p 0, u8 p 2, s.entryChange (e.opcode == 0x0802) p, none, s.time.dt⟩) []
  let s := cs.foldl (fun s c => s.changeDue (bit (u8 e.args 0) 0) c) s
  if e.last then
    let wait (x : Sched) : Sched := if x.effect = e.effect then { x with kind := 100 } else x
    (s.mapSched e.jsn wait).settleAudio e.jsn
  else s.effected e 1 true

/-- The pair of a destination channel's sources is NON_AUDIO. -/
def State.chanNonAudio (s : State) (d ch : Nat) : Bool :=
  (s.crossesOf d ch).any fun x => (s.audioSource x.2.source).nonAudio.contains ((x.2.chan + 1) / 2)

/-- Make the changes of a channel that satisfy a test, in JSN order, and finish their commands. -/
def State.takeChanges (s : State) (d ch : Nat) (ok : AudioChange → Bool) : State :=
  let mine (c : AudioChange) : Bool := c.dest == d && c.chan == ch && ok c
  let now := s.audio.changes.filter mine
  let s := { s with audio := { s.audio with changes := s.audio.changes.filter fun c => !mine c } }
  (now.map (·.jsn)).eraseDups.foldl State.settleAudio (now.foldl State.makeChange s)

/-- A due change of a channel meets its zero crossing, or the first gap of a NON_AUDIO pair (R346, R347). -/
def execAudioChangeDue (d ch : Nat) (s : State) : Host.Outcome State Fault Refusal :=
  .next (s.takeChanges d ch fun _ => true)

/-- The zero-crossing timeout of a channel's changes (R346, R347). -/
def zeroCrossTimeout (d ch : Nat) (s : State) : State :=
  let t := (s.audioDest d).timeout * 1000000
  let ok (c : AudioChange) : Bool := decide (c.due + t ≤ s.time.dt)
  let n := (s.audio.changes.filter fun c => c.dest == d && c.chan == ch && ok c).length
  let x := s.destChan d ch
  let s := if n = 0 then s
    else if s.chanNonAudio d ch then s.setDestChan d ch { x with cuts := x.cuts + n }
    else s.setDestChan d ch { x with fades := x.fades + n }
  s.takeChanges d ch ok

/-- ZERO_CROSS_TIMEOUT. -/
def execZeroCrossTimeout (d ch : Nat) (s : State) : Host.Outcome State Fault Refusal := .next (zeroCrossTimeout d ch s)

/-! ## AUDIO_DESTINATION_SET -/

/-- The follow flows of a payload. -/
def followFlows (p : Bytes) : List Nat := ((List.range 16).map fun i => u16 p (16 + 2 * i)).filter fun v => v != 0xFFFF

/-- The arguments of AUDIO_DESTINATION_SET (R333). -/
def audioDestValid (p : Bytes) (s : State) : Bool :=
  let d := u16 p 0
  let k := (s.tx (idx d)).kind
  let own := cls d == 7 || cls d == 8 || (cls d == 1 && (k == 1 || k == 2))
  let video := cls d == 1 && k == 0
  s.audioDestOk d && (if own then decide (u8 p 2 < 8) && (s.tg (u8 p 2)).enabled else u8 p 2 == 0xFF)
    && decide (u8 p 3 ≤ 1 ∧ u8 p 4 ≤ 50 ∧ u32 p 8 ≤ s.systemHz)
    && (if video then (followFlows p).all fun f =>
          decide (cls f ≤ 1 ∧ idx f < 512) && ((s.tx (idx f)).kind == 1 || (s.tx (idx f)).kind == 2)
        else zeroAt p 16 32 || (followFlows p).isEmpty)

/-- AUDIO_DESTINATION_SET (R333, R346): at acceptance, the delay at each channel's zero crossing. -/
def audioDestinationSet : Cmd where
  opcode := 0x0805
  shape := exactly 48 [(5, 3), (12, 4)]
  args c s := audioDestValid c.args s
  run c s :=
    let p := c.args
    let d := u16 p 0
    let x := s.audioDest d
    let y : AudioDest :=
      { tg := if u8 p 2 = 0xFF then x.tg else u8 p 2, mode := u8 p 3, timeout := if u8 p 4 = 0 then 10 else u8 p 4
        delay := u32 p 8, follow := if zeroAt p 16 32 && !(cls d == 1 && (s.tx (idx d)).kind == 0) then [] else followFlows p }
    let s := { s with audio := { s.audio with dests := tabPut s.audio.dests d y } }
    let s := if x.delay = y.delay then s
      else (List.range (s.destChannels d)).foldl
        (fun s i => s.changeDue false ⟨0, d, i + 1, [], some y.delay, s.time.dt⟩) s
    s.done [] true

/-- AUDIO_DESTINATION_SET. -/
def execAudioDestinationSet (r : Request) (s : State) : Host.Outcome State Fault Refusal :=
  .next (audioDestinationSet.serve r s)

/-! ## ASRC channels -/

/-- A source endpoint runs in house time (R337, R339). -/
def State.houseLocked (s : State) (e : Nat) : Bool :=
  match cls e with
  | 5 => true
  | 7 => (s.tdm (idx e)).master
  | 8 => true
  | 15 => true
  | _ => false

/-- The tracked channels of a source that feed cross-points, ascending (R343). -/
def State.trackedInUse (s : State) (e : Nat) : List Nat :=
  (List.range 64).filterMap fun i =>
    if !bit (s.audioSource e).exact i && s.audio.crosses.any fun x => x.2.source == e && x.2.chan == i + 1 then some (i + 1)
    else none

/-- ASRC channels that nothing holds (R328). -/
def State.asrcFree (s : State) : Nat := s.poolLimit 112 - poolTotal 112 (s.baseCharges 112)

/-- The transmit direction of a slave port takes ASRC channels too (R359): its channels with cross-points. -/
def State.txInUse (s : State) (n : Nat) : List Nat :=
  (List.range 32).filterMap fun i =>
    if !bit (s.audioSource (0x7000 + n)).exact i && !(s.crossesOf (0x7000 + n) (i + 1)).isEmpty then some (i + 1) else none

/-- Give an ASYNCHRONOUS endpoint under AUTO the ASRC channels that its tracked channels need and that are free, the
lowest first; the others fall back to slips (R341, R343). A SYNCHRONOUS one holds none. -/
def State.allocateAsrc (s : State) (e : Nat) : State :=
  let x := s.audioSource e
  if x.asrcMode = 1 then s
  else if x.sync || s.houseLocked e then s.setAudioSource e { x with asrc := [], fallback := [] }
  else
    let want := s.trackedInUse e
    let kept := x.asrc.filter want.contains
    let s := s.setAudioSource e { x with asrc := kept }
    let need := want.filter fun c => !kept.contains c
    let got := need.take s.asrcFree
    let lack := need.drop got.length
    let s := s.setAudioSource e { x with asrc := kept ++ got, fallback := lack }
    let s := if cls e = 7 ∧ !(s.tdm (idx e)).master then
        let t := s.tdm (idx e)
        let s := s.setTdm (idx e) { t with txAsrc := [] }
        let tx := (s.txInUse (idx e)).take s.asrcFree
        s.setTdm (idx e) { t with txAsrc := tx }
      else s
    if lack.any fun c => !x.fallback.contains c then s.raise .asrcExhausted (srcAudio e) lack.length else s

/-- An endpoint becomes SYNCHRONOUS or ASYNCHRONOUS (R339, R343, R348). -/
def State.setSync (s : State) (e : Nat) (sync : Bool) : State :=
  let x := s.audioSource e
  if x.sync = sync then s
  else
    let s := (s.setAudioSource e { x with sync, windows := 0, dev := if sync then x.dev else 0 }).raise .audioSyncChanged
      (srcAudio e) (b2n sync)
    let s := if !sync && x.align != 0xFF then s.raise .alignMemberAsync (srcAudio e) x.align else s
    s.allocateAsrc e

/-! ## AUDIO_SOURCE_SET -/

/-- The arguments of AUDIO_SOURCE_SET (R340, R348, R359). -/
def audioSourceValid (p : Bytes) (s : State) : Bool :=
  let e := u16 p 0
  let members := (s.audio.sources.filter fun x => x.1 != e && x.2.align == u8 p 3).length
  s.audioSourceOk e && decide (u8 p 2 ≤ 1) && (u8 p 3 == 0xFF || (decide (u8 p 3 ≤ 15 ∧ members < 16) && cls e == 1))
    && (u16 p 4 == 0 || (cls e == 1 && decide (1000 ≤ u16 p 4 ∧ u16 p 4 ≤ 20000)))
    && (cls e != 7 || zeroAt p 8 8 || (s.tdm (idx e)).nominal == (if s.audio.rate = 1 then 4 else 2))

/-- The tracked channels of a source under a mask. -/
def State.trackedAll (s : State) (e mask : Nat) : List Nat :=
  (List.range (s.sourceChannels 48 e)).filterMap fun i => if bit mask i then none else some (i + 1)

/-- AUDIO_SOURCE_SET (R340, R343): at the next block; RESERVED holds its ASRC channels from acceptance. -/
def audioSourceSet : Cmd where
  opcode := 0x0806
  shape := exactly 24 [(6, 2), (16, 8)]
  args c s := audioSourceValid c.args s
  run c s :=
    let p := c.args
    let e := u16 p 0
    let x := s.audioSource e
    let held := s.trackedAll e (u64 p 8)
    if u8 p 2 = 1 then
      if !s.fitsNow [⟨112, e, held.length⟩] then s.deny stNoCapacity
      else (s.setAudioSource e { x with next := some p, asrcMode := 1, asrc := held, fallback := [] }).done [] true
    else (s.setAudioSource e { x with next := some p }).done [] true

/-- AUDIO_SOURCE_SET. -/
def execAudioSourceSet (r : Request) (s : State) : Host.Outcome State Fault Refusal := .next (audioSourceSet.serve r s)

/-! ## AUDIO_SYSTEM_SET -/

/-- AUDIO_SYSTEM_SET (R326, R358). -/
def audioSystemSet : Cmd where
  opcode := 0x0807
  shape := exactly 8 [(1, 7)]
  args c s := decide (u8 c.args 0 ≤ 1) && (u8 c.args 0 == 0 || bit (capabilityBits s.part) 25)
  run c s :=
    if !s.audio.crosses.isEmpty || (s.audio.tdm.any fun e => e.2.enabled && e.2.master)
        || s.audio.mclk.any fun e => e.2.multiple != 0 then s.deny stUnitBusy
    else ({ s with audio := { s.audio with rate := u8 c.args 0 } } : State).done [] true

/-- AUDIO_SYSTEM_SET. -/
def execAudioSystemSet (r : Request) (s : State) : Host.Outcome State Fault Refusal := .next (audioSystemSet.serve r s)

/-! ## The block -/

/-- The settings of a source take effect at a block (R340). -/
def AudioSource.takeNext (x : AudioSource) : AudioSource :=
  match x.next with
  | none => x
  | some p =>
    { x with next := none, asrcMode := u8 p 2, align := u8 p 3, playout := if u16 p 4 = 0 then 3000 else u16 p 4
             exact := u64 p 8 }

/-- What a block brings to a source endpoint (R334, R339, R344, R349). -/
def State.blockSource (s : State) (i : AudioIn) : State :=
  let e := i.source
  let x := s.audioSource e
  let s := s.setAudioSource e { x with
    underrun := x.underrun + i.lacking, late := x.late + i.late, others := x.others + i.others, dev := i.dev
    nonAudio := (x.nonAudio ++ i.nonAudio).eraseDups }
  if x.sync && (decide (16000 < i.dev) || decide (i.dev < -16000)) then s.setSync e false else s

/-- A sample of a source channel, as a path takes it: silence from a muted or out-of-range endpoint; a NON_AUDIO pair only
over a unity path from an exact channel to 24 bits (R341, R345, R363). -/
def State.pathSample (s : State) (ins : List AudioIn) (l : List (Nat × Cross)) (dbits : Nat) (x : Cross) (i : Nat) : Int :=
  let src := s.audioSource x.source
  let exact := bit src.exact (x.chan - 1)
  let non := src.nonAudio.contains ((x.chan + 1) / 2)
  let silent := (src.outOfRange && !exact) || (non && !(unityPath l && exact && dbits == 24))
    || (cls x.source == 7 && (s.tdm (idx x.source)).state != .running)
    || (cls x.source == 7 && exact && (s.tdm (idx x.source)).exactMuted)
  if silent then 0
  else match ins.find? fun a => a.source == x.source with
    | some a => (a.samples.getD (x.chan - 1) []).getD i 0
    | none => 0

/-- A destination channel's block: sums, saturation, delay and reduction (R330, R333, R345). -/
def State.blockChannel (s : State) (ins : List AudioIn) (n d ch : Nat) : State :=
  let l := s.crossesOf d ch
  let bits := s.destBits d
  let sums := (List.range n).map fun i => (l.map fun x => crossSample x.2 (s.pathSample ins l bits x.2 i)).sum
  let new := sums.map (saturate 24)
  let y := s.destChan d ch
  let line := (new.reverse ++ y.line).take (y.delay + n)
  let out := (List.range n).map fun i => reduceBits bits (line.getD (y.delay + (n - 1 - i)) 0)
  let non := s.chanNonAudio d ch && !(unityPath l && bits == 24
    && l.all fun x => bit (s.audioSource x.2.source).exact (x.2.chan - 1))
  s.setDestChan d ch { y with
    line, out, clip := y.clip + ((sums.zip new).filter fun p => p.1 != p.2).length, muted := y.muted + b2n non }

/-- The destination channels with a cross-point. -/
def State.channelsInUse (s : State) : List (Nat × Nat) :=
  (s.audio.crosses.map fun e => let c := e.1 % 256 / 4
    (e.1 / 256, if c = 0 then 64 else c)).eraseDups

/-- The record of an input ring that stands at its consumer index (R367). -/
def State.inputRecord (s : State) (stamp : Nat) (r : AudioRecord) : State :=
  let x := s.audioRing r.ring
  let took := { x with cons := x.cons + r.length }
  if !x.enabled then s
  else if r.channels ≠ x.channels ∨ r.packing ≠ u8 x.cfg 3 then s.setAudioRing r.ring { took with mismatched := x.mismatched + 1 }
  else if r.stamp < stamp ∨ r.stamp % 1000000 ≠ 0 then s.setAudioRing r.ring { took with late := x.late + 1 }
  else if r.stamp = stamp then s.setAudioRing r.ring took
  else s

/-- The bytes of a sample by packing (R366). -/
def packBytes (packing : Nat) : Nat := if packing = 0 then 3 else 4

/-- A block for an output ring (R367): written when it fits, else omitted, the next record carrying DISCONTINUITY. -/
def State.outputRecord (s : State) (n stamp consumer : Nat) (stepped : Bool) (k : Nat) : State :=
  let x := s.audioRing k
  if !x.enabled then s
  else
    let len := (32 + n * x.channels * packBytes (u8 x.cfg 3) + 63) / 64 * 64
    let cons := max x.cons consumer
    if u32 x.cfg 16 < len + (x.prod - cons) then
      s.setAudioRing k { x with cons, overrun := x.overrun + 1, discont := true }
    else
      let h := le 4 len ++ le 2 n ++ le 1 x.channels ++ le 1 (u8 x.cfg 3) ++ le 2 (b2n stepped + 2 * b2n x.discont)
        ++ le 2 (k - 16) ++ zeros 4 ++ le 8 stamp ++ zeros 8
      s.setAudioRing k { x with cons, prod := x.prod + len, discont := false, written := (h :: x.written).take 64 }

/-- The state a port takes when it is enabled: a slave waits for its clock (R361, R364). -/
def Tdm.enable (t : Tdm) (p : Bytes) : Tdm :=
  if u8 p 1 = 0 then { t with cfg := p, next := none, state := .disabled, fading := false, good := 0, measuring := false }
  else { t with cfg := p, next := none, nominal := u8 p 9, good := 0, measuring := false, told := 0, exactMuted := false
                state := if u8 p 2 = 1 then .running else .mutedClock }

/-- What waits for a block boundary takes effect (R340, R354, R365). -/
def State.blockSettings (s : State) : State :=
  let src (_ : Nat) (x : AudioSource) : AudioSource := x.takeNext
  let port (_ : Nat) (t : Tdm) : Tdm := match t.next with
    | some p => if t.enabled && u8 p 1 == 1 then { t with next := none } else t.enable p
    | none => t
  let ring (_ : Nat) (r : AudioRing) : AudioRing := match r.next with
    | some p => { r with cfg := p, next := none, prod := 0, cons := 0, discont := false }
    | none => r
  { s with audio := { s.audio with
      sources := tabMap src s.audio.sources, tdm := tabMap port s.audio.tdm, rings := tabMap ring s.audio.rings } }

/-- Sources that deliver nothing in a block count as underrunning: muted ports, and input rings without a record of the
block (R349, R363, R367). -/
def State.blockSilence (s : State) (n stamp : Nat) (recs : List AudioRecord) : State :=
  let silentPorts := (s.audio.tdm.filter fun e => e.2.enabled && e.2.state != .running).map fun e => 0x7000 + e.1
  let silentRings := (s.audio.rings.filter fun e => decide (e.1 < 16) && e.2.enabled
    && !(recs.any fun r => r.ring == e.1 && r.stamp == stamp && r.channels == e.2.channels && r.packing == u8 e.2.cfg 3)).map
      fun e => 0x8000 + e.1
  (silentPorts ++ silentRings).foldl (fun s e =>
    let x := s.audioSource e
    s.setAudioSource e { x with underrun := x.underrun + n }) s

/-- A 1 ms audio block (R337, R338, R343 to R345, R349, R367): `n` is its length in samples, other than the block size only
where DT has stepped; `consumers` what host memory holds of the output rings' consumer indices. -/
def audioBlock (n : Nat) (ins : List AudioIn) (recs : List AudioRecord) (consumers : List (Nat × Nat)) (s : State) : State :=
  if s.boot.retreat then s
  else
    let stamp := s.time.dt / 1000000 * 1000000
    let stepped := match s.audio.stamp with
      | some t => stamp != t + 1000000
      | none => false
    let n := if stepped then max 1 (min n (2 * s.blockSize - 1)) else s.blockSize
    let s := { s with audio := { s.audio with stamp := some stamp } }
    let s := s.blockSettings
    let s := recs.foldl (fun s r => s.inputRecord stamp r) s
    let s := ins.foldl State.blockSource s
    let played := recs.filterMap fun r =>
      let x := s.audioRing r.ring
      if r.stamp = stamp ∧ r.channels = x.channels ∧ r.packing = u8 x.cfg 3 then
        some (⟨0x8000 + r.ring, r.samples, 0, 0, 0, [], 0⟩ : AudioIn)
      else none
    let s := s.blockSilence n stamp recs
    let s := (s.audio.sources.map (·.1)).foldl State.allocateAsrc s
    let lost (_ : Nat) (x : AudioSource) : AudioSource :=
      { x with chans := x.fallback.foldl (fun t c =>
          let y := tabGet t c {}
          tabPut t c { y with fallback := y.fallback + 1 }) x.chans }
    let s := { s with audio := { s.audio with sources := tabMap lost s.audio.sources } }
    let s := s.channelsInUse.foldl (fun s c => s.blockChannel (ins ++ played) n c.1 c.2) s
    (List.range 16).foldl (fun s k => s.outputRecord n stamp (((consumers.find? fun x => x.1 == k).map (·.2)).getD 0) stepped
      (16 + k)) s

/-- AUDIO_BLOCK. -/
def execAudioBlock (n : Nat) (ins : List AudioIn) (recs : List AudioRecord) (consumers : List (Nat × Nat)) (s : State) :
    Host.Outcome State Fault Refusal := .next (if s.halted then s else audioBlock n ins recs consumers s)

/-! ## Synchronism -/

/-- A 10 s window of a source endpoint ends: its drift in samples and its ratio in ppm (R339, R341, R359). -/
def audioSyncWindow (e : Nat) (drift ratio : Int) (s : State) : State :=
  if s.houseLocked e then s
  else
    let x := s.audioSource e
    let small := decide (-1 ≤ drift ∧ drift ≤ 1)
    let k := if small then x.windows + 1 else 0
    let out := decide (ratio < -125000 ∨ 125000 < ratio)
    let s := s.setAudioSource e { x with windows := k, ratio, outOfRange := out }
    let s := if out && !x.outOfRange then s.raise .rateOutOfRange (srcAudio e) else s
    let foreign := cls e == 7 && (s.tdm (idx e)).nominal != (if s.audio.rate = 1 then 4 else 2)
    if 3 ≤ k ∧ !foreign then s.setSync e true else s

/-- AUDIO_SYNC_WINDOW. -/
def execAudioSyncWindow (e : Nat) (drift ratio : Int) (s : State) : Host.Outcome State Fault Refusal :=
  .next (audioSyncWindow e drift ratio s)

/-! ## Slips -/

/-- Count a slip of a channel. -/
def AudioSource.slip (x : AudioSource) (ch : Nat) (burst : Bool) : AudioSource :=
  let y := tabGet x.chans ch {}
  { x with chans := tabPut x.chans ch { y with slips := y.slips + 1, burst := y.burst + b2n burst } }

/-- The channels of an endpoint that cross by slips (R342, R343). -/
def State.slipChannels (s : State) (e : Nat) : List Nat :=
  ((List.range (s.sourceChannels 48 e)).filterMap fun i => if bit (s.audioSource e).exact i then some (i + 1) else none)
    ++ (s.audioSource e).fallback

/-- A slip falls due (R342, R344): PCM channels slip at once, NON_AUDIO pairs in their next gap. -/
def exactSlipDue (e : Nat) (s : State) : State :=
  let x := s.audioSource e
  if -1500 < x.dev ∧ x.dev < 1500 then s
  else
    let cs := s.slipChannels e
    let non (c : Nat) : Bool := x.nonAudio.contains ((c + 1) / 2) && bit x.exact (c - 1)
    let y := (cs.filter fun c => !non c).foldl (fun (y : AudioSource) c => y.slip c false) x
    let pairs := ((cs.filter non).map fun c => (c + 1) / 2).eraseDups
    let s := s.setAudioSource e { y with
      dev := if 0 < x.dev then x.dev - 1000 else x.dev + 1000, owed := y.owed ++ pairs.map fun p => (p, s.time.dt) }
    if x.ratio < -100 ∨ 100 < x.ratio then s.raise .exactRangeExceeded (srcAudio e) else s

/-- EXACT_SLIP_DUE. -/
def execExactSlipDue (e : Nat) (s : State) : Host.Outcome State Fault Refusal := .next (exactSlipDue e s)

/-- Make the oldest deferred slip of a pair. -/
def AudioSource.paySlip (x : AudioSource) (pair : Nat) (burst : Bool) : AudioSource :=
  let y := { x with owed := x.owed.eraseP fun o => o.1 == pair }
  (y.slip (2 * pair - 1) burst).slip (2 * pair) burst

/-- The next gap of a NON_AUDIO pair: its deferred slips are made (R344). -/
def nonAudioGapSlip (e pair : Nat) (s : State) : State :=
  let x := s.audioSource e
  let n := (x.owed.filter fun o => o.1 == pair).length
  s.setAudioSource e ((List.range n).foldl (fun y _ => y.paySlip pair false) x)

/-- NON_AUDIO_GAP_SLIP. -/
def execNonAudioGapSlip (e pair : Nat) (s : State) : Host.Outcome State Fault Refusal := .next (nonAudioGapSlip e pair s)

/-- No gap within 40 ms: the slip is made inside a burst (R344). -/
def audioBurstSlip (e pair : Nat) (s : State) : State :=
  let x := s.audioSource e
  if x.owed.any fun o => o.1 == pair && decide (o.2 + 40000000 ≤ s.time.dt) then
    (s.setAudioSource e (x.paySlip pair true)).raise .audioBurstSlip (srcAudio e) pair
  else s

/-- AUDIO_BURST_SLIP. -/
def execAudioBurstSlip (e pair : Nat) (s : State) : Host.Outcome State Fault Refusal := .next (audioBurstSlip e pair s)

/-- A pair returns to PCM after 200 ms without an indication; a slip it still owes is made at once (R344). -/
def nonAudioReturnPcm (e pair : Nat) (s : State) : State :=
  let s := nonAudioGapSlip e pair s
  let x := s.audioSource e
  s.setAudioSource e { x with nonAudio := x.nonAudio.filter (· != pair) }

/-- NON_AUDIO_RETURN_PCM. -/
def execNonAudioReturnPcm (e pair : Nat) (s : State) : Host.Outcome State Fault Refusal :=
  .next (nonAudioReturnPcm e pair s)

/-! ## AUDIO_STATUS -/

/-- The playout delay that a source uses: the largest of its alignment group (R348). -/
def State.playoutOf (s : State) (e : Nat) : Nat :=
  let x := s.audioSource e
  if x.align = 0xFF then x.playout
  else ((s.audio.sources.filter fun y => y.2.align == x.align).map (·.2.playout)).foldl max x.playout

/-- What AUDIO_STATUS gives of a source endpoint (R351). -/
def sourceValues (s : State) (e : Nat) : List Int :=
  let x := s.audioSource e
  [(e : Int), b2n x.sync, x.ratio, x.dev, s.playoutOf e, x.underrun, x.late, x.others]
    ++ (List.range (s.sourceChannels 48 e)).flatMap fun i =>
      let y := tabGet x.chans (i + 1) {}
      [((b2n (bit x.exact i) : Nat) : Int), b2n (x.nonAudio.contains (i / 2 + 1)), y.slips, y.burst, y.fallback]

/-- What AUDIO_STATUS gives of a destination endpoint (R351). -/
def destValues (s : State) (d : Nat) : List Int :=
  (d : Int) :: (List.range (s.destChannels d)).flatMap fun i =>
    let y := s.destChan d (i + 1)
    [(y.muted : Int), y.clip, y.fades, y.cuts]

/-- The rows, columns, cross-points and ASRC channels in use (R351). -/
def matrixValues (s : State) : List Int :=
  (s.audio.rate : Int) :: [109, 110, 111, 112].map fun p => (poolTotal p (s.baseCharges p) : Int)

/-- AUDIO_STATUS (R351): the endpoints named, or with DMA every one. -/
def audioStatus : Cmd where
  opcode := 0x0880
  dma := .optional
  shape p := decide (p.length % 2 = 0 ∧ p.length ≤ 32)
  run c s :=
    let head := matrixValues s
    if c.dma then
      { s.done (Config.layout 0x0880 head) with
        out := Config.layout 0x0880 (head ++ (s.audio.sources.flatMap fun e => sourceValues s e.1)
          ++ s.audioEndpoints.flatMap (destValues s)) }
    else
      s.done (Config.layout 0x0880 (head ++ (List.range (c.args.length / 2)).flatMap fun i =>
        let e := u16 c.args (2 * i)
        sourceValues s e ++ destValues s e))

/-- AUDIO_STATUS. -/
def execAudioStatus (r : Request) (s : State) : Host.Outcome State Fault Refusal := .next (audioStatus.serve r s)

end Sys2Proof.Machine
end

