-- ==== Sys2Proof/Machine/Conversion.lean ====
section
/-! DEFINITION. The conversion pipes (R183 to R211): PIPE_CONFIGURE, PIPE_GANG, PIPE_LUT_LOAD and
PIPE_STATUS, the borrowed cores, the formulas of the colour stage and of frame-rate conversion, and what a
pipe sends in an output frame. -/

namespace Sys2Proof.Machine

/-! ## Formulas -/

/-- One output of the colour matrix: three products of 16-bit coefficients with 12 fraction bits and an
offset, clipped to 16 bits (R193). -/
def colourMatrix (coef : List Int) (offset : Int) (rgb : List Nat) : Nat :=
  let v := (((coef.zip rgb).map fun x => x.1 * (x.2 : Int)).sum) / 4096 + offset
  if v < 0 then 0 else if 65535 < v then 65535 else v.toNat

/-- LUT B: indexed by bits 15:4 and interpolated by bits 3:0, the last entry its own successor; rounded half
up to 12 bits (R185, R193). -/
def lutB (lut : Nat → Nat) (v : Nat) : Nat :=
  let i := v / 16
  let f := v % 16
  (lut i * (16 - f) + lut (min 4095 (i + 1)) * f + 8) / 16

/-- The clip of stage 7 (R195): component 0 is Y. -/
def clipSample (legal : Bool) (component v : Nat) : Nat :=
  let lo := if legal then 64 else 4
  let hi := if !legal then 1019 else if component = 0 then 940 else 960
  max lo (min hi v)

/-- The weight of the second picture at a virtual time (R197): floor(64 × phase + 1/2). -/
def blendWeight (tv ta tb : Int) : Nat := ((128 * (tv - ta) + (tb - ta)) / (2 * (tb - ta))).toNat

/-- A blended sample, rounded half up (R185, R197). -/
def blendSample (a b weight : Nat) : Nat := (a * (64 - weight) + b * weight + 32) / 64

/-- The picture frequency of a format as a fraction: fields of an interlaced one (R188). -/
def pictureFraction (rate : Nat) : Nat × Nat := rateFraction rate

/-- The latency of capture mode in ns, rounded down (R199): input periods, and for MOTION one output
frame. -/
def captureLatency (inter : Bool) (rate outRaster outRate : Nat) (motion : Bool) : Nat :=
  let a := pictureFraction rate
  let b := frameFraction outRaster outRate
  let n := if inter then 3 else 2
  1000000000 * (n * a.2 * b.1 + (if motion then b.2 * a.1 else 0)) / (a.1 * b.1)

/-! ## Cores -/

/-- The coding items that a core carries now (R255). -/
def State.coreItems (s : State) (k : Nat) : List Nat :=
  ((s.baseCharges (10 + k)).filter fun e => e.2 != 0).map (·.1)

/-- Give every core the mode of the work it carries; a core that carries none keeps its mode until the next
frame boundary of a group (R201, R256). -/
def State.settleCores (s : State) (g : Nat) : State :=
  (List.range 8).foldl (fun s k =>
    let c := s.coding
    match s.coreItems k with
    | i :: _ => { s with coding := { c with
        modes := tabPut c.modes k (itemMode i), returning := tabDrop c.returning k } }
    | [] => if tabGet c.modes k 0 = 0 ∨ tabHas c.returning k then s
      else { s with coding := { c with returning := tabPut c.returning k g } }) s

/-- At a frame boundary of a group the cores that were left free return to IDLE (R201, R256). -/
def State.returnCores (s : State) (g : Nat) : State :=
  let c := s.coding
  let back := (c.returning.filter fun e => e.2 == g).map (·.1)
  { s with coding := { c with
      modes := back.foldl (fun t k => tabPut t k 0) c.modes
      returning := c.returning.filter fun e => e.2 != g } }

/-! ## PIPE_CONFIGURE -/

/-- The size of the whole picture that zeros stand for (R186). -/
def cropOf (p : Bytes) (o raster : Nat) : Nat × Nat × Nat × Nat :=
  if zeroAt p o 8 then (0, 0, activeWidth raster, activeLines raster)
  else (u16 p o, u16 p (o + 2), u16 p (o + 4), u16 p (o + 6))

/-- A rectangle lies in a picture and is aligned and large enough (R191). -/
def rectOk (r : Nat × Nat × Nat × Nat) (raster : Nat) (even : Bool) : Bool :=
  decide (r.1 + r.2.2.1 ≤ activeWidth raster ∧ r.2.1 + r.2.2.2 ≤ activeLines raster ∧ r.1 % 2 = 0
    ∧ r.2.2.1 % 2 = 0 ∧ 16 ≤ r.2.2.1 ∧ 8 ≤ r.2.2.2)
  && (!even || decide (r.2.1 % 2 = 0 ∧ r.2.2.2 % 2 = 0))

/-- A scale factor lies between 1/8 and 16 (R191). -/
def factorOk (crop place : Nat) : Bool := decide (crop ≤ 8 * place ∧ place ≤ 16 * crop)

/-- The geometry of a pipe or layer: input raster, output raster, crop and placement (R191). -/
def geometryOk (p : Bytes) (co po rin rout : Nat) : Bool :=
  let c := cropOf p co rin
  let q := cropOf p po rout
  let even := interlaced rin || interlaced rout
  rectOk c rin even && rectOk q rout even && factorOk c.2.2.1 q.2.2.1 && factorOk c.2.2.2 q.2.2.2

/-- The codes of PIPE_CONFIGURE (R186, R192). -/
def pipeCodesOk (p : Bytes) : Bool :=
  let fill (i : Nat) : Nat := u16 p (32 + 2 * i)
  decide (u16 p 0 < 32 ∧ u8 p 2 ≤ 1 ∧ u8 p 3 < 8 ∧ u8 p 6 ≤ 2 ∧ u8 p 7 < 8 ∧ u8 p 24 ≤ 2 ∧ u8 p 25 ≤ 2)
    && (decide (u8 p 26 ≤ 8) || u8 p 26 == 15)
    && (if u8 p 26 = 15 then decide (u8 p 27 % 16 ≤ 2 ∧ u8 p 27 / 16 ≤ 2) else u8 p 27 == 0)
    && zeroOr (u16 p 28) 400 10000 && decide (u8 p 30 ≤ 2 ∧ u8 p 31 ≤ 15)
    && (zeroAt p 32 6 || ([0, 1, 2] : List Nat).all fun i => decide (4 ≤ fill i ∧ fill i ≤ 1019))

/-- The arguments of PIPE_CONFIGURE (R186, R191, R203, R25). A stopped pipe is not held against the format
of its group (log entry 24). -/
def pipeValid (p : Bytes) (s : State) : Bool :=
  let n := u16 p 0
  let t := s.tg (u8 p 3)
  pipeCodesOk p && s.present 6 n && s.gangHead n == n
    && (u8 p 30 != 2 || decide (0 < featureCount s.part.feature 5))
    && (u8 p 2 == 0 || (t.enabled && formatValid (u8 p 4) (u8 p 5) && geometryOk p 8 16 (u8 p 4) t.raster))

/-- What is configured is a reconfiguration (R210): another group, maximum input format or rate method, or
deinterlacing turned on or off. -/
def reconfigures (old new : Bytes) : Bool :=
  u8 old 3 != u8 new 3 || u8 old 4 != u8 new 4 || u8 old 5 != u8 new 5 || u8 old 30 != u8 new 30

/-- The pipe with a configuration and a borrowed core. -/
def Pipe.configured (x : Pipe) (p : Bytes) (core : Option Nat) : Pipe :=
  { x with cfg := padTo 48 p, core, fallback := if u8 p 30 = 2 ∧ u8 p 2 = 1 then x.fallback else 0 }

/-- The destinations fed by a source. -/
def State.fedBy (s : State) (src : Nat) : List Nat := (s.routing.dests.filter fun e => e.2.source == src).map (·.1)

/-- The rules that list a source. -/
def State.rulesOn (s : State) (src : Nat) : List Nat :=
  (s.routing.rules.filter fun e => e.2.cands.any fun w => w.source == src).map (·.1)

/-- The charges of everything that is routed to or from a unit, in a state where the unit has changed its
group (R146, R165). -/
def State.unitCharges (s : State) (dests : List Nat) (src : Nat) : List Charge :=
  let route (d : Nat) : List Charge :=
    let x := s.dest d
    s.routeCharges d x.source x.lane (s.destGroup d)
  let rule (d : Nat) : List Charge := match s.rule d with
    | some r => s.ruleCharges d (s.destGroup d) (r.cands.map (·.source))
    | none => []
  (dests ++ s.fedBy src).eraseDups.flatMap route ++ (dests ++ s.rulesOn src).eraseDups.flatMap rule

/-- The core that a MOTION conversion takes from an effect on: the one it has, when neither its cost nor the
core's service has changed; else by placement (R201). -/
def State.motionCore (s : State) (n : Nat) (p : Bytes) (dt : Int) : Option Nat :=
  let x := s.pipe n
  let same := x.enabled && x.method == 2 && x.maxRaster == u8 p 4 && x.maxRate == u8 p 5
  match x.core with
  | some k => if same && s.inService 5 k then some k
    else ((s.placeCores (0x200 + n) (formatCost (u8 p 4) (u8 p 5)) dt).bind (·.head?))
  | none => (s.placeCores (0x200 + n) (formatCost (u8 p 4) (u8 p 5)) dt).bind (·.head?)

/-- The charges of a pipe's configuration (R201, R206). -/
def State.pipeCharges (s : State) (n : Nat) (p : Bytes) (core : Option Nat) : List Charge :=
  let x := s.pipe n
  let s' := s.setPipe n (x.configured p core)
  let motion := u8 p 2 == 1 && u8 p 30 == 2
  [⟨1, n, s'.pipeCost n⟩]
    ++ (if motion then coreCharges (0x200 + n) (formatCost (u8 p 4) (u8 p 5)) core.toList x.core.toList
        else if x.core.isSome then coreCharges (0x200 + n) 0 [] x.core.toList else [])
    ++ s'.unitCharges [0x2000 + n] (0x2000 + n)

/-- The format of a pipe's input: of its source while that is known, else the maximum configured (R187). -/
def State.pipeInput (s : State) (n : Nat) (p : Pipe) : Nat × Nat :=
  let src := (s.dest (0x2000 + n)).source
  if src = 0xF000 then (p.maxRaster, p.maxRate) else (s.sourceFormat src).getD (p.maxRaster, p.maxRate)

/-- The delay of a pipe in ns (R199); none in synchronised mode (R196). -/
def State.pipeLatency (s : State) (n : Nat) (p : Pipe) : Option Nat :=
  let t := s.tg p.tg
  let f := s.pipeInput n p
  if p.method = 0 ∨ f.2 = t.rate then none
  else some (captureLatency (interlaced f.1) f.2 t.raster t.rate (p.method == 2))

/-- MOTION falls back to BLEND for a reason (R202). -/
def State.pipeFallBack (s : State) (n reason : Nat) : State :=
  let x := s.pipe n
  let s' := s.setPipe n { x with fallback := reason }
  if x.fallback = 0 then s'.raiseAt .pipeMethodFallback (srcPipe n) x.tg reason else s'

/-- The fallback ends (R202). -/
def State.pipeRestore (s : State) (n : Nat) : State :=
  let x := s.pipe n
  if x.fallback = 0 then s
  else (s.setPipe n { x with fallback := 0 }).raiseAt .pipeMethodRestored (srcPipe n) x.tg x.fallback

/-- The thermal step at which MOTION falls back is in force (R533: 104 °C). -/
def State.motionHot (s : State) : Bool := decide (3 ≤ s.health.steps)

/-- A configuration of a pipe takes effect (R186, R210): the argument bytes are followed by the borrowed core
+ 1. Answers whether the pipe's delay has changed. -/
def applyPipe (p : Bytes) (s : State) : State × Bool :=
  let n := u16 p 0
  let x := s.pipe n
  let core := if u8 p 48 = 0 then none else some (u8 p 48 - 1)
  let y := x.configured p core
  let changed := x.enabled && y.enabled && s.pipeLatency n x != s.pipeLatency n y
  let s := s.setPipe n { y with
    delayChanged := x.delayChanged || changed, cropInvalid := false
    fields := if x.maxRaster = y.maxRaster then y.fields else []
    out := if y.enabled then y.out else .black }
  let s := if changed then s.raiseAt .pipeDelayChanged (srcPipe n) y.tg else s
  let s := if y.enabled && y.method == 2 then
      (if s.motionHot then s.pipeFallBack n 1 else s) else s
  ((s.settleCores y.tg).refreshSyncs.tellTallies, changed)

/-- A pipe, any member of its gang, is fenced or serves another number (R203, R531). -/
def State.gangDown (s : State) (n : Nat) : Bool := (List.range (s.pipe n).gang).any fun k => s.pipeDown (n + k)

/-- A test holds a pipe of the gang (R526). -/
def State.gangTested (s : State) (n : Nat) : Bool :=
  (List.range (s.pipe n).gang).any fun k => s.underTest 6 (s.pipeUnit (n + k))

/-- PIPE_CONFIGURE (R186, R201, R206, R210). -/
def pipeConfigure : Cmd where
  opcode := 0x0501
  timed := true
  shape := exactly 48 [(38, 10)]
  args c s := pipeValid c.args s
  run c s :=
    let p := c.args
    let n := u16 p 0
    let x := s.pipe n
    let g := if u8 p 2 = 0 ∧ x.enabled then x.tg else u8 p 3
    let t := s.tg (u8 p 3)
    let motion := u8 p 2 == 1 && u8 p 30 == 2
    if s.gangDown n then s.deny stUnitFenced
    else if s.gangTested n then s.deny stUnitBusy
    else if u8 p 2 = 1 ∧ 16 * x.gang < pipeCharge (u8 p 4) (u8 p 5) t.raster t.rate then s.deny stNoCapacity
    else if !(s.tg g).enabled then ((s.setPipe n (x.configured p none)).refreshSyncs).done [] true
    else
      let k : Point := if reconfigures x.cfg p then .frameStart else .firstActive
      let e := (s.place k g c.req.atFrame.toNat c.req.atLine.toNat c.req.group.toNat (s.stampOf c.key g)).effect
      let core := if motion then s.motionCore n p (s.effectDt e) else none
      if motion && core.isNone then s.deny stNoCapacity
      else s.scheduleSync c 0x0501 k g (p ++ le 1 (match core with | some c => c + 1 | none => 0))
        (s.pipeCharges n p core)

/-- PIPE_CONFIGURE. -/
def execPipeConfigure (r : Request) (s : State) : Host.Outcome State Fault Refusal :=
  .next (pipeConfigure.serve r s)

/-! ## PIPE_GANG -/

/-- PIPE_GANG (R203): at acceptance, standing. The members of the old gang that are left over stand alone. -/
def pipeGang : Cmd where
  opcode := 0x0502
  shape := exactly 8 [(3, 5)]
  args c s :=
    let n := u16 c.args 0
    let k := u8 c.args 2
    decide (n < 32) && (k == 1 || k == 2 || k == 4) && decide (n % k = 0) && s.gangHead n == n
      && (List.range k).all fun i => s.present 6 (n + i)
  run c s :=
    let n := u16 c.args 0
    let k := u8 c.args 2
    let span := max k (s.pipe n).gang
    let members := (List.range span).map (n + ·)
    let heads := (members.map s.gangHead).eraseDups
    if members.any s.pipeDown then s.deny stUnitFenced
    else if heads.any fun m => (s.pipe m).enabled then s.deny stUnitBusy
    else
      let s' := members.foldl (fun s m => s.setPipe m { s.pipe m with gang := if m = n then k else 1 }) s
      s'.done [] true

/-- PIPE_GANG. -/
def execPipeGang (r : Request) (s : State) : Host.Outcome State Fault Refusal := .next (pipeGang.serve r s)

/-! ## PIPE_LUT_LOAD -/

/-- The bytes that a select byte calls for (R194). -/
def lutBytes (sel : Nat) : Nat := (if bit sel 0 then 24576 else 0) + (if bit sel 1 then 32 else 0) + (if bit sel 2 then 24576 else 0)

/-- Every entry of LUT B is at most 4,095 (R194). -/
def lutBOk (b : Bytes) : Bool := (List.range 12288).all fun i => decide (u16 b (2 * i) ≤ 4095)

/-- The offset of LUT B in the request data. -/
def lutBAt (sel : Nat) : Nat := (if bit sel 0 then 24576 else 0) + (if bit sel 1 then 32 else 0)

/-- The tables loaded take effect: they are the other bank with what was not selected copied, and the banks
swap (R194). -/
def applyLut (a : Bytes) (s : State) : State :=
  let n := u16 a 0
  let sel := u8 a 2
  let d := a.drop 8
  let x := s.pipe n
  let b := x.bank
  s.setPipe n { x with
    spare := b
    bank := { lutA := if bit sel 0 then slice d 0 24576 else b.lutA
              matrix := if bit sel 1 then slice d (if bit sel 0 then 24576 else 0) 32 else b.matrix
              lutB := if bit sel 2 then slice d (lutBAt sel) 24576 else b.lutB } }

/-- PIPE_LUT_LOAD (R194). -/
def pipeLutLoad : Cmd where
  opcode := 0x0503
  timed := true
  dma := .required
  shape := exactly 8 [(3, 5)]
  args c s :=
    let n := u16 c.args 0
    let sel := u8 c.args 2
    decide (n < 32 ∧ sel < 8) && s.present 6 n && s.gangHead n == n && decide (c.data.length = lutBytes sel)
      && (!bit sel 2 || lutBOk (c.data.drop (lutBAt sel))) && (!bit sel 1 || zeroAt c.data (lutBAt sel - 2) 2)
  run c s :=
    let n := u16 c.args 0
    let x := s.pipe n
    if s.gangDown n then s.deny stUnitFenced
    else if !(s.tg x.tg).enabled then (applyLut (c.args ++ c.data) s).done [] true
    else s.schedule c 0x0503 .firstActive x.tg (c.args ++ c.data) [] (fun _ => true)

/-- PIPE_LUT_LOAD. -/
def execPipeLutLoad (r : Request) (s : State) : Host.Outcome State Fault Refusal := .next (pipeLutLoad.serve r s)

/-! ## PIPE_STATUS -/

/-- The values of one pipe or gang (R211, R527). -/
def pipeValues (s : State) (n : Nat) : List Int :=
  let x := s.pipe n
  let f := (s.sourceFormat (s.dest (0x2000 + n)).source).getD (15, 15)
  let c := x.count
  let v : List Nat := [b2n x.enabled, x.gang, x.tg, f.1, f.2, s.pipeCost n, (s.pipeLatency n x).getD 0, x.method,
    (if x.fallback = 0 then x.method else 1), (x.core.getD 0xFF), x.cadence, s.pipeUnit n, x.fallback,
    c.frames, c.repeats, c.drops, c.blended, c.motion, c.unmixed, c.sceneCut, c.captureLate, c.fallback,
    c.loss, c.locks, c.unlocks]
  v.map Int.ofNat

/-- PIPE_STATUS (R211; log entry 17). -/
def pipeStatus : Cmd where
  opcode := 0x0580
  run _ s := s.done (Config.layout 0x0580
    (((List.range 32).filter fun n => s.present 6 n && s.gangHead n == n).flatMap (pipeValues s)))

/-- PIPE_STATUS. -/
def execPipeStatus (r : Request) (s : State) : Host.Outcome State Fault Refusal := .next (pipeStatus.serve r s)

/-! ## Output frames -/

/-- The pictures that a pipe has stored, newest first, each with the DT of its start: the fields of an
interlaced frame are two pictures (R188, R196). -/
def Pipe.pictures (p : Pipe) (f : Nat × Nat) : List Stored :=
  if interlaced f.1 then
    let r := rateFraction f.2
    p.stored.flatMap fun z =>
      let half := totalLines f.1 / 2
      [{ z with seq := 2 * z.seq + 1, start := z.start + 1000000000 * r.2 / r.1, cut := false
                anc := z.anc.filter fun x => decide (half < x.line) },
       { z with seq := 2 * z.seq, anc := z.anc.filter fun x => decide (x.line ≤ half) }]
  else p.stored

/-- What capture mode sends at an output frame (R197, R200): `lc` is the latency, `detect` whether scene
cuts are looked for, `motion` whether the core serves. A late picture is told apart. -/
def chooseCapture (ps : List Stored) (tOut lc : Nat) (detect motion : Bool) : PipeOut × Bool × Bool :=
  let tv : Int := (tOut : Int) - lc
  match ps.find? fun z => decide ((z.start : Int) ≤ tv) && z.done with
  | none => (.again, true, false)
  | some a =>
    match (ps.reverse).find? fun z => decide (tv < (z.start : Int)) with
    | none => (.unmixed a.seq, true, false)
    | some b =>
      if !b.done then (.unmixed a.seq, true, false)
      else
        let w := blendWeight tv a.start b.start
        if w = 0 then (.unmixed a.seq, false, false)
        else if w = 64 then (.unmixed b.seq, false, false)
        else if detect && b.cut then (.unmixed (if w ≤ 32 then a.seq else b.seq), false, true)
        else (.mixed a.seq b.seq w motion, false, false)

/-- The counters of an output frame in capture mode (R211). -/
def PipeCount.capture (c : PipeCount) (o : PipeOut) (isLate cut fell : Bool) : PipeCount :=
  { c with
    frames := c.frames + 1, captureLate := c.captureLate + b2n isLate, sceneCut := c.sceneCut + b2n cut
    fallback := c.fallback + b2n fell
    blended := c.blended + (match o with | .mixed _ _ _ false => 1 | _ => 0)
    motion := c.motion + (match o with | .mixed _ _ _ true => 1 | _ => 0)
    unmixed := c.unmixed + (match o with | .unmixed _ => 1 | _ => 0) }

/-- The packets that an output frame in capture mode carries, by the picture it takes (R208): the FRAME packets of that
picture and every EVENT packet of it and of earlier ones that has not been sent. -/
def Pipe.sends (p : Pipe) (inter : Bool) (z : Option Stored) : Pipe := match z with
  | some z =>
    let due (q : Nat) : Bool := decide (q ≤ (if inter then z.seq / 2 else z.seq))
    { p with
      anc := z.anc ++ (p.events.filter fun e => due e.1).map (·.2)
      events := p.events.filter fun e => !due e.1 }
  | none => p

/-- The packets that the source of a pipe brings it from its own group (R170): those of its unit's frame before, told by
the state `old`. -/
def State.unitAnc (old : State) (src : Nat) : List AncPacket := match cls src with
  | 2 => (old.pipe (idx src)).anc
  | 4 => (match old.dec (idx src) with
    | some d => d.anc
    | none => [])
  | _ => []

/-- The output frame of a running pipe at a frame start of its group (R196 to R200, R202); `old` is the state before any
unit of the group began its frame. -/
def State.pipeFrame (s old : State) (n : Nat) : State :=
  let p := s.pipe n
  if !p.enabled then s
  else
    let d := s.dest (0x2000 + n)
    let t := s.tg p.tg
    let lost := s.inLoss d.source
    let y := (s.signals.syncs.find? fun e => e.1 == pairKey d.source p.tg).map (·.2)
    let dropsIn (s : State) : Nat := (s.signals.syncs.filter fun e => e.1 == pairKey d.source p.tg).map (·.2.drops) |>.sum
    let fell := p.fallback != 0
    let p := { p with delayChanged := false }
    if d.source = 0xF000 then
      s.setPipe n { p with out := .black, anc := [], count := { p.count with frames := p.count.frames + 1 } }
    else
      match s.pipeLatency n p with
      | some lc =>
        let f := s.pipeInput n p
        if lost then s.setPipe n { p with
            out := .selected, anc := match y with | some y => y.anc | none => []
            count := { p.count with
              frames := p.count.frames + 1, loss := p.count.loss + 1, fallback := p.count.fallback + b2n fell } }
        else
          let r := chooseCapture (p.pictures f) t.frameStart lc (!bit (u8 p.cfg 7) 2) (p.method == 2 && !fell)
          let z := match r.1 with
            | .unmixed q => (p.pictures f).find? fun z => z.seq == q
            | .mixed a _ _ _ => (p.pictures f).find? fun z => z.seq == a
            | _ => none
          let p := p.sends (interlaced f.1) z
          s.setPipe n { p with
            out := match r.1 with | .again => p.out | o => o
            count := p.count.capture r.1 r.2.1 r.2.2 (fell && p.method == 2) }
      | none =>
        let again := match y with | some y => (match y.out with | .again _ => true | .freeze _ => true | _ => false) | none => false
        s.setPipe n { p with
          out := .selected, anc := match y with | some y => y.anc | none => old.unitAnc d.source
          events := []
          count := { p.count with
            frames := p.count.frames + 1, repeats := p.count.repeats + b2n again
            drops := p.count.drops + (dropsIn s - dropsIn old)
            loss := p.count.loss + b2n lost } }

/-- At a Dusk line a conversion that wants a core is tried again, after the commands frozen there (R202). -/
def State.retryMotion (s : State) (g : Nat) : State :=
  (s.conversion.pipes.map (·.1)).foldl (fun s n =>
    let p := s.pipe n
    if p.enabled && p.tg == g && p.method == 2 && p.fallback == 2 && p.core.isNone then
      let dt := s.effectDt ⟨g, (s.tg g).pos.frame + 1, 1⟩
      match (s.placeCores (0x200 + n) (formatCost p.maxRaster p.maxRate) dt).bind (·.head?) with
      | some k =>
        if s.admits (coreCharges (0x200 + n) (formatCost p.maxRaster p.maxRate) [k] []) dt then
          (s.setPipe n { p with core := some k }).settleCores g
        else s
      | none => s
    else s) s

/-- At a frame start, a fallback that has found its core or has cooled ends, and a hot device falls back
(R202). -/
def State.stepFallback (s : State) (n : Nat) : State :=
  let p := s.pipe n
  if !(p.enabled && p.method == 2) then s
  else if p.fallback = 2 then (if p.core.isSome then (if s.motionHot then s.pipeFallBack n 1 else s.pipeRestore n) else s)
  else if p.fallback = 1 then (if s.motionHot then s else s.pipeRestore n)
  else if p.fallback = 0 ∧ s.motionHot then s.pipeFallBack n 1
  else s

end Sys2Proof.Machine
end

