-- ==== Sys2Proof/Machine/MemoryOps.lean ====
section
/-! DEFINITION. Device memory (R457, R458): reading and writing bytes of HBM, the address map of the
stacks, the ranks of arbitration and refresh (R461, R464), and surfaces by address (R471). -/

namespace Sys2Proof.Machine

/-! ## Bytes of HBM -/

/-- The byte at a device address; what nothing has written reads 0 (log entry 6). -/
def memGet : List Host.Cell → Nat → BitVec 8
  | [], _ => 0
  | (k, v) :: r, a => if a < k then 0 else if a = k then v else memGet r a

/-- Write a byte, keeping the form of `memWf`. -/
def memPut : List Host.Cell → Nat → BitVec 8 → List Host.Cell
  | [], a, b => if b = 0 then [] else [(a, b)]
  | (k, v) :: r, a, b =>
    if a < k then (if b = 0 then (k, v) :: r else (a, b) :: (k, v) :: r)
    else if a = k then (if b = 0 then r else (k, b) :: r)
    else (k, v) :: memPut r a b

/-- Write bytes from an address on. -/
def memWrite (m : List Host.Cell) (a : Nat) : Bytes → List Host.Cell
  | [] => m
  | b :: r => memWrite (memPut m a b) (a + 1) r

/-- n bytes from an address on. -/
def memRead (m : List Host.Cell) (a n : Nat) : Bytes := (List.range n).map fun i => memGet m (a + i)

/-- Every listed address is above a bound, rising, and lists a byte other than 0. -/
def memFrom : Nat → List Host.Cell → Bool
  | _, [] => true
  | n, (k, v) :: r => decide (n ≤ k) && v != 0 && memFrom (k + 1) r

/-- The canonical form of memory: addresses strictly rising, no entry equal to what an unlisted address
reads. -/
def memWf (m : List Host.Cell) : Bool := memFrom 0 m

/-- The memory's contents are in canonical form. -/
abbrev Memory.wf (m : Memory) : Bool := memWf m.hbm

/-- Write bytes of device memory. -/
def State.writeHbm (s : State) (a : Nat) (b : Bytes) : State :=
  { s with memory := { s.memory with hbm := memWrite s.memory.hbm a b } }

/-- Abandon the contents of every stack (R469). -/
def State.dropHbm (s : State) : State := { s with memory := { s.memory with hbm := [] } }

/-! ## Stacks and the address map -/

/-- A stack of the state. -/
def State.stack (s : State) (h : Nat) : Stack := tabGet s.memory.hbmStacks h {}

/-- Store a stack. -/
def State.setStack (s : State) (h : Nat) (x : Stack) : State :=
  { s with memory := { s.memory with hbmStacks := tabPut s.memory.hbmStacks h x } }

/-- The stacks of the address map, in ascending order (R458). -/
def State.mapStacks (s : State) : List Nat := (List.range 4).filter fun h => (s.stack h).mapped

/-- The first address past the device address space (R458). -/
def State.hbmEnd (s : State) : Nat := s.mapStacks.length * 2 ^ 34

/-- Where an address lies among n stacks (R458): slot, pseudo-channel, address within it. -/
def decodeAddress (n a : Nat) : Nat × Nat × Nat :=
  let g := a / 256
  let q := g / n
  let x := (bits q 4 0 ^^^ bits q 9 5) ^^^ bits q 14 10
  (g % n, x, q / 32 * 256 + a % 256)

/-! ## Arbitration and refresh -/

/-- The class of a requestor port (R460): 0 RASTER, 1 CODING, 2 BULK. -/
def portClass (p : Nat) : Nat := if p ≤ 24 then 0 else if p ≤ 43 then 1 else 2

/-- The latency target of a port in ns (R460). -/
def portTarget (p : Nat) : Nat := if p ≤ 23 then 1000 else if p = 24 then 2000 else if p ≤ 43 then 4000 else 20000

/-- The urgency of a port by its age (R461). -/
def portUrgency (p age : Nat) : Nat :=
  let t := portTarget p
  if 4 * age < t then 0 else if 2 * age < t then 1 else if 4 * age < 3 * t then 2 else 3

/-- The rank of a port's request (R461). -/
def portRank (p age : Nat) : Nat :=
  let u := portUrgency p age
  match portClass p with
  | 0 => 5 - u
  | 1 => if u = 3 then 7 else if u = 2 then 8 else if u = 1 then 10 else 11
  | _ => if u = 3 then 9 else 12

/-- The postponement limit of a bank's refreshes (R463). -/
def Stack.limit (x : Stack) : Nat := if x.doubled then 4 else 8

/-- The rank at which a bank's refresh is presented (R461, R464, R465); none while none is owed. -/
def Stack.refreshRank (x : Stack) (bank : Nat) : Option Nat :=
  let b := tabGet x.banks bank x.rest
  let c := b.owed
  if c = 0 then none
  else if b.catchUp then some (if 12 ≤ c then 1 else 6)
  else if c < x.limit then some 13
  else if c = x.limit then some 6
  else some 1

/-! ## SRAM banks -/

/-- Banks leave retention and begin to wake (R473). -/
def State.wakeBanks (s : State) (bs : List Nat) : State :=
  let m := s.memory
  { s with memory := { m with
      retention := m.retention.filter fun b => !bs.contains b
      waking := m.waking ++ (bs.filter fun b => m.retention.contains b) } }

/-- Banks enter retention (R473). -/
def State.retainBanks (s : State) (bs : List Nat) : State :=
  let m := s.memory
  { s with memory := { m with
      retention := m.retention ++ (bs.filter fun b => !m.retention.contains b)
      waking := m.waking.filter fun b => !bs.contains b } }

/-- The flatten banks that carry a canvas's budget are awake, the others in retention (R233, R472, R473): budgets fill the
banks from SB16 on (log entry 37). -/
def State.flattenBanks (s : State) : State :=
  let units := (s.pictures.canvases.map fun e => e.2.budget).sum
  let used := (List.range 12).filter fun k => decide (32 * k < units)
  let all := List.range 12
  (s.wakeBanks (used.map (16 + ·))).retainBanks ((all.filter fun k => !used.contains k).map (16 + ·))

/-! ## Surfaces by address -/

/-- A surface by its handle (R216). -/
def State.surface (s : State) (h : Nat) : Option Surface :=
  (s.pictures.surfaces.find? fun e => e.1 == h).map (·.2)

/-- Store a surface. -/
def State.setSurface (s : State) (h : Nat) (x : Surface) : State :=
  { s with pictures := { s.pictures with surfaces := tabPut s.pictures.surfaces h x } }

/-- The surface that holds a device address (R471). -/
def State.surfaceAt (s : State) (a : Nat) : Option (Nat × Surface) :=
  s.pictures.surfaces.find? fun e => decide (e.2.addr ≤ a ∧ a < e.2.addr + e.2.size)

end Sys2Proof.Machine
end

