-- ==== Sys2Proof/Machine/Canvases.lean ====
section
/-! DEFINITION. Canvases, surfaces, Tsuerith Tile Compression, clone groups and Mirror (R212 to R243). -/

namespace Sys2Proof.Machine

/-! ## Sample formulas -/

/-- An 8-bit value widened to 12 bits (R231). -/
def widen8 (v : Nat) : Nat := v * 16 + v / 16
/-- A 10-bit value widened to 12 bits (R231). -/
def widen10 (v : Nat) : Nat := v * 4 + v / 256
/-- An 8-bit alpha at 10 bits (R232). -/
def alpha8 (a : Nat) : Nat := a * 4 + a / 64
/-- A 2-bit alpha at 10 bits (R232). -/
def alpha2 (a : Nat) : Nat := a * 341
/-- The effective alpha, rounded half up (R232). -/
def effectiveAlpha (pixel global : Nat) : Nat := (2 * pixel * global + 1023) / 2046
/-- Straight-alpha blending (R232). -/
def blendStraight (src dst a : Nat) : Nat := (src * a + dst * (1023 - a) + 511) / 1023
/-- Blending of a premultiplied source (R232). -/
def blendPremultiplied (src dst a global : Nat) : Nat := (src * global + dst * (1023 - a) + 511) / 1023

/-! ## Surface layouts -/

/-- The smallest multiple of m not below v. -/
def roundUp (v m : Nat) : Nat := ceilDiv v m * m

/-- Bytes that n pixels of a format take (R217); format 3 has pairs of 5 bytes. -/
def pixelBytes (format n : Nat) : Nat := if format = 3 then n / 2 * 5 else n * 4

/-- Bytes of a 32 × 8 tile (R218). -/
def tileBytes (format : Nat) : Nat := if format = 3 then 640 else 1024

/-- Tile columns and rows of a surface (R218, R221). -/
def tileGrid (w h : Nat) : Nat × Nat := (ceilDiv w 32, ceilDiv h 8)

/-- The body offset of a TTC surface (R221). -/
def ttcBody (w h : Nat) : Nat :=
  let g := tileGrid w h
  roundUp (64 + 8 * (g.1 * g.2)) 4096

/-- The stride of a surface: of LINEAR the one asked for, or the smallest valid one; else 0 (R216, R218). -/
def surfaceStride (layout format w stride : Nat) : Nat :=
  if layout = 0 then (if stride = 0 then roundUp (pixelBytes format w) 256 else stride) else 0

/-- The size of a surface in bytes (R218, R221). -/
def surfaceSize (layout format w h stride : Nat) : Nat :=
  let g := tileGrid w h
  match layout with
  | 0 => surfaceStride 0 format w stride * h
  | 1 => g.1 * g.2 * tileBytes format
  | _ => ttcBody w h + g.1 * g.2 * tileBytes format

/-- The TTC surface header of an allocation (R221). -/
def ttcHeader (format w h : Nat) : Bytes :=
  let g := tileGrid w h
  le 2 1 ++ le 1 format ++ zeros 1 ++ le 2 w ++ le 2 h ++ le 2 g.1 ++ le 2 g.2 ++ le 4 (ttcBody w h)
    ++ le 4 (g.1 * g.2 * tileBytes format) ++ zeros 44

/-! ## TTC tiles -/

/-- The largest value of component k of a format (R217, R223). -/
def componentMax (format k : Nat) : Nat :=
  match format with
  | 0 => 255
  | 3 => 1023
  | _ => if k = 0 then 3 else 1023

/-- The samples of component k in a sub-block (R223). -/
def componentSamples (format k : Nat) : Nat :=
  if format = 3 then (if k = 0 then 64 else if k = 3 then 0 else 32) else 64

/-- A field of n bits from a bit on, least significant first (R223). -/
def bitField (b : Bytes) (at_ n : Nat) : Nat := ule (b.drop (at_ / 8)) 0 4 / 2 ^ (at_ % 8) % 2 ^ n

/-- The number of bits of a value. -/
def bitsOf (v : Nat) : Nat := if v = 3 then 2 else if v = 255 then 8 else 10

/-- A sub-block is in error, or else the bytes it takes (R223, R224). -/
def subBlock (format : Nat) (b : Bytes) : Option Nat :=
  let w (k : Nat) : Nat := bits (u16 b (2 * k)) 13 10
  let base (k : Nat) : Nat := bits (u16 b (2 * k)) 9 0
  let start (k : Nat) : Nat := 64 + ((List.range k).map fun i => w i * componentSamples format i).sum
  let size := 8 * ceilDiv (start 4) 64
  let bad := (List.range 4).any fun k =>
    let n := componentSamples format k
    n != 0 && (decide (bitsOf (componentMax format k) < w k) || decide (componentMax format k < base k)
      || (List.range n).any fun i => decide (componentMax format k < base k + bitField b (start k + i * w k) (w k)))
  if bad || decide (b.length < size) then none else some size

/-- The four sub-blocks of a PACKED body fit its length and are free of errors (R224). -/
def packedOk (format : Nat) (b : Bytes) : Nat → Bool
  | 0 => true
  | n + 1 => match subBlock format b with
    | none => false
    | some k => packedOk format (b.drop k) n

/-- A tile is in error (R222, R224): its header, the size of the body area, and the body area's bytes. -/
def tileError (format header bodySize : Nat) (body : Nat → Nat → Bytes) : Bool :=
  let mode := bits header 1 0
  let raw := tileBytes format / 32
  let off := bits header 31 8 * 32
  let len := bits header 43 32
  match mode with
  | 0 => decide (bodySize < off + 32 * len) || len != raw
  | 1 => false
  | 2 => decide (bodySize < off + 32 * len) || decide (raw ≤ len) || !packedOk format (body off (32 * len)) 4
  | _ => true

/-! ## Surfaces -/

/-- A surface names its handle in a committed layer of a canvas or in the content of a panel port (R219). -/
def State.surfaceNamed (s : State) (h : Nat) : Bool :=
  (s.pictures.canvases.any fun e => e.2.layers.any fun l => match l.2.cfg with
    | some r => recSurface r == h
    | none => false)
  || s.panels.ports.any fun e => e.2.enabled && u8 e.2.content 1 == 1
      && (List.range 4).any fun i => u32 e.2.content (24 + 8 * i) == h

/-- A surface is read for a frame not yet composed (R219). -/
def State.surfaceRead (s : State) (h : Nat) : Bool :=
  s.pictures.canvases.any fun e => e.2.reading.contains h

/-- A surface is named by a frozen configuration: it is ACTIVE, unless it waits for its release (R219). -/
def State.activate (s : State) (h : Nat) : State :=
  match s.surface h with
  | none => s
  | some x => if x.state = .idle then s.setSurface h { x with state := .active } else s

/-- A surface's TTC header matches its allocation (R224). -/
def State.headerOk (s : State) (x : Surface) : Bool :=
  x.layout != 2 || memRead s.memory.hbm x.addr 64 == ttcHeader x.format x.width x.height

/-- An area of device memory is free of surfaces. -/
def State.areaFree (s : State) (a n : Nat) : Bool :=
  decide (a + n ≤ s.hbmEnd) && s.pictures.surfaces.all fun e =>
    decide (a + n ≤ e.2.addr ∨ e.2.addr + e.2.size ≤ a)

/-- The address of a new surface: the spec leaves its choice open, so it is a free value, held to a free
area of 4 KiB blocks; where that one is taken, the first free area after a surface (log entry 33). -/
def State.surfaceAddr (s : State) (n : Nat) : Option Nat :=
  let blocks := s.hbmEnd / 4096
  let a := s.free % (max 1 blocks) * 4096
  if s.areaFree a n then some a
  else (0 :: (s.pictures.surfaces.map fun e => roundUp (e.2.addr + e.2.size) 4096)).find? fun a => s.areaFree a n

/-- The arguments of SURFACE_ALLOCATE (R216, R217, R218). -/
def surfaceValid (p : Bytes) : Bool :=
  let w := u16 p 0
  let f := u8 p 4
  decide (16 ≤ w ∧ w ≤ 8192 ∧ 8 ≤ u16 p 2 ∧ u16 p 2 ≤ 8192 ∧ f ≤ 3 ∧ u8 p 5 ≤ 2) && (f != 3 || w % 2 == 0)
    && (u8 p 5 == 2 || u8 p 6 == 0)
    && (if u8 p 5 = 0 then u32 p 8 == 0 || (u32 p 8 % 256 == 0 && decide (pixelBytes f w ≤ u32 p 8)) else u32 p 8 == 0)

/-- SURFACE_ALLOCATE (R216, R221): handle, address, size and stride. -/
def surfaceAllocate : Cmd where
  opcode := 0x0603
  shape := exactly 16 [(7, 1), (12, 4)]
  args c _ := surfaceValid c.args
  run c s :=
    let p := c.args
    let w := u16 p 0
    let h := u16 p 2
    let f := u8 p 4
    let l := u8 p 5
    let stride := surfaceStride l f w (u32 p 8)
    let size := surfaceSize l f w h (u32 p 8)
    if l = 2 ∧ u8 p 6 ≠ 1 then s.deny stFormatMismatch
    else if 4096 ≤ s.pictures.surfaces.length then s.deny stNoCapacity
    else match s.surfaceAddr size with
      | none => s.deny stNoCapacity
      | some a =>
        let n := s.pictures.nextHandle
        let x : Surface := { addr := a, size, stride, width := w, height := h, format := f, layout := l }
        let s := s.tookFree.setSurface n x
        let s := { s with pictures := { s.pictures with nextHandle := n + 1 } }
        let s := if l = 2 then s.writeHbm a (ttcHeader f w h) else s
        s.done (le 4 n ++ le 8 a ++ le 8 size ++ le 4 stride)

/-- SURFACE_ALLOCATE. -/
def execSurfaceAllocate (r : Request) (s : State) : Host.Outcome State Fault Refusal :=
  .next (surfaceAllocate.serve r s)

/-- A surface is freed (R235). -/
def State.freeSurface (s : State) (h : Nat) : State :=
  { s with pictures := { s.pictures with surfaces := tabDrop s.pictures.surfaces h } }

/-- SURFACE_RELEASE (R235): the handle and 4 reserved bytes (log entry 20). -/
def surfaceRelease : Cmd where
  opcode := 0x0604
  shape := exactly 8 [(4, 4)]
  args c s := (s.surface (u32 c.args 0)).isSome
  run c s :=
    let h := u32 c.args 0
    match s.surface h with
    | none => s.deny stBadArgument
    | some x =>
      match x.state with
      | .idle => (s.freeSurface h).done
      | .afterglow => s.deny stSurfaceInUse
      | .active => (s.setSurface h { x with state := .afterglow, releaseJsn := some c.jsn }).pend c 0x0604 c.args

/-- SURFACE_RELEASE. -/
def execSurfaceRelease (r : Request) (s : State) : Host.Outcome State Fault Refusal :=
  .next (surfaceRelease.serve r s)

/-- The last use of a surface has passed (R235, R236): one in AFTERGLOW is freed and its command completes,
an ACTIVE one returns to IDLE. -/
def surfaceLastUsePassed (h : Nat) (s : State) : State :=
  match s.surface h with
  | none => s
  | some x =>
    if s.surfaceNamed h || s.surfaceRead h then s
    else match x.state with
      | .idle => s
      | .active => s.setSurface h { x with state := .idle }
      | .afterglow =>
        let s := s.freeSurface h
        match s.ccp.jobs.find? fun j => some j.jsn == x.releaseJsn with
        | some j => s.complete j stOk [] false
        | none => s

/-- SURFACE_LAST_USE_PASSED. -/
def execSurfaceLastUsePassed (h : Nat) (s : State) : Host.Outcome State Fault Refusal :=
  .next (surfaceLastUsePassed h s)

/-- SURFACE_WRITE (R220): request data into an IDLE surface, which is then READY. -/
def surfaceWrite : Cmd where
  opcode := 0x0608
  dma := .required
  shape := exactly 16 [(12, 4)]
  args c s := match s.surface (u32 c.args 0) with
    | none => false
    | some x => decide (u64 c.args 4 + c.data.length ≤ x.size)
  run c s :=
    let h := u32 c.args 0
    match s.surface h with
    | none => s.deny stBadArgument
    | some x =>
      if x.state ≠ .idle then s.deny stSurfaceInUse
      else ((s.writeHbm (x.addr + u64 c.args 4) c.data).setSurface h { x with ready := true }).done

/-- SURFACE_WRITE. -/
def execSurfaceWrite (r : Request) (s : State) : Host.Outcome State Fault Refusal :=
  .next (surfaceWrite.serve r s)

/-- SURFACE_READY (R220): the handle and 4 reserved bytes (log entry 20). -/
def surfaceReady : Cmd where
  opcode := 0x0609
  shape := exactly 8 [(4, 4)]
  args c s := (s.surface (u32 c.args 0)).isSome
  run c s :=
    match s.surface (u32 c.args 0) with
    | none => s.deny stBadArgument
    | some x => (s.setSurface (u32 c.args 0) { x with ready := true }).done

/-- SURFACE_READY. -/
def execSurfaceReady (r : Request) (s : State) : Host.Outcome State Fault Refusal :=
  .next (surfaceReady.serve r s)

/-- The code of a surface state (R219). -/
def SurfState.code : SurfState → Nat
  | .idle => 1
  | .active => 2
  | .afterglow => 3

/-- SURFACE_STATUS (R243; log entry 17). -/
def surfaceStatus : Cmd where
  opcode := 0x0681
  run _ s := s.done (Config.layout 0x0681 (s.pictures.surfaces.flatMap fun e =>
    ([e.1, e.2.state.code, b2n e.2.ready, e.2.blocked] : List Nat).map Int.ofNat))

/-- SURFACE_STATUS. -/
def execSurfaceStatus (r : Request) (s : State) : Host.Outcome State Fault Refusal :=
  .next (surfaceStatus.serve r s)

/-! ## Layer commits: validation -/

/-- The layer records of a LAYER_COMMIT payload (R225). -/
def commitRecords (p : Bytes) : List Bytes := (List.range (u8 p 2)).map fun i => slice p (8 + 64 * i) 64

/-- Put a record in place of the one of its layer. -/
def putRecord (l : List Bytes) (r : Bytes) : List Bytes :=
  if l.any fun x => recLayer x == recLayer r then l.map fun x => if recLayer x = recLayer r then r else x
  else l ++ [r]

/-- Insert a scheduled command after those whose effect is not later. -/
def insertSched (e : Sched) : List Sched → List Sched
  | [] => [e]
  | x :: r =>
    if posLe x.effect.frame x.effect.line e.effect.frame e.effect.line then x :: insertSched e r else e :: x :: r

/-- The scheduled commands of an opcode on a unit (its u16 at offset 0) up to an effect, in the order of their
effects (R49). -/
def State.schedOn (s : State) (opcode n : Nat) (e : Effect) : List Sched :=
  (s.ccp.schedule.filter fun x => x.opcode == opcode && u16 x.args 0 == n
    && posLe x.effect.frame x.effect.line e.frame e.line).foldl (fun l x => insertSched x l) []

/-- The layer records that will be in effect on a canvas at an effect point (R226). -/
def State.recordsAt (s : State) (c : Nat) (e : Effect) : List Bytes :=
  ((s.schedOn 0x0602 c e).flatMap fun x => commitRecords x.args).foldl putRecord (s.canvas c).records

/-- The canvas is enabled at an effect point. -/
def State.enabledAt (s : State) (c : Nat) (e : Effect) : Bool :=
  match (s.schedOn 0x0601 c e).getLast? with
  | some x => u8 x.args 2 == 1
  | none => (s.canvas c).enabled

/-- The codes of a layer record (R225). -/
def recordCodesOk (r : Bytes) : Bool :=
  let gfx := decide (4 ≤ recLayer r)
  decide (recLayer r < 16 ∧ u8 r 1 ≤ 1 ∧ u8 r 2 < 16 ∧ u8 r 3 < 4 ∧ u16 r 24 ≤ 1023) && (gfx || u8 r 3 == 0)
    && (decide (u8 r 26 ≤ 2) || u8 r 26 == 15) && (u8 r 26 == 15 || zeroAt r 28 24)
    && (if gfx then u8 r 52 == 0 && u8 r 53 == 0 else decide (u8 r 52 ≤ 2 ∧ u8 r 53 ≤ 2))

/-- A picture area with the whole picture for zeros. -/
def areaOf (r : Nat × Nat × Nat × Nat) (w h : Nat) : Nat × Nat × Nat × Nat :=
  if r = (0, 0, 0, 0) then (0, 0, w, h) else r

/-- An area lies within a picture and is not empty. -/
def inPicture (r : Nat × Nat × Nat × Nat) (w h : Nat) : Bool :=
  decide (r.1 + r.2.2.1 ≤ w ∧ r.2.1 + r.2.2.2 ≤ h ∧ 0 < r.2.2.1 ∧ 0 < r.2.2.2)

/-- The placement of a record on the canvas: of a graphics layer, zeros for width and height are the crop's
(R225). -/
def placedArea (r : Bytes) (cw ch w h : Nat) : Nat × Nat × Nat × Nat :=
  let p := recPlace r
  if 4 ≤ recLayer r then
    (p.1, p.2.1, if p.2.2.1 = 0 then cw else p.2.2.1, if p.2.2.2 = 0 then ch else p.2.2.2)
  else areaOf p w h

/-- The scaler line buffer takes a video layer (R227). -/
def lineBufferFits (cw ch pw ph : Nat) : Bool :=
  decide (min cw pw * (6 * max 1 (ceilDiv ch ph)) ≤ 49152)

/-- What is wrong with an enabled record's geometry (R226, R227). -/
def State.recordGeometry (s : State) (c : Nat) (r : Bytes) : Option Nat :=
  let f := s.groupFormat (s.canvas c).tg
  let w := activeWidth f.1
  let h := activeLines f.1
  if 4 ≤ recLayer r then
    match s.surface (recSurface r) with
    | none => some stBadArgument
    | some x =>
      let k := areaOf (recCrop r) x.width x.height
      let p := placedArea r k.2.2.1 k.2.2.2 w h
      if !inPicture k x.width x.height || !inPicture p w h || p.1 % 2 = 1 || p.2.2.1 % 2 = 1
        || p.2.2.1 != k.2.2.1 || p.2.2.2 != k.2.2.2 then some stBadArgument
      else if x.state = .afterglow then some stSurfaceInUse
      else none
  else
    let i := s.layerInput c (recLayer r)
    let k := areaOf (recCrop r) (activeWidth i.1) (activeLines i.1)
    let p := placedArea r 0 0 w h
    if !inPicture k (activeWidth i.1) (activeLines i.1) || !inPicture p w h || p.1 % 2 = 1 || p.2.2.1 % 2 = 1
      || !factorOk k.2.2.1 p.2.2.1 || !factorOk k.2.2.2 p.2.2.2 then some stBadArgument
    else if !lineBufferFits k.2.2.1 k.2.2.2 p.2.2.1 p.2.2.2 then some stLinebuf
    else none

/-- The FLATTEN layers of the enabled records. -/
def flattened (ls : List Bytes) : List Bytes := ls.filter fun r => recEnabled r && recFlatten r

/-- At most 4 FLATTEN layers, consecutive in z among the enabled layers (R226). -/
def flattenOk (ls : List Bytes) : Bool :=
  let zs := (flattened ls).map recZ
  decide (zs.length ≤ 4) && ls.all fun r => !recEnabled r || recFlatten r
    || !(zs.any (· < recZ r) && zs.any (recZ r < ·))

/-- What is wrong with a record among the records in effect (R226). -/
def State.recordRefusal (s : State) (c : Nat) (ls : List Bytes) (r : Bytes) : Option Nat :=
  if !recordCodesOk r then some stBadArgument
  else if recLayer r < 4 ∧ recSurface r ≠ 0 then some stBadArgument
  else if recSurface r ≠ 0 ∧ (s.surface (recSurface r)).isNone then some stBadArgument
  else if !recEnabled r then
    (match s.surface (recSurface r) with
     | some x => if x.state = .afterglow then some stSurfaceInUse else none
     | none => none)
  else if ls.any fun x => recEnabled x && recLayer x != recLayer r && recZ x == recZ r then some stBadArgument
  else if recFlatten r && !flattenOk ls then some stBadArgument
  else s.recordGeometry c r

/-- The bytes of the flattened image: 6 a pixel over the bounding rectangle of the FLATTEN layers (R233). -/
def State.flatBytes (s : State) (c : Nat) (ls : List Bytes) : Nat :=
  let f := s.groupFormat (s.canvas c).tg
  let ps := (flattened ls).map fun r =>
    let k := match s.surface (recSurface r) with
      | some x => areaOf (recCrop r) x.width x.height
      | none => (0, 0, 0, 0)
    placedArea r k.2.2.1 k.2.2.2 (activeWidth f.1) (activeLines f.1)
  match ps with
  | [] => 0
  | p :: _ =>
    let x0 := (ps.map (·.1)).foldl min p.1
    let y0 := (ps.map (·.2.1)).foldl min p.2.1
    let x1 := (ps.map fun q => q.1 + q.2.2.1).foldl max 0
    let y1 := (ps.map fun q => q.2.1 + q.2.2.2).foldl max 0
    6 * (x1 - x0) * (y1 - y0)

/-- A FLATTEN set that is not consecutive is the fault of the first record of the command that breaks it. -/
def State.commitRefusal (s : State) (c : Nat) (ls rs : List Bytes) : Option (Nat × Nat) :=
  match firstIndex rs fun _ r => (s.recordRefusal c ls r).isSome with
  | some i => some (i, ((rs[i]?).bind (s.recordRefusal c ls)).getD stBadArgument)
  | none => if flattenOk ls then none else some (0, stBadArgument)

/-- A canvas may be given work (R526, R531). -/
def State.canvasRefusal (s : State) (c : Nat) : Option Nat :=
  if s.canvasDown c then some stUnitFenced
  else if s.underTest 7 (s.canvasUnit c) then some stUnitBusy
  else none

/-! ## Layer commits: freeze -/

/-- A layer of a canvas. -/
def Canvas.layer (x : Canvas) (l : Nat) : Layer := tabGet x.layers l {}

/-- Store a layer. -/
def State.setLayer (s : State) (c l : Nat) (x : Layer) : State :=
  let y := s.canvas c
  s.setCanvas c { y with layers := tabPut y.layers l x }

/-- The layer of a record is ready (R229). -/
def State.recordReady (s : State) (c : Nat) (r : Bytes) : Bool :=
  if !recEnabled r then true
  else if 4 ≤ recLayer r then
    match s.surface (recSurface r) with
    | none => false
    | some x => x.ready && s.headerOk x
  else
    let i := s.layerInput c (recLayer r)
    inPicture (areaOf (recCrop r) (activeWidth i.1) (activeLines i.1)) (activeWidth i.1) (activeLines i.1)

/-- Some record of a commit still waits for its layer. -/
def State.commitWaits (s : State) (jsn : Nat) : Bool :=
  s.pictures.canvases.any fun e => e.2.layers.any fun l => match l.2.waiting with
    | some w => w.jsn == jsn
    | none => false

/-- A commit whose effect point has passed and that waits no longer gets its OUTCOME (R230): LATE_DISCARDED
when a record of it was discarded. -/
def State.settleCommit (s : State) (jsn : Nat) : State :=
  match s.ccp.schedule.find? fun e => e.jsn == jsn && e.opcode == 0x0602 && e.kind == 6 with
  | none => s
  | some e =>
    if s.commitWaits jsn then s
    else
      let c := u16 e.args 0
      let taken := (commitRecords e.args).any fun r => ((s.canvas c).layer (recLayer r)).cfg == some r
      s.effected e (b2n taken) false

/-- The pending record of a layer is discarded (R230). -/
def State.discardWaiting (s : State) (c l : Nat) : State :=
  let y := (s.canvas c).layer l
  match y.waiting with
  | none => s
  | some w =>
    let s := s.setLayer c l { y with waiting := none, expired := y.expired + 1 }
    let s := s.raiseAt .canvasCommitExpired (srcCanvas c) (s.canvas c).tg l
    (s.mapSched w.jsn fun e => { e with status := stLateDiscarded }).settleCommit w.jsn

/-- The records of a canvas name another set of FLATTEN layers, or another configuration of them: the image
is built anew (R234). -/
def State.reflatten (s : State) (c : Nat) (old : List Bytes) : State :=
  let x := s.canvas c
  let new := flattened (x.layers.filterMap (·.2.cfg))
  if new = flattened old then s
  else s.setCanvas c { x with flat := if new.isEmpty then .none else .building }

/-- A record is committed to its layer (R225). -/
def State.commitRecord (s : State) (c : Nat) (r : Bytes) : State :=
  let old := (s.canvas c).layers.filterMap (·.2.cfg)
  let y := (s.canvas c).layer (recLayer r)
  let s := s.setLayer c (recLayer r) { y with cfg := some r, waiting := none }
  (if recSurface r = 0 then s else s.activate (recSurface r)).reflatten c old

/-- A record that is not ready stays pending, counted once a frame (R224, R230). -/
def State.holdRecord (s : State) (c : Nat) (r : Bytes) (jsn held : Nat) : State :=
  let y := (s.canvas c).layer (recLayer r)
  let s := s.setLayer c (recLayer r) { y with
    waiting := some { rec_ := r, held := held + 1, jsn }, held := y.held + 1 }
  match s.surface (recSurface r) with
  | some x => if !s.headerOk x then s.raiseAt .ttcHeaderInvalid (srcSurface (recSurface r)) (s.canvas c).tg else s
  | none => s

/-- A record reaches its freeze (R229, R230, R235): a pending one of the layer is overtaken, and one whose
surface was freed is discarded. -/
def State.freezeRecord (s : State) (c jsn : Nat) (r : Bytes) : State :=
  let s := s.discardWaiting c (recLayer r)
  if recSurface r ≠ 0 ∧ (s.surface (recSurface r)).isNone then
    let y := (s.canvas c).layer (recLayer r)
    (s.setLayer c (recLayer r) { y with waiting := some { rec_ := r, held := 0, jsn } }).discardWaiting c (recLayer r)
  else if s.recordReady c r then s.commitRecord c r
  else s.holdRecord c r jsn 0

/-- A LAYER_COMMIT reaches its freeze (R228). -/
def State.freezeCommit (s : State) (e : Sched) : State :=
  let c := u16 e.args 0
  let s := { s with ccp := { s.ccp with schedule := begin_ e.jsn s.ccp.schedule } }
  (commitRecords e.args).foldl (fun s r => s.freezeRecord c e.jsn r) s

/-- Its first active line has come (R230): the OUTCOME, or the wait for the records that are not ready. -/
def State.takeCommit (s : State) (e : Sched) : State :=
  let s := if e.begun then s else s.freezeCommit e
  (s.mapSched e.jsn fun x => { x with kind := 6 }).settleCommit e.jsn

/-- A pending record is tested again at a Dusk line (R230). -/
def State.retryRecord (s : State) (c : Nat) (w : Waiting) : State :=
  if s.recordReady c w.rec_ then
    let t := s.tg (s.canvas c).tg
    (s.commitRecord c w.rec_).mapSched w.jsn fun x =>
      { x with effect := ⟨(s.canvas c).tg, t.pos.frame, firstActive t.raster⟩ }
  else s.holdRecord c w.rec_ w.jsn w.held

/-- The pending records of a canvas are tested again. -/
def State.retryRecords (s : State) (c : Nat) : State :=
  ((s.canvas c).layers.filterMap (·.2.waiting)).foldl (fun s w => s.retryRecord c w) s

/-- The surfaces that a canvas's committed layers read. -/
def Canvas.reads (x : Canvas) : List Nat :=
  ((x.layers.filterMap (·.2.cfg)).filter recEnabled |>.map recSurface).filter (· != 0)

/-- The tiles of a TTC surface that are in error (R224). -/
def State.badTiles (s : State) (x : Surface) : List Nat :=
  let g := tileGrid x.width x.height
  let body := x.addr + ttcBody x.width x.height
  (List.range (g.1 * g.2)).filter fun t =>
    tileError x.format (ule (memRead s.memory.hbm (x.addr + 64 + 8 * t) 8) 0 8) (g.1 * g.2 * tileBytes x.format)
      fun o n => memRead s.memory.hbm (body + o) n

/-- The tiles in error of the TTC surfaces that a canvas composes are counted and raised (R224). -/
def State.countTiles (s : State) (c : Nat) : State :=
  (s.canvas c).reads.foldl (fun s h =>
    match s.surface h with
    | none => s
    | some x =>
      if x.layout ≠ 2 ∨ x.ready = false then s
      else (s.badTiles x).foldl (fun s t =>
        let y := s.canvas c
        (s.setCanvas c { y with tileErrors := y.tileErrors + 1 }).raiseAt .ttcTileError (srcSurface h) y.tg t) s) s

/-- The Dusk line of a group freezes its canvases (R45, R228 to R234): pending records are tested, then the
commits frozen here in JSN order, and a built image comes into use. -/
def State.freezeCanvases (s : State) (g : Nat) : State :=
  let f := (s.tg g).pos.frame
  let cs := (s.pictures.canvases.filter fun e => e.2.tg == g).map (·.1)
  let s := cs.foldl (fun s c => s.retryRecords c) s
  let es := s.ccp.schedule.filter fun e =>
    e.opcode == 0x0602 && e.effect.tg == g && e.effect.frame == f && !e.begun
  let s := es.foldl (fun s e => s.freezeCommit e) s
  cs.foldl (fun s c =>
    let x := s.canvas c
    let s := s.setCanvas c { x with
      reading := if x.enabled then x.reads else [], flat := if x.flat = .built then .inUse else x.flat }
    if x.enabled then s.countTiles c else s) s

/-- A frame start of a group: the frame before is composed whole (R235, R243). -/
def State.composeCanvases (s : State) (g : Nat) : State :=
  let f (_ : Nat) (x : Canvas) : Canvas :=
    if x.tg = g then { x with reading := [], frames := x.frames + b2n x.enabled } else x
  { s with pictures := { s.pictures with canvases := tabMap f s.pictures.canvases } }

/-! ## LAYER_COMMIT -/

/-- The arguments of LAYER_COMMIT that do not rest on the layers in effect (R225). -/
def commitValid (p : Bytes) (s : State) : Bool :=
  let ls := (commitRecords p).map recLayer
  decide (u16 p 0 < 16 ∧ 1 ≤ u8 p 2 ∧ u8 p 2 ≤ 16) && s.present 7 (u16 p 0)
    && decide (p.length = 8 + 64 * u8 p 2) && ls.eraseDups.length == ls.length

/-- The reserved bytes of a LAYER_COMMIT payload (R225). -/
def commitShape (p : Bytes) : Bool :=
  decide (8 ≤ p.length ∧ p.length % 64 = 8) && zeroFields p [(3, 5)]
    && (List.range (p.length / 64)).all fun i => zeroFields p [(8 + 64 * i + 27, 1), (8 + 64 * i + 54, 10)]

/-- The charges of a commit: an item for each of its layers (R214). -/
def State.commitCharges (s : State) (c : Nat) (e : Effect) (rs : List Bytes) : List Charge :=
  let f := s.groupFormat (s.canvas c).tg
  (s.canvasItems c (s.enabledAt c e) f rs).map fun x => ⟨2, x.1, x.2⟩

/-- LAYER_COMMIT (R225 to R228, R233): the first failing record is named. -/
def layerCommit : Cmd where
  opcode := 0x0602
  timed := true
  shape := commitShape
  args c s := commitValid c.args s
  run c s :=
    let p := c.args
    let n := u16 p 0
    let x := s.canvas n
    let e := (s.place .firstActive x.tg c.req.atFrame.toNat c.req.atLine.toNat c.req.group.toNat
      (s.stampOf c.key x.tg)).effect
    let rs := commitRecords p
    let ls := rs.foldl putRecord (s.recordsAt n e)
    match s.canvasRefusal n with
    | some st => s.deny st
    | none =>
      match s.commitRefusal n ls rs with
      | some (i, st) => { status := st, payload := le 2 i, state := s }
      | none =>
        if x.budget * 65536 < s.flatBytes n ls then s.deny stNoCapacity
        else if (s.tg x.tg).enabled then
          s.schedule c 0x0602 .firstActive x.tg p (s.commitCharges n e rs)
            (s.fits (s.commitCharges n e rs))
        else (rs.foldl (fun s r => s.freezeRecord n c.jsn r) s).done

/-- LAYER_COMMIT. -/
def execLayerCommit (r : Request) (s : State) : Host.Outcome State Fault Refusal :=
  .next (layerCommit.serve r s)

/-- A pending record is discarded after 64 frames (R230). -/
def canvasCommitExpired (c l : Nat) (s : State) : State :=
  match ((s.canvas c).layer l).waiting with
  | some w => if 64 ≤ w.held then s.discardWaiting c l else s
  | none => s

/-- CANVAS_COMMIT_EXPIRED. -/
def execCanvasCommitExpired (c l : Nat) (s : State) : Host.Outcome State Fault Refusal :=
  .next (canvasCommitExpired c l s)

/-- The build of a flattened image is complete (R234). -/
def flattenBuildComplete (c : Nat) (s : State) : State :=
  let x := s.canvas c
  if x.flat = .building then s.setCanvas c { x with flat := .built, builds := x.builds + 1 } else s

/-- FLATTEN_BUILD_COMPLETE. -/
def execFlattenBuildComplete (c : Nat) (s : State) : Host.Outcome State Fault Refusal :=
  .next (flattenBuildComplete c s)

/-! ## CANVAS_CONFIGURE -/

/-- A colour code as byte 95 of R135: two nibbles. -/
def colourCodeOk (v : Nat) : Bool := decide (v % 16 ≤ 2 ∧ v / 16 ≤ 2)

/-- Three 10-bit components from 4 to 1,019, or all zero. -/
def colourOk (p : Bytes) (o : Nat) : Bool :=
  zeroAt p o 6 || ([0, 1, 2] : List Nat).all fun i => decide (4 ≤ u16 p (o + 2 * i) ∧ u16 p (o + 2 * i) ≤ 1019)

/-- The arguments of CANVAS_CONFIGURE (R215; log entry 24). -/
def canvasValid (p : Bytes) (s : State) : Bool :=
  decide (u16 p 0 < 16 ∧ u8 p 2 ≤ 1 ∧ u8 p 3 < 8 ∧ u8 p 5 ≤ 1) && s.present 7 (u16 p 0)
    && colourCodeOk (u8 p 4) && colourOk p 6 && (decide (u8 p 12 ≤ 3) || u8 p 12 == 0xFF)
    && (u8 p 2 == 0 || (s.tg (u8 p 3)).enabled)

/-- The settings of a canvas take effect (R212, R215). -/
def applyCanvas (p : Bytes) (s : State) : State :=
  let c := u16 p 0
  (s.setCanvas c { s.canvas c with cfg := padTo 24 p }).refreshSyncs.tellTallies

/-- A canvas with another group (R215). -/
def Canvas.inGroup (x : Canvas) (g : Nat) : Canvas :=
  { x with cfg := (padTo 24 x.cfg).set 3 (BitVec.ofNat 8 g) }

/-- The video-layer inputs of a canvas. -/
def canvasInputs (c : Nat) : List Nat := [0x3000 + 4 * c, 0x3001 + 4 * c, 0x3002 + 4 * c, 0x3003 + 4 * c]

/-- CANVAS_CONFIGURE (R214, R215): the group at acceptance, the rest at the first active line. -/
def canvasConfigure : Cmd where
  opcode := 0x0601
  timed := true
  shape := exactly 24 [(13, 11)]
  args c s := canvasValid c.args s
  run c s :=
    let p := c.args
    let n := u16 p 0
    let x := s.canvas n
    let g := u8 p 3
    match s.canvasRefusal n with
    | some st => s.deny st
    | none =>
      if g ≠ x.tg ∧ x.enabled then s.deny stUnitBusy
      else
        let s' := if g = x.tg then s else s.setCanvas n (x.inGroup g)
        let move := if g = x.tg then [] else s'.unitCharges (canvasInputs n) (0x3000 + n)
        if !s.fitsNow move then s.deny stNoCapacity
        else if !(s.tg g).enabled then (applyCanvas p s').done [] true
        else
          let e := (s.place .firstActive g c.req.atFrame.toNat c.req.atLine.toNat c.req.group.toNat
            (s.stampOf c.key g)).effect
          let charges : List Charge :=
            (s'.canvasItems n (u8 p 2 == 1) (s.groupFormat g) (s.recordsAt n e)).map fun y => ⟨2, y.1, y.2⟩
          let a := s'.schedule c 0x0601 .firstActive g p charges (s'.fits charges)
          if openStatus a.status then { a with state := a.state.refreshSyncs } else { a with state := s }

/-- CANVAS_CONFIGURE. -/
def execCanvasConfigure (r : Request) (s : State) : Host.Outcome State Fault Refusal :=
  .next (canvasConfigure.serve r s)

/-! ## CLONE_GROUP_SET -/

/-- The member entries of CLONE_GROUP_SET (R238). -/
def cloneMembers (p : Bytes) : List (Nat × Bool) :=
  (List.range (u8 p 2)).map fun i => (u16 p (8 + 4 * i), u8 p (10 + 4 * i) == 1)

/-- A destination may be a member: an SDI output, or a transmit flow of kind 0 or 4, of no other clone group
(R238). -/
def State.memberOk (s : State) (c d : Nat) : Bool :=
  decide (cls d ≤ 1) && s.destOk d && (cls d != 0 || s.sdiLane (idx d))
    && (cls d != 1 || pictureKind (s.tx (idx d)).kind)
    && (s.cloneOf d == none || s.cloneOf d == some c)

/-- The arguments of CLONE_GROUP_SET (R158, R238). -/
def cloneValid (p : Bytes) (s : State) : Bool :=
  let c := u16 p 0
  let ms := (cloneMembers p).map (·.1)
  let f := s.groupFormat (s.canvas c).tg
  decide (c < 16 ∧ u8 p 2 ≤ 16) && s.present 7 c && decide (u32 p 4 < samplesPerLine f.1 f.2)
    && ms.eraseDups.length == ms.length && ms.all (s.memberOk c)
    && (List.range 16).all fun i => decide (u8 p (10 + 4 * i) ≤ 1)
      && (decide (i < u8 p 2) || zeroAt p (8 + 4 * i) 4)

/-- What refuses a member (R238): a fence, another format, a route or a rule, a lock. -/
def State.memberRefusal (s : State) (c d : Nat) : Option Nat :=
  if s.destFenced d then some stUnitFenced
  else if (s.dest d).locked then some stDestinationLocked
  else if (s.dest d).source ≠ 0xF000 ∨ (s.rule d).isSome then some stUnitBusy
  else if s.destFormat d ≠ s.groupFormat (s.canvas c).tg
      ∨ (cls d = 0 ∧ !s.laneSends (idx d) (s.destFormat d)) then some stFormatMismatch
  else none

/-- The enables of a clone group take effect (R238). -/
def applyCloneEnables (p : Bytes) (s : State) : State :=
  let x := s.canvas (u16 p 0)
  let en := cloneMembers p
  let f (m : Nat × Bool × Bool) : Nat × Bool × Bool :=
    match en.find? (fun e => e.1 == m.1) with
    | some e => (m.1, e.2, e.2)
    | none => m
  s.setCanvas (u16 p 0) { x with members := x.members.map f }

/-- CLONE_GROUP_SET (R238): membership and offset at acceptance, the enables at the first active line. -/
def cloneGroupSet : Cmd where
  opcode := 0x0606
  timed := true
  shape := exactly 72 ((3, 1) :: (List.range 16).map fun i => (11 + 4 * i, 1))
  args c s := cloneValid c.args s
  run c s :=
    let p := c.args
    let n := u16 p 0
    let x := s.canvas n
    let ms := cloneMembers p
    let new := (ms.map (·.1)).filter fun d => !x.members.any fun m => m.1 == d
    match s.canvasRefusal n with
    | some st => s.deny st
    | none =>
      match (new.findSome? (s.memberRefusal n)) with
      | some st => s.deny st
      | none =>
        let was (d : Nat) : Bool := x.members.any fun o => o.1 == d && o.2.2
        let members := ms.map fun m => (m.1, m.2, was m.1)
        let s := s.setCanvas n { x with members, cloneFine := u32 p 4 }
        if (s.tg x.tg).enabled then s.schedule c 0x0606 .firstActive x.tg p [] (fun _ => true)
        else (applyCloneEnables p s).done [] true

/-- CLONE_GROUP_SET. -/
def execCloneGroupSet (r : Request) (s : State) : Host.Outcome State Fault Refusal :=
  .next (cloneGroupSet.serve r s)

/-! ## FLATTEN_BUDGET_SET -/

/-- FLATTEN_BUDGET_SET (R233): canvas (u16), budget in 64 KiB units (u16) and 4 reserved bytes (log entry 20), at
acceptance, standing. A budget that the image in use exceeds is refused. -/
def flattenBudgetSet : Cmd where
  opcode := 0x0607
  shape := exactly 8 [(4, 4)]
  args c s := decide (u16 c.args 0 < 16 ∧ u16 c.args 2 ≤ 384) && s.present 7 (u16 c.args 0)
  run c s :=
    let n := u16 c.args 0
    let k := u16 c.args 2
    let x := s.canvas n
    if s.canvasDown n then s.deny stUnitFenced
    else if !s.fitsNow [⟨113, n, k⟩] ∨ k * 65536 < s.flatBytes n x.records then s.deny stNoCapacity
    else (s.setCanvas n { x with budget := k }).flattenBanks.done [] true

/-- FLATTEN_BUDGET_SET. -/
def execFlattenBudgetSet (r : Request) (s : State) : Host.Outcome State Fault Refusal :=
  .next (flattenBudgetSet.serve r s)

/-! ## Status -/

/-- The code of a flattened image's state. -/
def Flat.code : Flat → Nat
  | .none => 0
  | .building => 1
  | .built => 2
  | .inUse => 3

/-- The values of one canvas (R243). -/
def canvasValues (s : State) (c : Nat) : List Int :=
  let x := s.canvas c
  let v : List Nat := [c, b2n x.enabled, x.tg, s.canvasCost c, s.canvasUnit c, x.budget, x.flat.code, x.cloneFine,
    x.frames, x.lateLines, x.scanLate, x.tileErrors, x.builds]
    ++ (x.members.flatMap fun m => [m.1, b2n m.2.1, b2n m.2.2])
    ++ (x.layers.flatMap fun e => [e.1, b2n e.2.waiting.isSome, e.2.held, e.2.expired]
      ++ ((e.2.cfg.getD []).map BitVec.toNat))
  v.map Int.ofNat

/-- CANVAS_STATUS (R243; log entry 17). -/
def canvasStatus : Cmd where
  opcode := 0x0680
  run _ s := s.done (Config.layout 0x0680 ((List.range 16).flatMap (canvasValues s)))

/-- CANVAS_STATUS. -/
def execCanvasStatus (r : Request) (s : State) : Host.Outcome State Fault Refusal :=
  .next (canvasStatus.serve r s)

/-- The Mirror of an output. -/
def State.mirror (s : State) (d : Nat) : Mirror := tabGet s.pictures.mirrors d {}

/-- Store the Mirror of an output. -/
def State.setMirror (s : State) (d : Nat) (x : Mirror) : State :=
  { s with pictures := { s.pictures with mirrors := tabPut s.pictures.mirrors d x } }

/-- MIRROR_STATUS (R243; log entry 17). -/
def mirrorStatus : Cmd where
  opcode := 0x0682
  run _ s := s.done (Config.layout 0x0682 ((List.range 144).flatMap fun d =>
    ((d :: (s.mirror d).lines ++ (s.mirror d).noSignal : List Nat)).map Int.ofNat))

/-- MIRROR_STATUS. -/
def execMirrorStatus (r : Request) (s : State) : Host.Outcome State Fault Refusal :=
  .next (mirrorStatus.serve r s)

/-! ## Mirror -/

/-- An SDI output lane is enabled and not squelched: its transmitter drives, and its lane path, if any, has not
taken its loss behaviour (R241, R242, R162). -/
def State.outputSends (s : State) (n : Nat) : Bool :=
  s.inService 1 n && (s.lane n).txEn && (s.quad (n / 4)).protocol == 1
    && !(s.halted && !(s.boot.retreat && ((s.dest n).lane || s.passed n)))
    && !((s.dest n).lane && (s.dest n).laneLoss && !(s.dest n).passLoss)

/-- A frame of an output with mismatched lines by link (R242): MIRROR_MISMATCH, with the path in its detail;
a frame without counts toward MIRROR_CLEAR. -/
def State.mirrorFrame (s : State) (n : Nat) (lines : List Nat) : State :=
  if !s.outputSends n then s
  else
    let m := s.mirror n
    if lines.sum = 0 then (if m.bad then s.setMirror n { m with clean := m.clean + 1 } else s)
    else (s.setMirror n { m with
        lines := (List.range 4).map fun k => m.lines.getD k 0 + lines.getD k 0, bad := true, clean := 0 }).raise
      .mirrorMismatch (srcDestination n) (b2n (s.dest n).lane)

/-- MIRROR_CLEAR after 60 consecutive frames without a mismatch (R242). -/
def mirrorClear (n : Nat) (s : State) : State :=
  let m := s.mirror n
  if m.bad ∧ 60 ≤ m.clean then (s.setMirror n { m with bad := false, clean := 0 }).raise .mirrorClear (srcDestination n)
  else s

/-- MIRROR_CLEAR. -/
def execMirrorClear (n : Nat) (s : State) : Host.Outcome State Fault Refusal := .next (mirrorClear n s)

/-- An output that is not squelched shows no TRS on a link for 2 frame periods (R242). -/
def mirrorNoSignal (n link : Nat) (s : State) : State :=
  if n < 144 ∧ s.outputSends n ∧ link < 4 then
    let m := s.mirror n
    (s.setMirror n { m with noSignal := m.noSignal.set link (m.noSignal.getD link 0 + 1) }).raise .mirrorNoSignal
      (srcDestination n) link
  else s

/-- MIRROR_NO_SIGNAL. -/
def execMirrorNoSignal (n link : Nat) (s : State) : Host.Outcome State Fault Refusal :=
  .next (mirrorNoSignal n link s)

end Sys2Proof.Machine
end

