-- ==== Sys2Proof/Machine/CapacityReport.lean ====
section
/-! DEFINITION. CAPACITY_REPORT (R27). -/

namespace Sys2Proof.Machine

/-- What scheduled commands hold of a pool (R27): for every object, the most that a scheduled charge
exceeds its charge now. -/
def State.reserved (s : State) (pool : Nat) : Nat :=
  let base := s.baseCharges pool
  let all := s.ccp.schedule.flatMap fun e => e.charges.filter fun c => c.pool == pool
  if poolDistinct pool then
    let used := base.map (·.2)
    ((all.map (·.amount)).filter fun a => a != 0 && !used.contains a).eraseDups.length
  else
    let items := (all.map (·.item)).eraseDups
    (items.map fun i =>
      let most := ((all.filter fun c => c.item == i).map (·.amount)).foldl max 0
      most - tabGet base i 0).sum

/-- In use now (R27). -/
def State.inUse (s : State) (pool : Nat) : Nat := poolTotal pool (s.baseCharges pool)

/-- The free part of a pool now and at every later scheduled point (R26, R27). -/
def State.freeNow (s : State) (pool : Nat) : Nat :=
  let tl := s.timeline []
  let points := (s.time.dt : Int) :: ((tl.map (·.dt)).filter fun d => (s.time.dt : Int) < d)
  let l := points.map fun d => s.poolLimit pool - poolTotal pool (s.chargesAt pool tl d)
  l.foldl min (l.headD 0)

/-- The largest single coding request admitted now: 8 K6 with an idle pair, else the free part of a core
that some mode may use (R27, R256, R257). -/
def State.largestCoding (s : State) : Nat :=
  let tl := s.timeline []
  let points := (s.time.dt : Int) :: ((tl.map (·.dt)).filter fun d => (s.time.dt : Int) < d)
  let idle (k : Nat) : Bool := s.inService 5 k && points.all fun d => s.coreModeAt k tl d == 0
  let free := s.freeNow 0
  let pair := ([0, 2, 4, 6] : List Nat).any fun k => idle k && idle (k + 1)
  let one := (s.coresUp.map fun k =>
    let l := points.map fun d => 64 - s.coreLoad k tl d 0xFFFF
    l.foldl min (l.headD 0)).foldl max 0
  if pair && 128 ≤ free then 128 else min one free

/-- The largest single request of a budget (R27): of conversion at most 4 K6 in a gang of 4 stopped
pipes, 2 K6 in a gang of 2, 1 K6 in a pipe; of composition 2 K6. -/
def State.largestRequest (s : State) (pool : Nat) : Nat :=
  match pool with
  | 0 => s.largestCoding
  | 1 =>
    let free (p : Nat) : Bool := s.inService 6 p && !(s.pipe (s.gangHead p)).enabled
    let run (n p : Nat) : Bool := (List.range n).all fun i => free (p + i)
    let best := if ((List.range 8).any fun i => run 4 (4 * i)) then 64
      else if ((List.range 16).any fun i => run 2 (2 * i)) then 32
      else if ((List.range 32).any free) then 16 else 0
    min best (s.freeNow 1)
  | _ => min 32 (s.freeNow 2)

/-- A budget record (R27). -/
def State.budgetRecord (s : State) (pool : Nat) : Bytes :=
  le 4 (s.poolLimit pool) ++ le 4 (s.inUse pool) ++ le 4 (s.reserved pool)
    ++ le 4 (s.largestRequest pool)

/-- A resource record (R27); of the schedule itself, reserved is 0. -/
def State.resourceRecord (s : State) (code : Nat) : Bytes :=
  le 2 code ++ zeros 2 ++ le 4 (s.poolLimit (100 + code)) ++ le 4 (s.inUse (100 + code))
    ++ le 4 (if code = 4 then 0 else s.reserved (100 + code))

/-- The capacity report (R27): header, three budget records, fifteen resource records. -/
def State.capacityReport (s : State) : Bytes :=
  le 2 3 ++ le 2 15 ++ zeros 4 ++ ([0, 1, 2].flatMap s.budgetRecord)
    ++ ((List.range 15).flatMap fun i => s.resourceRecord (i + 1))

/-- CAPACITY_REPORT (R27). -/
def capacityReport : Cmd where
  opcode := 0x0181
  run _ s := s.done s.capacityReport

/-- CAPACITY_REPORT. -/
def execCapacityReport (r : Request) (s : State) : Host.Outcome State Fault Refusal :=
  .next (capacityReport.serve r s)

end Sys2Proof.Machine
end

