-- ==== Sys2Proof/Machine/Lanes.lean ====
section
/-! DEFINITION. Quads and lanes: QUAD_ALLOCATE (R370), LANE_CONFIGURE (R373, R374), LANE_REARM (R385),
LANE_TEST_SET (R392), LANE_STATUS (R393), and what happens on a lane (R377 to R389). -/

namespace Sys2Proof.Machine

/-! ## QUAD_ALLOCATE -/

/-- The arguments of QUAD_ALLOCATE (R370). -/
def quadAllocValid (p : Bytes) (s : State) : Bool :=
  let pr := u8 p 1
  decide (pr ≤ 4) && s.present 2 (u8 p 0)
    && (match pr with
      | 1 => decide (u8 p 2 ≤ 1)
      | 2 => decide (u8 p 2 ≤ 2)
      | _ => u8 p 2 == 0)
    && (if pr = 2 ∧ u8 p 2 = 1 then decide (u8 p 3 ≤ 1) else u8 p 3 == 0)
    && (if pr = 4 then decide (10000000 ≤ u32 p 4 ∧ u32 p 4 ≤ 16000000) else u32 p 4 == 0)

/-- The four lanes of a quad. -/
def quadLanes (q : Nat) : List Nat := [4 * q, 4 * q + 1, 4 * q + 2, 4 * q + 3]

/-- QUAD_ALLOCATE takes effect (R370): on a change of protocol the lanes return to the reset values of
LANE_CONFIGURE, enabled in an ETHERNET, LIGHTPIPE or TEST quad; the QPLL retunes by Eclipse, and every
enabled lane begins training. -/
def applyQuadAlloc (p : Bytes) (s : State) : State :=
  let q := u8 p 0
  let pr := u8 p 1
  let old := s.quad q
  let s := s.setQuad q { old with protocol := pr, mode := u8 p 2, fec := u8 p 3, vco := u32 p 4 }
  let s := if old.protocol = pr then s
    else s.mapLanes (quadLanes q) (fun l => l.resetConfig (decide (2 ≤ pr)))
  let s := if pr = 0 then s.setPll (2 + q) { s.pll (2 + q) with state := 0 }
    else s.retune (2 + q) false 0
  s.restartLanes (quadLanes q)

/-- QUAD_ALLOCATE (R370). -/
def quadAllocate : Cmd where
  opcode := 0x0301
  shape := exactly 8 []
  args c s := quadAllocValid c.args s
  run c s :=
    let q := u8 c.args 0
    if s.fenced 2 q then s.deny stUnitFenced
    else if (quadLanes q).any s.laneWork then s.deny stUnitBusy
    else (applyQuadAlloc c.args s).done [] true

/-- QUAD_ALLOCATE. -/
def execQuadAllocate (r : Request) (s : State) : Host.Outcome State Fault Refusal :=
  .next (quadAllocate.serve r s)

/-! ## LANE_CONFIGURE -/

/-- The three link fields at an offset. -/
def linkFields (p : Bytes) (o : Nat) : List Nat := [u16 p o, u16 p (o + 2), u16 p (o + 4)]

/-- A link list fits an interface and R122: as many links as the interface has, listed first, all
distinct lanes of one sector in SDI quads, none in another group of the same direction. -/
def linksValid (s : State) (n iface : Nat) (ls : List Nat) (owner : Nat → Option Nat) : Bool :=
  let used := usedLinks ls
  let k := ifaceLinks iface - 1
  decide (used.length = k) && ls.take k == used && decide (n :: used).Nodup
    && used.all fun m => s.present 1 m && m / 36 == n / 36 && (s.quad (m / 4)).protocol == 1
      && (owner m == none || owner m == some n)

/-- A lane is link 1 of another group's links or not: a lane listed as link 2 to 4 of another group
takes no links of its own. -/
def notLinked (n : Nat) (owner : Nat → Option Nat) : Bool := owner n == none

/-- The arguments of LANE_CONFIGURE (R373, R374). -/
def laneConfigValid (p : Bytes) (s : State) : Bool :=
  let n := u16 p 0
  let q := s.quad (n / 4)
  s.present 1 n && q.protocol != 0
    && decide (u8 p 2 ≤ 1 ∧ u8 p 3 ≤ 1 ∧ u8 p 4 ≤ 11 ∧ u8 p 5 ≤ 11 ∧ u8 p 6 ≤ 1 ∧ u8 p 9 ≤ 2 ∧ u8 p 23 < 8)
    && decide (u8 p 22 ≤ 48)
    && decide (-16 ≤ i8 p 24 ∧ i8 p 24 ≤ 0 ∧ -26 ≤ i8 p 25 ∧ i8 p 25 ≤ 0 ∧ u8 p 26 ≤ 12)
    && (if q.protocol = 1 then
        notLinked n s.rxOwner && notLinked n s.txOwner
          && linksValid s n (u8 p 4) (linkFields p 10) s.rxOwner
          && linksValid s n (u8 p 5) (linkFields p 16) s.txOwner
          && (u8 p 6 == 0 || (if u8 p 4 = 0 then (autoIface (u8 p 7) (u8 p 8)).isSome
              else ifaceCarries (u8 p 4) (u8 p 7) (u8 p 8)))
      else u8 p 4 == 0 && u8 p 5 == 0 && u8 p 6 == 0 && u8 p 7 == 0 && u8 p 8 == 0
          && (linkFields p 10 ++ linkFields p 16).all fun x => x == 0 || x == 0xFFFF)

/-- LANE_CONFIGURE takes effect (R373): a change to an enable, an interface, a link list or a polarity
restarts training on the lanes concerned. -/
def applyLaneConfig (p : Bytes) (s : State) : State :=
  let n := u16 p 0
  let l := s.lane n
  let fix (x : List Nat) := if (s.quad (n / 4)).protocol = 1 then x else [0xFFFF, 0xFFFF, 0xFFFF]
  let l' : Lane := { l with
    rxEn := u8 p 2 == 1, txEn := u8 p 3 == 1, rxIface := u8 p 4, txIface := u8 p 5
    rxFixed := u8 p 6 == 1, rxRaster := if u8 p 6 = 1 then u8 p 7 else 0
    rxRate := if u8 p 6 = 1 then u8 p 8 else 0, eqMode := u8 p 9
    rxLinks := fix (linkFields p 10), txLinks := fix (linkFields p 16)
    ctleSet := u8 p 22, flags := u8 p 23, pre := i8 p 24, post := i8 p 25, swing := u8 p 26 }
  let again := l.rxEn != l'.rxEn || l.txEn != l'.txEn || l.rxIface != l'.rxIface
    || l.txIface != l'.txIface || l.rxLinks != l'.rxLinks || l.txLinks != l'.txLinks
    || l.flags % 4 != l'.flags % 4
  let l' := if l.rxEn then l' else { l' with lastUp := none }
  let lanes := n :: usedLinks l.rxLinks ++ usedLinks l'.rxLinks
  let s := s.setLane n l'
  if again then s.restartLanes lanes else s

/-- A LANE_CONFIGURE would send SD-SDI from a quad of the ÷1.001 family (R372). -/
def sdFromFractional (p : Bytes) (s : State) : Bool :=
  let q := s.quad (u16 p 0 / 4)
  q.protocol == 1 && q.mode == 1 && u8 p 5 == 1

/-- LANE_CONFIGURE (R373): a line-exact setting in the group its header names. -/
def laneConfigure : Cmd where
  opcode := 0x0302
  timed := true
  shape := exactly 32 [(27, 5)]
  args c s := laneConfigValid c.args s
  run c s :=
    if s.fenced 1 (u16 c.args 0) then s.deny stUnitFenced
    else if sdFromFractional c.args s then s.deny stFormatMismatch
    else s.schedule c 0x0302 .anyLine c.req.group.toNat c.args [] (fun _ => true)

/-- LANE_CONFIGURE. -/
def execLaneConfigure (r : Request) (s : State) : Host.Outcome State Fault Refusal :=
  .next (laneConfigure.serve r s)

/-! ## LANE_REARM -/

/-- LANE_REARM takes effect (R385): in every state but DISABLED the count is 0 and an attempt begins,
or the unit waits for signal. -/
def applyRearm (n : Nat) (s : State) : State :=
  if (s.lane n).state = .disabled then s
  else
    let u := s.unitOf n
    (s.mapLanes u fun l => { l with attempts := 0 }).attempt u

/-- LANE_REARM (R385). -/
def laneRearm : Cmd where
  opcode := 0x0303
  shape := exactly 8 [(2, 6)]
  args c s := s.present 1 (u16 c.args 0)
  run c s :=
    if s.fenced 1 (u16 c.args 0) then s.deny stUnitFenced
    else (applyRearm (u16 c.args 0) s).done

/-- LANE_REARM. -/
def execLaneRearm (r : Request) (s : State) : Host.Outcome State Fault Refusal :=
  .next (laneRearm.serve r s)

/-! ## LANE_TEST_SET -/

/-- A lane is of 64b/66b: in an Ethernet or Lightpipe quad (R379). -/
def State.is64b (s : State) (n : Nat) : Bool :=
  let p := (s.quad (n / 4)).protocol
  p == 2 || p == 3

/-- A lane is an SDI output (R392). -/
def State.isSdiOut (s : State) (n : Nat) : Bool := (s.quad (n / 4)).protocol == 1 && (s.lane n).txEn

/-- The arguments of LANE_TEST_SET (R388, R390 to R392). -/
def laneTestValid (p : Bytes) (s : State) : Bool :=
  let n := u16 p 0
  s.present 1 n && decide (u8 p 2 ≤ 5 ∧ u8 p 3 ≤ 5 ∧ u8 p 4 < 4 ∧ u8 p 5 ≤ 4 ∧ u8 p 7 ≤ 3)
    && (u8 p 5 != 2 || decide (3 ≤ u8 p 6 ∧ u8 p 6 ≤ 12))
    && (u8 p 5 != 3 || s.is64b n)
    && (u8 p 5 != 4 || (s.isSdiOut n && u16 p 10 != 0 && u16 p 8 != 0))

/-- LANE_TEST_SET takes effect (R389 to R392): a checker's counters restart when it is enabled. -/
def applyLaneTest (p : Bytes) (s : State) : State :=
  let n := u16 p 0
  let l := s.lane n
  let on := u8 p 3 != 0 && l.chk == 0
  let l' : Lane := { l with
    gen := u8 p 2, chk := u8 p 3, testInv := u8 p 4, inject := u8 p 5, injExp := u8 p 6
    injLine := u16 p 8, injFrames := u16 p 10
    chkLock := l.chkLock && !on && u8 p 3 != 0
    chkBits := if on then 0 else l.chkBits, chkErrors := if on then 0 else l.chkErrors
    chkLosses := if on then 0 else l.chkLosses }
  let s := s.setLane n l'
  s.setQuad (n / 4) { s.quad (n / 4) with loopback := u8 p 7 }

/-- The request asks for a new intrusive action on a lane or quad that carries work (R392). -/
def laneTestBusy (p : Bytes) (s : State) : Bool :=
  let n := u16 p 0
  let own := u8 p 2 != 0 || u8 p 5 != 0
  (own && s.laneWork n) ||
    (u8 p 7 != 0 && (quadLanes (n / 4)).any s.laneWork)

/-- LANE_TEST_SET (R392). -/
def laneTestSet : Cmd where
  opcode := 0x0305
  shape := exactly 16 [(12, 4)]
  args c s := laneTestValid c.args s
  run c s :=
    if s.fenced 1 (u16 c.args 0) then s.deny stUnitFenced
    else if laneTestBusy c.args s then
      s.deny (if flagAutoFence c.flags then stNoCapacity else stUnitBusy)
    else (applyLaneTest c.args s).done

/-- LANE_TEST_SET. -/
def execLaneTestSet (r : Request) (s : State) : Host.Outcome State Fault Refusal :=
  .next (laneTestSet.serve r s)

/-! ## LANE_STATUS -/

/-- The values LANE_STATUS gives of one lane (R393). -/
def laneValues (l : Lane) : List Int :=
  [(l.state.code : Int), l.phase, l.attempts, l.failPhase, l.detIface, l.detFamily, l.cdrOffset, l.ctle]
    ++ l.dfe ++ [(l.eyeH : Int), l.eyeV, l.skew, l.blockLosses, l.hiBer, l.bip3, l.fecCorr, l.fecUncorr,
      l.chkBits, l.chkErrors, l.chkLosses, l.errLines, l.trsErrors]

/-- LANE_STATUS (R393): for each present lane, in a layout the spec does not give (log entry 17). -/
def laneStatus : Cmd where
  opcode := 0x0380
  run _ s := s.done (Config.layout 0x0380
    (((List.range 144).filter (s.present 1)).flatMap fun n => laneValues (s.lane n)))

/-- LANE_STATUS. -/
def execLaneStatus (r : Request) (s : State) : Host.Outcome State Fault Refusal :=
  .next (laneStatus.serve r s)

/-! ## Happenings on a lane -/

/-- Signal appears on a lane (R384, R385): a unit in WAIT_SIGNAL begins an attempt once every lane has
signal; BACKOFF and FAILED are unchanged (R386). -/
def signalPresent (n : Nat) (s : State) : State :=
  let s := s.setLane n { s.lane n with signal := true }
  if (s.lane n).state = .waitSignal then s.attempt (s.unitOf n) else s

/-- LANE_SIGNAL_PRESENT. -/
def execLaneSignalPresent (n : Nat) (s : State) : Host.Outcome State Fault Refusal :=
  .next (if s.present 1 n then signalPresent n s else s)

/-- Signal is lost on a lane (R385, R386): an attempt is aborted with PARTNER_LOST and not counted; in
UP, LANE_DOWN; either way the whole unit waits for signal. -/
def signalLost (n : Nat) (s : State) : State :=
  let st := (s.lane n).state
  let s := s.setLane n { s.lane n with signal := false }
  let u := s.unitOf n
  match st with
  | .training => (s.mapLanes u Lane.wait).raise .partnerLost (srcLane n)
  | .up => ((s.mapLanes u Lane.wait).lanesDown u).raise .laneDown (srcLane n)
  | _ => s

/-- LANE_SIGNAL_LOST. -/
def execLaneSignalLost (n : Nat) (s : State) : Host.Outcome State Fault Refusal :=
  .next (if s.present 1 n then signalLost n s else s)

/-- A lane enters UP with what its receiver found (R385): interface and family of an SDI signal, the
frequency offset, the equaliser values reached. -/
def Lane.goUp (l : Lane) (iface family : Nat) (offset : Int) (ctle : Nat) (dfe : List Int) : Lane :=
  let c := if l.eqMode = 2 then l.ctleSet else ctle
  let d := if bit l.flags 2 then [] else dfe
  { l with state := .up, phase := 0, attempts := 0, cdrLock := true, frameLock := true
           detIface := iface, detFamily := family, cdrOffset := offset, ctle := c, dfe := d
           lastUp := some (c, d) }

/-- A training attempt completes its last phase (R385). A receive interface set explicitly takes only
its own rate (R375), so the attempt of another never completes. -/
def laneUp (n iface family : Nat) (offset : Int) (ctle : Nat) (dfe : List Int) (s : State) : State :=
  if (s.lane n).state = .training then
    let u := s.unitOf n
    (s.mapLanes u fun l => l.goUp iface family offset ctle dfe).raise .laneUp (srcLane n)
  else s

/-- The backoff after a failed attempt, in ms (R384). -/
def backoffMs (attempt : Nat) : Nat :=
  match attempt with
  | 1 => 10
  | 2 => 40
  | 3 => 160
  | 4 => 640
  | _ => 2000

/-- The measured skew of a unit's lanes, largest less smallest, in 0.1 ns (R382). -/
def State.unitSkew (s : State) (u : List Nat) : Nat :=
  let ks := u.map fun n => (s.lane n).skew
  (ks.foldl max 0 - ks.foldl min (ks.headD 0)) / 100

/-- LANE_SKEW_EXCEEDED of a unit, once for the link (R382): lowest lane, largest skew, latest lane. -/
def State.tellSkew (s : State) (u : List Nat) : State :=
  let first := u.headD 0
  let k := s.unitSkew u
  if 640 < k ∧ !s.lanes.skewTold.contains first then
    let late := u.findIdx fun n => (s.lane n).skew == (u.map fun m => (s.lane m).skew).foldl max 0
    let s := { s with lanes := { s.lanes with skewTold := first :: s.lanes.skewTold } }
    s.raise .laneSkewExceeded (srcLane first) (min 65535 k + late * 65536)
  else s

/-- An attempt timer expires in a phase (R385): the attempt is counted, and the unit enters BACKOFF, or
FAILED with LANE_FAILED after the 8th. `skews` are the skews measured in ALIGN, in ps. -/
def attemptTimeout (n phase : Nat) (skews : List Nat) (s : State) : State :=
  if (s.lane n).state = .training then
    let u := s.unitOf n
    let k := (s.lane n).attempts + 1
    let s := (List.range u.length).foldl (fun s i =>
      let m := u.getD i 0
      s.setLane m { s.lane m with skew := skews.getD i (s.lane m).skew }) s
    let s := if 2 ≤ u.length then s.tellSkew u else s
    let st := if k = 8 then Train.failed else .backoff
    let s := s.mapLanes u fun l => { l with state := st, phase := 0, failPhase := phase, attempts := k
                                            cdrLock := false, frameLock := false }
    if k = 8 then s.raise .laneFailed (srcLane n) else s
  else s

/-- The backoff ends and a new attempt begins (R385). -/
def backoffExpiry (n : Nat) (s : State) : State :=
  if (s.lane n).state = .backoff then s.attempt (s.unitOf n) else s

/-- BACKOFF_EXPIRY. -/
def execBackoffExpiry (n : Nat) (s : State) : Host.Outcome State Fault Refusal :=
  .next (backoffExpiry n s)

/-- Loss of CDR, block or marker lock in UP: LANE_DOWN, and a new attempt at once (R385). -/
def laneDown (n : Nat) (s : State) : State :=
  if (s.lane n).state = .up then
    let s := s.setLane n { s.lane n with blockLosses := (s.lane n).blockLosses + b2n (s.is64b n) }
    (s.attempt (s.unitOf n)).raise .laneDown (srcLane n)
  else s

/-- LANE_DOWN. -/
def execLaneDown (n : Nat) (s : State) : Host.Outcome State Fault Refusal := .next (laneDown n s)

/-- A high bit error rate: counted, a link fault to the MAC, no restart of training (R379). -/
def laneHiBer (n : Nat) (s : State) : State :=
  if s.present 1 n && s.is64b n then
    (s.setLane n { s.lane n with hiBer := (s.lane n).hiBer + 1, linkFault := true }).raise
      .laneHiBer (srcLane n)
  else s

/-- LANE_HI_BER. -/
def execLaneHiBer (n : Nat) (s : State) : Host.Outcome State Fault Refusal := .next (laneHiBer n s)

/-- An eye report, every 100 ms of CDR lock (R377, R551). -/
def eyeReport (n h v : Nat) (s : State) : State :=
  let l := s.lane n
  if l.cdrLock then s.setLane n { l with eyeH := h, eyeV := v, eyeReports := (l.eyeReports + 1) % 2 ^ 32 }
  else s

/-- EYE_MONITOR_REPORT. -/
def execEyeMonitorReport (n h v : Nat) (s : State) : Host.Outcome State Fault Refusal :=
  .next (eyeReport n h v s)

/-- The checker locks after 1,024 error-free bits, or loses lock and seeds itself again; only bits
received while locked are counted (R389). -/
def prbsLock (n : Nat) (locked : Bool) (bitsIn errors : Nat) (s : State) : State :=
  let l := s.lane n
  if l.chk = 0 then s
  else
    let l := if l.chkLock then { l with chkBits := l.chkBits + bitsIn, chkErrors := l.chkErrors + errors }
      else l
    s.setLane n { l with chkLock := locked, chkLosses := l.chkLosses + b2n (l.chkLock && !locked) }

/-- PRBS_CHECKER_LOCK. -/
def execPrbsCheckerLock (n : Nat) (locked : Bool) (bitsIn errors : Nat) (s : State) :
    Host.Outcome State Fault Refusal := .next (prbsLock n locked bitsIn errors s)

end Sys2Proof.Machine
end

