-- ==== Sys2Proof/Machine/Signals.lean ====
section
/-! DEFINITION. Inputs and flows: SDI frames (R119 to R128), LOSS (R150, R575), packets of receive
flows and their merge (R133 to R142), legs (R141), FLOW_CONFIGURE (R134 to R136), FLOW_STATUS,
FLOW_SDP. -/

namespace Sys2Proof.Machine

/-! ## SDI inputs -/

/-- How a lane's receiver is set (R120, R373). -/
def State.rxSet (s : State) (n : Nat) : RxSet :=
  let l := s.lane n
  { fixed := if l.rxFixed then some (l.rxRaster, l.rxRate) else none, iface := l.rxIface
    links := ifaceLinks l.rxIface }

/-- A field sequence matches a cadence (R189): 3:2 in any phase, or 2:2. -/
def cadenceOf (l : List Bool) : Nat :=
  let pat32 := [false, true, true, false, true]
  let pat22 := [false, true]
  let fits (pat : List Bool) (n : Nat) : Bool :=
    (List.range n).any fun k => (List.range 10).all fun i => l.getD (9 - i) false == pat.getD ((i + k) % n) false
  if l.length < 10 then 0 else if fits pat32 5 then 1 else if fits pat22 2 then 2 else 0

/-- The fields of a frame pass the cadence detector of a pipe (R189): it locks after 10 matching fields
and unlocks at the first that does not match. -/
def Pipe.cadenceStep (p : Pipe) (same : List Bool) : Pipe :=
  same.foldl (fun p b =>
    let l := (b :: p.fields).take 10
    let c := cadenceOf l
    { p with fields := l, cadence := c
             count := { p.count with
               locks := p.count.locks + b2n (p.cadence == 0 && c != 0)
               unlocks := p.count.unlocks + b2n (p.cadence != 0 && c == 0) } }) p

/-- A pipe's crop lies within a picture (R187). -/
def cropWithin (p : Bytes) (f : Nat × Nat) : Bool :=
  let z := u16 p 12 == 0 && u16 p 14 == 0 && u16 p 8 == 0 && u16 p 10 == 0
  z || (decide (u16 p 8 + u16 p 12 ≤ activeWidth f.1) && decide (u16 p 10 + u16 p 14 ≤ activeLines f.1))

/-- The pipes fed by a source meet a frame of it: cadence (R189), and a crop that no longer lies in
the picture is replaced by the whole picture (R187). -/
def State.pipesSee (s : State) (src : Nat) (m : Measures) : State :=
  s.conversion.pipes.foldl (fun s e =>
    let d := s.dest (0x2000 + e.1)
    if d.source ≠ src ∨ !e.2.enabled then s
    else
      let p := s.pipe e.1
      let f := s.sourceFormat src
      let p := if !bit (u8 p.cfg 7) 0 && (match f with | some x => interlaced x.1 | none => false) then
          p.cadenceStep m.samePicture else p
      let bad := match f with | some x => !cropWithin p.cfg x | none => false
      let p := { p with stored := match p.stored with
        | z :: r => { z with cut := m.cut } :: r
        | [] => [] }
      let s' := s.setPipe e.1 { p with cropInvalid := bad }
      if bad && !p.cropInvalid then s'.raise .pipeCropInvalid (srcPipe e.1) else s') s

/-- A deframed frame of an SDI input (R125): only from a receiver that is UP. -/
def sdiFrameReceived (n : Nat) (f : SdiFrame) (s : State) : State :=
  if s.sourceOk n && (s.quad (n / 4)).protocol == 1 && (s.rxGroup n).all (fun m => (s.lane m).state == .up) then
    let s := s.sdiFrame n (s.rxSet n) f
    let s := (List.range f.links.length).foldl (fun s k =>
      let m := (s.rxGroup n).getD k n
      let l := s.lane m
      match f.links[k]? with
      | none => s
      | some x => s.setLane m { l with errLines := l.errLines + x.crcLines.eraseDups.length
                                       trsErrors := l.trsErrors + x.trsErrors }) s
    s.pipesSee n f.picture
  else s

/-- SDI_FRAME_RECEIVED. -/
def execSdiFrameReceived (n : Nat) (f : SdiFrame) (s : State) : Host.Outcome State Fault Refusal :=
  .next (sdiFrameReceived n f s)

/-- The cause named by an INPUT_LOSS may hold of a source (R575): LANE_DOWN of a link whose unit is not
UP, or a cause that the deframer finds between two frames. -/
def lossHolds (s : State) (src reason link : Nat) : Bool :=
  cls src == 0 && s.sourceOk src &&
  match reason with
  | 1 => (s.lane ((s.rxGroup src).getD (link - 1) src)).state != .up
  | 2 | 3 => decide (1 ≤ link ∧ link ≤ (s.rxGroup src).length)
  | 4 | 5 | 6 => decide (2 ≤ (s.rxGroup src).length) && decide (1 ≤ link ∧ link ≤ (s.rxGroup src).length)
  | _ => false

/-- INPUT_LOSS: an input enters LOSS (R150). -/
def execInputLoss (src reason link : Nat) (s : State) : Host.Outcome State Fault Refusal :=
  .next (if !s.inLoss src && lossHolds s src reason link then s.enterLoss src reason link else s)

/-- An input leaves LOSS after 4 consecutive complete frames (R150). -/
def inputRestored (src : Nat) (s : State) : State :=
  if s.inLoss src && decide (4 ≤ (s.input src).good) then s.leaveLoss src else s

/-- INPUT_RESTORED. -/
def execInputRestored (src : Nat) (s : State) : Host.Outcome State Fault Refusal :=
  .next (inputRestored src s)

/-! ## Receive flows -/

/-- The identifier of the source that a receive flow is (R134). -/
def flowSource (n : Nat) : Nat := 0x1000 + n

/-- Change one leg of a receive flow. -/
def Flow.setLeg (f : Flow) (leg : Nat) (g : Leg → Leg) : Flow :=
  { f with legs := f.legs.modify leg g }

/-- A packet is one of the flow: its payload type, its SSRC (R135). -/
def Flow.matches (f : Flow) (p : IpPacket) : Bool :=
  f.kind == 7 || ((f.payloadType == 0xFF || f.payloadType == p.payloadType)
    && (f.ssrc == 0 || f.ssrc == p.ssrc))

/-- A packet falls outside the replay window of 1,024, or was accepted before (R144). -/
def Leg.replayed (l : Leg) (seq : Nat) : Bool :=
  l.replay.contains seq || (match l.high with | some h => decide (seq + 1024 ≤ h) | none => false)

/-- The counts a valid packet leaves on its leg (R153). -/
def Leg.took (l : Leg) (seq : Nat) : Leg :=
  let l := { l with received := l.received + 1, seen := true
                    replay := (seq :: l.replay).take 1024 }
  match l.high with
  | none => { l with high := some seq }
  | some h =>
    if h < seq then { l with high := some seq, lostCount := l.lostCount + (seq - h - 1) }
    else if seq = h then { l with duplicate := l.duplicate + 1 }
    else { l with outOfOrder := l.outOfOrder + 1 }

/-- Active samples of a frame of a flow (R150). -/
def Flow.frameSize (f : Flow) : Nat := activeWidth f.raster * activeLines f.raster

/-- The packet breaks the configured format (R150): a line or sample beyond the raster, or a length that
does not fit the sampling. -/
def Flow.breaksFormat (f : Flow) (p : IpPacket) : Bool :=
  !p.fits || p.rows.any fun r =>
    decide (activeLines f.raster ≤ r.1) || decide (activeWidth f.raster < r.2.1 + r.2.2)

/-- The interval between two RTP timestamps differs from the frame period by more than 1 % (R150). -/
def Flow.badInterval (f : Flow) (a b : Nat) : Bool :=
  let d : Int := ((b + 2 ^ 32 - a) % 2 ^ 32 : Nat)
  let x := frameFraction f.raster f.rate
  let p : Int := 90000 * x.2
  decide (p < 100 * (d * x.1 - p).natAbs)

/-- The ancillary packets that travel with the frame of a timestamp: its own and those of the associated
flow (R136). -/
def State.frameAnc (s : State) (f : Flow) (ts : Nat) : List AncPacket :=
  let a := u16 f.cfg 116
  let more := if a = 0xFFFF then [] else
    (((s.rx a).ancByTs.find? fun e => e.1 == ts).map (·.2)).getD []
  f.anc ++ more

/-- The frame in progress of an ST 2110-20 flow ends (R137, R150). -/
def State.endFlowFrame (s : State) (n : Nat) (m : Measures) : State :=
  let f := s.rx n
  let src := flowSource n
  let (held, c) := (s.input src).takeAnc (s.frameAnc f (f.frameTs.getD 0))
  let whole := f.samples == f.frameSize
  let i := s.input src
  let s := s.setInput src { i with count := c, picture := some m, format := some (f.raster, f.rate) }
  let s := s.closeFrame src (whole && decide (f.badStep < 4)) held
  let s := s.setRx n { f with samples := 0, second := false, anc := [] }
  s.pipesSee src m

/-- A packet of an ST 2110-20 flow is placed in its frame (R137, R150). -/
def State.placeVideo (s : State) (n : Nat) (p : IpPacket) : State :=
  let f := s.rx n
  let src := flowSource n
  if f.breaksFormat p then
    let s := s.spoilFrame src
    s.enterLoss src 3 0
  else
    let new := f.ts != some p.ts
    let fresh := new && !(interlaced f.raster && f.second && f.frameTs.isSome)
    let s := if fresh then
        let late := (s.input src).start.isSome
        let s := if late then s.endFlowFrame n p.picture else s
        let f := s.rx n
        let step := match f.frameTs with
          | some t => if f.badInterval t p.ts then f.badStep + 1 else 0
          | none => 0
        let s := s.setRx n { f with ts := some p.ts, frameTs := some p.ts, badStep := step }
        let s := s.openFrame src s.time.dt
        if 4 ≤ step then s.enterLoss src 3 0 else s
      else s.setRx n { f with ts := some p.ts }
    let f := s.rx n
    let s := s.setRx n { f with samples := f.samples + (p.rows.map (·.2.2)).sum, anc := f.anc ++ p.anc }
    if p.marker then
      let f := s.rx n
      if interlaced f.raster && !f.second then s.setRx n { f with second := true }
      else s.endFlowFrame n p.picture
    else s

/-- A packet of the merged flow is released, by its kind (R136, R139, R140). -/
def State.release (s : State) (n : Nat) (p : IpPacket) : State :=
  let f := s.rx n
  let s := s.setRx n { f with received := f.received + 1 }
  match f.kind with
  | 0 => s.placeVideo n p
  | 3 =>
    let f := s.rx n
    let old := ((f.ancByTs.find? fun e => e.1 == p.ts).map (·.2)).getD []
    s.setRx n { f with ancByTs :=
      ((p.ts, old ++ p.anc) :: f.ancByTs.filter fun e => e.1 != p.ts).take 4 }
  | 4 =>
    match p.sdi with
    | some x => (s.sdiFrame (flowSource n) { fixed := none, iface := 0, links := 1 } x).pipesSee
        (flowSource n) x.picture
    | none => s
  | _ => s

/-- Release the held packets that are next in sequence (R140). -/
def State.releaseHeld (s : State) (n : Nat) : Nat → State
  | 0 => s
  | k + 1 =>
    let f := s.rx n
    match f.held, f.next with
    | p :: r, some m =>
      if p.seq = m then
        ((s.setRx n { f with held := r, next := some (m + 1) }).release n p).releaseHeld n k
      else s
    | _, _ => s

/-- Insert a packet into the held ones by sequence number. -/
def holdPacket (p : IpPacket) : List IpPacket → List IpPacket
  | [] => [p]
  | q :: r => if p.seq < q.seq then p :: q :: r else q :: holdPacket p r

/-- A valid packet meets the merge (R140). A flow of one leg takes its packets as they come, counting
gaps; a single-leg coded flow holds for the reorder window as a merge does (R308). -/
def State.mergePacket (s : State) (n leg : Nat) (p : IpPacket) : State :=
  let f := s.rx n
  let other := f.legs.getD (1 - leg) {}
  let merged := f.legCount == 2 || codedKind f.kind
  match f.next with
  | none => (s.setRx n { f with next := some (p.seq + 1) }).release n p
  | some m =>
    if p.seq < m then
      if merged then s.setRx n { f with duplicate := f.duplicate + 1 }
      else (s.setRx n { f with outOfOrder := f.outOfOrder + 1 }).release n p
    else if f.held.any fun q => q.seq == p.seq then s.setRx n { f with duplicate := f.duplicate + 1 }
    else if p.seq = m then
      let rec_ := f.legCount == 2 && (match other.high with | some h => decide (m < h) | none => false)
      let s := s.setRx n { f with next := some (m + 1), recovered := f.recovered + b2n rec_ }
      (s.release n p).releaseHeld n (f.held.length)
    else if merged then s.setRx n { f with held := holdPacket p f.held, outOfOrder := f.outOfOrder + 1 }
    else (s.setRx n { f with next := some (p.seq + 1), lost := f.lost + (p.seq - m) }).release n p

/-- A packet of a receive flow arrives on a leg (R133 to R144). -/
def ipPacketReceived (n leg : Nat) (p : IpPacket) (s : State) : State :=
  let f := s.rx n
  if !(decide (n < 512) && f.enabled && decide (leg < f.legCount)) then s
  else if p.fragment then
    s.setRx n (f.setLeg leg fun l => { l with fragments := l.fragments + 1 })
  else if p.overrun then
    let s := s.setRx n (f.setLeg leg fun l => { l with overrun := l.overrun + 1 })
    let k := f.port leg
    let pt := tabGet s.signals.ports k {}
    { s with signals := { s.signals with ports := tabPut s.signals.ports k { pt with dropped := pt.dropped + 1 } } }
  else if !f.matches p then s
  else if f.handle != 0 && !s.keyUsable f.handle then s
  else if f.handle != 0 && (!p.authentic || (f.legs.getD leg {}).replayed p.seq) then
    s.setRx n (f.setLeg leg fun l => { l with srtpFail := l.srtpFail + 1 })
  else
    (s.setRx n (f.setLeg leg fun l => l.took p.seq)).mergePacket n leg p

/-- IP_PACKET_RECEIVED. -/
def execIpPacketReceived (n leg : Nat) (p : IpPacket) (s : State) : Host.Outcome State Fault Refusal :=
  .next (if s.halted then s else ipPacketReceived n leg p s)

/-- The merge window of the first missing packet ends (R140): every number up to the first held one is
lost. -/
def mergeWindowExpiry (n : Nat) (s : State) : State :=
  let f := s.rx n
  match f.held, f.next with
  | p :: _, some m =>
    if m < p.seq ∧ f.enabled then
      let s := s.setRx n { f with next := some p.seq, lost := f.lost + (p.seq - m) }
      let s := if f.kind = 0 then s.spoilFrame (flowSource n) else s
      s.releaseHeld n f.held.length
    else s
  | _, _ => s

/-- MERGE_WINDOW_EXPIRY. -/
def execMergeWindowExpiry (n : Nat) (s : State) : Host.Outcome State Fault Refusal :=
  .next (mergeWindowExpiry n s)

/-- No valid packet on any leg for 2 frame periods: the flow is in LOSS (R150). -/
def flowNoPacketTimeout (n : Nat) (s : State) : State :=
  let f := s.rx n
  if f.enabled && pictureKind f.kind && !s.inLoss (flowSource n) then
    (s.spoilFrame (flowSource n)).enterLoss (flowSource n) 7 0
  else s

/-- FLOW_NO_PACKET_TIMEOUT. -/
def execFlowNoPacketTimeout (n : Nat) (s : State) : Host.Outcome State Fault Refusal :=
  .next (flowNoPacketTimeout n s)

/-- A leg has had no valid packet for the leg loss timeout (R141). -/
def flowLegLost (n leg : Nat) (s : State) : State :=
  let f := s.rx n
  if f.enabled && decide (leg < f.legCount) && !(f.legs.getD leg {}).lost then
    (s.setRx n (f.setLeg leg fun l => { l with lost := true, seen := false })).raise .flowLegLost
      (srcFlowRx n) leg
  else s

/-- FLOW_LEG_LOST. -/
def execFlowLegLost (n leg : Nat) (s : State) : Host.Outcome State Fault Refusal :=
  .next (flowLegLost n leg s)

/-- A lost leg is good again after one timeout with packets on it (R141). -/
def flowLegRestored (n leg : Nat) (s : State) : State :=
  let f := s.rx n
  let l := f.legs.getD leg {}
  if f.enabled && decide (leg < f.legCount) && l.lost && l.seen then
    s.setRx n (f.setLeg leg fun l => { l with lost := false })
  else s

/-- FLOW_LEG_RESTORED. -/
def execFlowLegRestored (n leg : Nat) (s : State) : Host.Outcome State Fault Refusal :=
  .next (flowLegRestored n leg s)

/-- An ARP, NDP or ICMP echo request arrives on an Ethernet port: firmware answers it (R132). -/
def execArpNdpIcmpEcho (port : Nat) (s : State) : Host.Outcome State Fault Refusal :=
  .next (if s.ethernetPort port && (s.lane port).state == .up && s.fwRunning then
      let p := tabGet s.signals.ports port {}
      { s with signals := { s.signals with
          ports := tabPut s.signals.ports port { p with answers := p.answers + 1 } } }
    else s)

/-! ## FLOW_CONFIGURE -/

/-- The kinds with an RTP header. -/
def rtpKind (k : Nat) : Bool := k != 7

/-- A row of R335 allows the channels, packet time and rate of an ST 2110-30 flow. -/
def audioLevel (channels time rate : Nat) : Bool :=
  if rate = 0 then decide (1 ≤ channels) && (if time = 0 then decide (channels ≤ 8) else decide (channels ≤ 64))
  else decide (1 ≤ channels) && (if time = 0 then decide (channels ≤ 4) else decide (channels ≤ 32))

/-- The fields of an address by IP version (R135). -/
def addressOk (p : Bytes) (o : Nat) : Bool := u8 p 6 == 6 || zeroAt p (o + 4) 12

/-- The fields common to every kind, and those of the legs (R135, R140). -/
def flowLegsOk (p : Bytes) (s : State) : Bool :=
  let two := u8 p 5 == 2
  decide (u16 p 0 < 512 ∧ u8 p 2 ≤ 1 ∧ u8 p 3 ≤ 8 ∧ u8 p 4 ≤ 1)
    && (u8 p 5 == 1 || two) && (u8 p 6 == 4 || u8 p 6 == 6)
    && s.ethernetPort (u16 p 8) && decide (u16 p 12 ≤ 4094) && addressOk p 16 && addressOk p 32
    && u16 p 80 != 0
    && (if two then s.ethernetPort (u16 p 10) && decide (u16 p 14 ≤ 4094) && addressOk p 48 && addressOk p 64
          && u16 p 82 != 0
          && (u16 p 8 != u16 p 10 || u16 p 12 != u16 p 14 || slice p 16 16 != slice p 48 16)
        else u16 p 10 == 0 && u16 p 14 == 0 && zeroAt p 48 32 && u16 p 82 == 0)

/-- The fields that depend on the direction (R135). -/
def flowDirectionOk (p : Bytes) : Bool :=
  let k := u8 p 3
  if u8 p 2 = 1 then
    (decide (u8 p 7 ≤ 63) || u8 p 7 == 0xFF) && u16 p 84 != 0
      && (if rtpKind k then decide (96 ≤ u8 p 86 ∧ u8 p 86 ≤ 127) else u8 p 86 == 0 && u32 p 88 == 0)
      && u32 p 108 == 0 && u16 p 112 == 0
      && (if k = 0 then decide (u8 p 96 ≤ 2 ∧ u8 p 97 ≤ 1) else u8 p 96 == 0 && u8 p 97 == 0)
      && u16 p 116 == 0 && zeroAt p 120 32
  else
    u8 p 7 == 0 && u16 p 84 == 0
      && (if rtpKind k then (decide (96 ≤ u8 p 86 ∧ u8 p 86 ≤ 127) || u8 p 86 == 0xFF)
          else u8 p 86 == 0 && u32 p 88 == 0)
      && (u32 p 108 == 0 || decide (100 ≤ u32 p 108 ∧ u32 p 108 ≤ 150000)) && decide (u16 p 112 ≤ 1000)
      && u8 p 96 == 0 && u8 p 97 == 0

/-- The fields that depend on the kind (R135). -/
def flowKindOk (p : Bytes) : Bool :=
  let k := u8 p 3
  let rx := u8 p 2 == 0
  (if k = 0 ∨ k = 3 ∨ k = 4 then formatValid (u8 p 92) (u8 p 93) else u8 p 92 == 0 && u8 p 93 == 0)
    && (k != 4 || [1, 2, 3, 4].any fun i => ifaceCarries i (u8 p 92) (u8 p 93))
    && (if k = 0 then decide (u8 p 94 ≤ (if rx then 2 else 0)) && decide (u8 p 95 % 16 ≤ 2 ∧ u8 p 95 / 16 ≤ 2)
        else u8 p 94 == 0 && u8 p 95 == 0)
    && (if k = 1 ∨ k = 2 then
          decide (1 ≤ u8 p 98 ∧ u8 p 98 ≤ 64 ∧ u8 p 99 ≤ 1 ∧ u8 p 101 ≤ 1)
            && (if k = 1 then decide (u8 p 100 ≤ 1) && audioLevel (u8 p 98) (u8 p 99) (u8 p 101)
                else u8 p 100 == 0 && u8 p 98 % 2 == 0)
        else u8 p 98 == 0 && u8 p 99 == 0 && u8 p 100 == 0 && u8 p 101 == 0)
    && (if codedKind k then decide (u16 p 102 < (if rx then 16 else 32)) else u16 p 102 == 0)
    && (u32 p 104 == 0 || k == 5 || k == 6 || k == 8)
    && (if k = 7 ∨ k = 8 then decide (u16 p 114 ≤ 7) else u16 p 114 == 0)

/-- The flow indices that a payload names as associates (R136). -/
def assocOf (p : Bytes) : List Nat :=
  ((u16 p 116) :: (List.range 16).map fun i => u16 p (120 + 2 * i)).filter fun v => v != 0xFFFF

/-- The associates of a receive ST 2110-20 flow (R135, R136): existing indices, each the associate of at
most one video flow; other flows name none. -/
def flowAssocOk (p : Bytes) (s : State) : Bool :=
  if u8 p 2 = 0 ∧ u8 p 3 = 0 then
    let l := assocOf p
    l.all (fun v => decide (v < 512)) && l.eraseDups.length == l.length
      && l.all fun v => !(s.signals.rx.any fun e =>
        e.1 != u16 p 0 && e.2.enabled && e.2.kind == 0 && (assocOf e.2.cfg).contains v)
  else zeroAt p 116 2 && zeroAt p 120 32

/-- No second enabled receive flow names the same decode channel (R308), no second transmit flow the same
key handle (R449). -/
def flowSingleOk (p : Bytes) (s : State) : Bool :=
  if u8 p 4 = 0 then true
  else if u8 p 2 = 0 then
    !(codedKind (u8 p 3) && s.signals.rx.any fun e =>
      e.1 != u16 p 0 && e.2.enabled && codedKind e.2.kind && e.2.coding == u16 p 102)
  else
    !(u32 p 104 != 0 && s.signals.tx.any fun e => e.1 != u16 p 0 && e.2.enabled && e.2.handle == u32 p 104)

/-- The arguments of FLOW_CONFIGURE (R135). -/
def flowValid (p : Bytes) (s : State) : Bool :=
  flowLegsOk p s && flowDirectionOk p && flowKindOk p && flowAssocOk p s && flowSingleOk p s
    && (u32 p 104 == 0 || s.keyDirection (u32 p 104) (u8 p 2 == 1))

/-- The line rate of a port in bit/s (R132). -/
def State.portRate (s : State) (lane : Nat) : Nat :=
  match (s.quad (lane / 4)).mode with
  | 0 => 10000000000
  | 1 => 25000000000
  | _ => 100000000000

/-- The transmit rate of a flow in bit/s, headers included (R134, R143); the packet sizes are those of
its standard (log entry 22). -/
def State.flowRate (s : State) (f : Flow) : Nat :=
  Config.flowRate f.cfg (match s.enc f.coding with | some e => u32 e.cfg 20 * 1000 | none => 0)

/-- The transmit flows of a port with one flow replaced total at most 95 % of its line rate (R134). -/
def State.portFits (s : State) (lane n : Nat) (new : Flow) : Bool :=
  let others := (s.signals.tx.filter fun e => e.1 != n && e.2.uses lane).map fun e => s.flowRate e.2
  decide ((others.sum + (if new.uses lane then s.flowRate new else 0)) * 100 ≤ s.portRate lane * 95)

/-- A receive flow is configured (R135, R141, R150): legs that are unchanged keep their state, and a flow
that becomes enabled starts in LOSS. -/
def applyRxFlow (p : Bytes) (s : State) : State :=
  let n := u16 p 0
  let f := s.rx n
  let on := u8 p 4 == 1
  let fresh := !f.enabled || u8 p 3 != f.kind || u8 p 6 != u8 f.cfg 6 || u8 p 5 != f.legCount
  let legs := (List.range 2).map fun k =>
    let l := f.legs.getD k {}
    if fresh || !sameLeg f.cfg p k then { l with lost := false, seen := false, high := none, replay := [] }
    else l
  let f' : Flow := { f with
    cfg := p, legs, next := if fresh then none else f.next, held := if fresh then [] else f.held
    keyTold := false
    oldKey := if f.enabled ∧ f.handle ≠ u32 p 104 ∧ f.handle ≠ 0 then some f.handle else f.oldKey
    ts := if fresh then none else f.ts, frameTs := if fresh then none else f.frameTs
    second := !fresh && f.second, samples := if fresh then 0 else f.samples
    badStep := if fresh then 0 else f.badStep }
  let s := s.setRx n f'
  if on && pictureKind (u8 p 3) && !f.enabled then
    let i := s.input (flowSource n)
    s.setInput (flowSource n) { i with loss := 7, link := 0, good := 0, start := none, format := none
                                       count := { i.count with lossEntries := i.count.lossEntries + 1 } }
  else if !on && pictureKind f.kind then s.enterLoss (flowSource n) 7 0
  else s

/-- A transmit flow is configured (R135): one that becomes enabled waits for the first frame of its
group that starts after acceptance. -/
def applyTxFlow (p : Bytes) (s : State) : State :=
  let n := u16 p 0
  let f := s.tx n
  s.setTx n { f with cfg := p, keyTold := false, waiting := u8 p 4 == 1 && (!f.enabled || f.waiting) }

/-- The key of a flow is gone and no command has been told (R144). -/
def State.keyLost (s : State) (f : Flow) : Bool := f.enabled && f.handle != 0 && !s.keyUsable f.handle && !f.keyTold

/-- FLOW_CONFIGURE (R135). -/
def flowConfigure : Cmd where
  opcode := 0x0304
  shape := exactly 152 [(87, 1), (118, 2)]
  args c s := flowValid c.args s
  run c s :=
    let p := c.args
    let n := u16 p 0
    let tx := u8 p 2 == 1
    let old := if tx then s.tx n else s.rx n
    let new : Flow := { old with cfg := p }
    if s.keyLost old then
      let told : Flow := { old with keyTold := true }
      (if tx then s.setTx n told else s.setRx n told).deny stSecurity
    else if u32 p 104 != 0 && !s.keyUsable (u32 p 104) then s.deny stSecurity
    else if (List.range (u8 p 5)).any fun k => s.fenced 1 (u16 p (8 + 2 * k)) then s.deny stUnitFenced
    else if (u8 p 3 = 1 ∨ u8 p 3 = 2) ∧ u8 p 101 ≠ s.systemRate then s.deny stFormatMismatch
    else if tx && u8 p 4 == 1 && !((List.range (u8 p 5)).all fun k => s.portFits (u16 p (8 + 2 * k)) n new) then
      s.deny stNoCapacity
    else ((if tx then applyTxFlow p s else applyRxFlow p s)).done [] true

/-- FLOW_CONFIGURE. -/
def execFlowConfigure (r : Request) (s : State) : Host.Outcome State Fault Refusal :=
  .next (flowConfigure.serve r s)

/-! ## FLOW_STATUS and FLOW_SDP -/

/-- The values FLOW_STATUS gives of a leg. -/
def legValues (l : Leg) : List Int :=
  [(b2n l.lost : Int), l.received, l.lostCount, l.duplicate, l.outOfOrder, l.overrun, l.srtpFail, l.fragments]

/-- The values FLOW_STATUS gives of a flow and its input (R153). -/
def State.flowValues (s : State) (n : Nat) (f : Flow) : List Int :=
  let i := s.input (flowSource n)
  [(f.received : Int), f.lost, f.duplicate, f.outOfOrder, f.recovered, i.loss, i.count.errLines, i.count.ancSum
    , i.count.ancFiltered, i.count.ancOverflow, i.count.complete, i.count.incomplete, i.count.lossEntries
    , i.count.formatChanged] ++ f.legs.flatMap legValues
    ++ (s.signals.syncs.filter fun e => e.1 / 8 == flowSource n).flatMap fun e =>
      [e.2.margin, (e.2.repeats : Int), e.2.drops, e.2.reseats]

/-- FLOW_STATUS (R153), in a layout the spec does not give (log entry 17). -/
def flowStatus : Cmd where
  opcode := 0x0381
  run _ s := s.done (Config.layout 0x0381
    ((s.signals.rx.flatMap fun e => s.flowValues e.1 e.2)
      ++ s.signals.tx.flatMap fun e => [(b2n e.2.enabled : Int), e.2.txSeq, (s.dest (0x1000 + e.1)).late]))

/-- FLOW_STATUS. -/
def execFlowStatus (r : Request) (s : State) : Host.Outcome State Fault Refusal :=
  .next (flowStatus.serve r s)

/-- FLOW_SDP (R145): text by RFC 8866, which the spec names and does not lay out (log entries 17, 20). -/
def flowSdp : Cmd where
  opcode := 0x0382
  shape := exactly 8 [(2, 6)]
  args c _ := decide (u16 c.args 0 < 512)
  run c s :=
    let f := s.tx (u16 c.args 0)
    s.done (Config.layout 0x0382 (f.cfg.map fun b => (b.toNat : Int)))

/-- FLOW_SDP. -/
def execFlowSdp (r : Request) (s : State) : Host.Outcome State Fault Refusal := .next (flowSdp.serve r s)

end Sys2Proof.Machine
end

