-- ==== Sys2Proof/Machine/Cascade.lean ====
section
/-! DEFINITION. The Lightpipe cascade (R394 to R406): configuration, negotiation, time transfer, subscriptions and media
packets. -/

namespace Sys2Proof.Machine

/-! ## CASCADE_CONFIGURE -/

/-- The entry of a link in the payload (R396). -/
def linkEntry (p : Bytes) (k : Nat) : Bytes := slice p (8 + 4 * k) 4

/-- A link of the payload is used. -/
def entryUsed (e : Bytes) : Bool := u8 e 0 != 0xFF

/-- The quads of a link entry, lowest first. -/
def entryQuads (e : Bytes) : List Nat := (List.range (u8 e 1 / 4)).map (u8 e 0 + ·)

/-- A link entry keeps R394: quads that are consecutive, lie in one sector and are allocated LIGHTPIPE. -/
def entryOk (e : Bytes) (s : State) : Bool :=
  !entryUsed e ||
  ((u8 e 1 == 8 || u8 e 1 == 16) && (decide (u8 e 2 ≤ 3) || u8 e 2 == 0xFF) && u8 e 3 == 0
    && (entryQuads e).all fun q => s.present 2 q && q / 9 == u8 e 0 / 9 && (s.quad q).protocol == 3)

/-- The arguments of CASCADE_CONFIGURE (R396). -/
def cascadeValid (p : Bytes) (s : State) : Bool :=
  let es := (List.range 4).map (linkEntry p)
  let quads := (es.filter entryUsed).flatMap entryQuads
  decide (u8 p 0 ≤ 1 ∧ u8 p 1 ≤ 3 ∧ u8 p 2 ≤ 1 ∧ u8 p 3 ≤ 1) && (u8 p 0 == 0 || u16 p 4 != 0)
    && es.all (fun e => entryOk e s) && quads.eraseDups.length == quads.length

/-- A link changes: its entry, or anything of the configuration it runs under (R396). -/
def linkChanges (p : Bytes) (s : State) (k : Nat) : Bool :=
  padTo 4 (linkEntry s.cascade.cfg k) != linkEntry p k || padTo 8 s.cascade.cfg != slice p 0 8

/-- A link carries an export or a remote route (R396). -/
def State.linkCarries (s : State) (k : Nat) : Bool := s.cascade.subs.any fun x => x.link == some k

/-- The cascade takes a configuration (R396, R400). -/
def applyCascade (p : Bytes) (s : State) : State :=
  let used := (List.range 4).filter fun k => entryUsed (linkEntry p k)
  let changed := (List.range 4).filter (linkChanges p s)
  let old := s.cascade.links.flatMap fun e => if changed.contains e.1 then e.2.lanes else []
  let make (k : Nat) : Link :=
    let e := linkEntry p k
    match s.link k with
    | some l => if changed.contains k then { quads := entryQuads e, expected := u8 e 2, entry := e } else l
    | none => { quads := entryQuads e, expected := u8 e 2, entry := e }
  let links : Tab Link := used.map fun k => (k, make k)
  let role := u8 p 0 == 1 && u8 p 3 == 1
  let f (c : Cascade) : Cascade :=
    { c with cfg := p, links, master := role
             timeLink := if changed.isEmpty then c.timeLink else none, timeGood := if changed.isEmpty then c.timeGood else 0 }
  let s := s.mapCascade f
  let s := { s with lanes := { s.lanes with links := links.map fun e : Nat × Link => e.2.lanes } }
  s.restartLanes (old ++ (links.flatMap fun e : Nat × Link => if changed.contains e.1 then e.2.lanes else []))

/-- CASCADE_CONFIGURE (R396): at acceptance, standing. -/
def cascadeConfigure : Cmd where
  opcode := 0x0E01
  shape := exactly 24 [(6, 2)]
  args c s := cascadeValid c.args s
  run c s :=
    let p := c.args
    let quads := ((List.range 4).map (linkEntry p)).filter entryUsed |>.flatMap entryQuads
    if quads.any fun q => s.fenced 2 q then s.deny stUnitFenced
    else if (List.range 4).any fun k => s.linkCarries k && linkChanges p s k then s.deny stUnitBusy
    else (applyCascade p s).done [] true

/-- CASCADE_CONFIGURE. -/
def execCascadeConfigure (r : Request) (s : State) : Host.Outcome State Fault Refusal := .next (cascadeConfigure.serve r s)

/-! ## CASCADE_EXPORT_SET -/

/-- CASCADE_EXPORT_SET (R402): the timing group of an export slot, at acceptance. A slot that is routed keeps its group:
UNIT_BUSY (log entry 40). -/
def cascadeExportSet : Cmd where
  opcode := 0x0E02
  shape := exactly 8 [(3, 5)]
  args c s := decide (u16 c.args 0 ≤ 255 ∧ u8 c.args 2 ≤ 7) && (s.tg (u8 c.args 2)).enabled
  run c s :=
    let e := u16 c.args 0
    if (s.dest (0x6000 + e)).source ≠ 0xF000 ∧ s.exportGroup e ≠ u8 c.args 2 then s.deny stUnitBusy
    else (s.mapCascade fun x => { x with exports_ := tabPut x.exports_ e (u8 c.args 2) }).done [] true

/-- CASCADE_EXPORT_SET. -/
def execCascadeExportSet (r : Request) (s : State) : Host.Outcome State Fault Refusal := .next (cascadeExportSet.serve r s)

/-! ## Packets -/

/-- Bytes of a packet with a payload of n bytes (R397): header, payload padded to 8, CRC-32C. -/
def packetBytes (n : Nat) : Nat := 32 + (n + 7) / 8 * 8 + 4

/-- A packet is sent on a link. -/
def State.sendPacket (s : State) (k n : Nat) : State :=
  match s.link k with
  | none => s
  | some l => s.setLink k { l with packetsOut := (l.packetsOut + 1) % 2 ^ 64, bytesOut := (l.bytesOut + packetBytes n) % 2 ^ 64 }

/-- A packet is received on a link. -/
def State.takePacket (s : State) (k n : Nat) : State :=
  match s.link k with
  | none => s
  | some l => s.setLink k { l with packetsIn := (l.packetsIn + 1) % 2 ^ 64, bytesIn := (l.bytesIn + packetBytes n) % 2 ^ 64 }

/-! ## Negotiation (R398, R399) -/

/-- A HELLO packet as a link receives it (R398). -/
def helloConflict (s : State) (l : Link) (id module_ versions : Nat) : Bool :=
  versions % 2 == 0 || id != u16 s.cascade.cfg 4 || module_ == s.cascade.self
    || (l.expected != 0xFF && module_ != l.expected)

/-- Of two masters the lower-numbered keeps the role; the other is a follower and raises CASCADE_TIME_ROLE (R400). -/
def State.yieldMaster (s : State) (k other : Nat) : State :=
  if s.cascade.master && decide (other < s.cascade.self) then
    (s.mapCascade fun c => { c with master := false }).raise .cascadeTimeRole (srcCascade k) other
  else s

/-- A HELLO packet is exchanged in the NEGOTIATE phase (R398): the first of an attempt begins the phase. One that R399 names
fails the attempt, which is counted, and raises CASCADE_IDENTITY_CONFLICT. -/
def cascadeHello (k id module_ versions : Nat) (isMaster : Bool) (s : State) : State :=
  match s.link k with
  | none => s
  | some l =>
    let n := l.lanes.headD 0
    if (s.lane n).state ≠ .training then s
    else if helloConflict s l id module_ versions then
      (attemptTimeout n 5 [] s).raise .cascadeIdentityConflict (srcCascade k) module_
    else
      let count := if (s.lane n).phase = 5 then l.hellos + 1 else 1
      let s := s.mapLanes l.lanes fun x => { x with phase := 5 }
      let s := s.setLink k { l with hellos := count, peer := some module_, version := 1, peerMaster := isMaster }
      if isMaster then s.yieldMaster k module_ else s

/-- CASCADE_HELLO. -/
def execCascadeHello (k id module_ versions : Nat) (isMaster : Bool) (s : State) : Host.Outcome State Fault Refusal :=
  .next (cascadeHello k id module_ versions isMaster s)

/-- The links do not fit the configured topology (R395): a ring of other than two links or with both to one module, a mesh
without a direct link to a module that is heard of. -/
def State.topologyBad (s : State) : Bool :=
  let peers := s.linksUp.filterMap fun k => (s.link k).bind (·.peer)
  if u8 s.cascade.cfg 2 = 0 then s.cascade.links.length != 2 || peers.eraseDups.length != peers.length
  else peers.eraseDups.length != peers.length
    || s.cascade.remotes.any fun e => !peers.contains (remoteOf e.1).1

/-- The link that holds a lane. -/
def State.linkOf (s : State) (n : Nat) : Option (Nat × Link) := s.cascade.links.find? fun e => e.2.lanes.contains n

/-- LANE_UP (R385, R398): a link enters UP after its NEGOTIATE phase has received two HELLO packets; a link that does not fit
the topology still runs (R395). -/
def laneUpEvent (n iface family : Nat) (offset : Int) (ctle : Nat) (dfe : List Int) (s : State) : State :=
  match s.linkOf n with
  | none => laneUp n iface family offset ctle dfe s
  | some (k, l) =>
    if s.cascade.enabled ∧ ((s.lane n).phase ≠ 5 ∨ l.hellos < 2) then s
    else
      let was := (s.lane n).state
      let s := laneUp n 0 0 offset ctle dfe s
      if was = .training && s.topologyBad then s.raise .cascadeTopology (srcCascade k) else s

/-- LANE_UP. -/
def execLaneUp (n iface family : Nat) (offset : Int) (ctle : Nat) (dfe : List Int) (s : State) :
    Host.Outcome State Fault Refusal := .next (laneUpEvent n iface family offset ctle dfe s)

/-! ## Time transfer (R400, R401) -/

/-- The master sends a TIME packet on every link that is UP, at each DT millisecond (R400). -/
def cascadeTimeTick (s : State) : State :=
  if s.cascade.enabled && s.cascade.master && s.time.dt % 1000000 == 0 then
    s.linksUp.foldl (fun s k => s.sendPacket k 0) s
  else s

/-- CASCADE_TIME_TICK. -/
def execCascadeTimeTick (s : State) : Host.Outcome State Fault Refusal := .next (cascadeTimeTick s)

/-- A follower re-aligns its groups to DT when cascade time is LOCKED (R52, R401). -/
def State.cascadeLock (s : State) (new : Int) : State :=
  let s := s.mapCascade fun c => { c with timeLocked := true }
  let s := s.setTime { s.time with cascadeTime := true, selected := none, refState := .locked, everLocked := true }
  let s := s.stepOrSlew new
  s.realignAll { kind := 1, transport := 0, port := 0, vlan := 0, raster := 0, rate := 0, state := .locked
                 lockedAt := s.time.dt, good := 0, bad := 0 } 0 []

/-- A TIME packet of departure DT `dep` over a link whose one-way delay is `delay` (R400, R401): answered with TIME_ECHO; when
it came over the path with the fewest hops the follower takes time from it and forwards it. -/
def cascadeTimePacket (k origin hops dep delay : Nat) (s : State) : State :=
  match s.link k with
  | none => s
  | some l =>
    if !s.linkUp k then s
    else
      let s := (s.setLink k { l with delay }).takePacket k 0
      let s := s.sendPacket k 0
      let s := s.yieldMaster k origin
      let c := s.cascade
      if c.master then s
      else if c.timeLink = some k ∨ c.timeLink = none ∨ hops < c.timeHops then
        let new : Int := (dep + delay : Nat)
        let off : Int := (s.time.dt : Int) - new
        let good := if off.natAbs ≤ 20 then c.timeGood + 1 else 0
        let s := s.mapCascade fun c => { c with
          timeLink := some k, timeHops := hops, timeLast := some s.time.dt, timeOffset := off, timeGood := good }
        let s := if hops < 3 then (s.linksUp.filter (· != k)).foldl (fun s j => s.sendPacket j 0) s else s
        if !c.timeLocked && decide (16 ≤ good) then s.cascadeLock new
        else s.stepOrSlew new
      else s

/-- CASCADE_TIME_PACKET. -/
def execCascadeTimePacket (k origin hops dep delay : Nat) (s : State) : Host.Outcome State Fault Refusal :=
  .next (cascadeTimePacket k origin hops dep delay s)

/-- A TIME_ECHO: the one-way delay is half of the round trip less the echo turnaround (R400). -/
def cascadeTimeEcho (k trip turn : Nat) (s : State) : State :=
  match s.link k with
  | none => s
  | some l => if s.linkUp k then (s.setLink k { l with delay := (trip - turn) / 2 }).takePacket k 0 else s

/-- CASCADE_TIME_ECHO. -/
def execCascadeTimeEcho (k trip turn : Nat) (s : State) : Host.Outcome State Fault Refusal := .next (cascadeTimeEcho k trip turn s)

/-- No TIME packet for 10 ms (R401): the module selects its own candidates, or enters holdover (R51). -/
def cascadeTimeLost (new : Option Nat) (sdiRate : Nat) (ext : List Int) (s : State) : State :=
  let c := s.cascade
  match c.timeLast with
  | none => s
  | some t =>
    if s.time.dt < t + 10000000 then s
    else
      let s := s.mapCascade fun c => { c with timeLocked := false, timeGood := 0, timeLink := none, timeLast := none }
      if !s.time.cascadeTime then s
      else
        let s := s.setTime { s.time with cascadeTime := false, selected := none }
        match s.time.choose with
        | some i => s.takeSelection (some i) new sdiRate ext
        | none =>
          let s := s.raise .refLost srcDevice
          (s.setTime { s.time with refState := .holdover, offset := 0, traceable := false }).holdover

/-- CASCADE_TIME_LOST. -/
def execCascadeTimeLost (newTime : Option Nat) (sdiRate : Nat) (errors : List Int) (s : State) :
    Host.Outcome State Fault Refusal := .next (cascadeTimeLost newTime sdiRate errors s)

/-! ## Subscriptions (R403, R405) -/

/-- A CONTROL packet subscribes a module to an export, or ends its subscription: admitted while the exports crossing the link
total at most 95 % of its payload rate. -/
def State.subscribe (s : State) (k origin slot taker : Nat) (on : Bool) : State :=
  let same (x : Subscription) : Bool := x.origin == origin && x.slot == slot && x.taker == taker
  if !on then s.mapCascade fun c => { c with subs := c.subs.filter fun x => !same x }
  else if s.cascade.subs.any same then s
  else
    let g := s.tg (s.exportGroup slot)
    let charge := if origin = s.cascade.self then exportCharge (formatCost g.raster g.rate)
      else s.remoteCharge (0x6000 + origin * 256 + slot)
    if s.linkFits k origin slot charge then
      let x : Subscription := { origin, slot, taker, link := some k, hops := 1, charge }
      s.mapCascade fun c => { c with subs := c.subs ++ [x] }
    else s

/-- CASCADE_CONTROL_PACKET (R403): a subscription, or what the origin tells of an export's group (R404). -/
def cascadeControl (k : Nat) (m : ControlMsg) (s : State) : State :=
  if !s.linkUp k then s
  else
    let s := s.takePacket k 8
    match m with
    | .subscribe origin slot taker => s.subscribe k origin slot taker true
    | .release origin slot taker => s.subscribe k origin slot taker false
    | .describe origin slot raster rate phase locked =>
      let src := 0x6000 + origin * 256 + slot
      if origin = s.cascade.self ∨ 3 < origin ∨ 255 < slot then s
      else s.mapCascade fun c => { c with remotes := tabPut c.remotes src { raster, rate, phase, locked } }

/-- CASCADE_CONTROL_PACKET. -/
def execCascadeControlPacket (k : Nat) (m : ControlMsg) (s : State) : Host.Outcome State Fault Refusal :=
  .next (cascadeControl k m s)

/-- A subscription moves to a new path, or is left without one (R405). -/
def cascadePathChanged (origin slot taker : Nat) (link : Option Nat) (hops : Nat) (s : State) : State :=
  let same (x : Subscription) : Bool := x.origin == origin && x.slot == slot && x.taker == taker
  match s.cascade.subs.find? same with
  | none => s
  | some x =>
    let ok := match link with
      | none => x.link != none && !((x.link.map s.linkUp).getD false)
      | some k => s.linkUp k && (x.link == some k || s.linkFits k origin slot x.charge) && x.link != some k
    if !ok then s
    else
      let f (y : Subscription) : Subscription := if same y then { y with link, hops } else y
      (s.mapCascade fun c => { c with subs := c.subs.map f }).raise .cascadePathChanged
        (srcCascade (link.getD 0xFFFF)) (0x6000 + origin * 256 + slot)

/-- CASCADE_PATH_CHANGED. -/
def execCascadePathChanged (origin slot taker : Nat) (link : Option Nat) (hops : Nat) (s : State) :
    Host.Outcome State Fault Refusal := .next (cascadePathChanged origin slot taker link hops s)

/-! ## Media (R397, R404) -/

/-- A group is matched to a remote source (R404): equal format, rate code and phase offset, and cascade time on both
sides. -/
def State.matched (s : State) (src g : Nat) : Bool :=
  match s.cascade.remotes.find? fun e => e.1 == src with
  | none => false
  | some (_, r) =>
    let t := s.tg g
    t.raster == r.raster && t.rate == r.rate && t.phaseOffset == r.phase && r.locked
      && (s.cascade.timeLocked || s.cascade.master)

/-- A frame of a remote source begins, or ends with what it carried. -/
def State.remoteFrame (s : State) (src : Nat) (p : MediaPacket) : State :=
  let s := if p.first then s.openFrame src p.dt else s
  if !p.last then s
  else
    let i := s.input src
    let r := (s.cascade.remotes.find? fun e => e.1 == src).map (·.2)
    let (held, c) := i.takeAnc p.anc
    let s := s.setInput src { i with count := c, picture := some p.picture, format := r.map fun x => (x.raster, x.rate) }
    (s.closeFrame src p.whole held).pipesSee src p.picture

/-- CASCADE_MEDIA_PACKET (R397): a packet whose CRC fails is discarded and counted, and leaves its frame incomplete; another is
delivered when this module subscribes to the export, and forwarded on every link that another subscription to it leaves
by. -/
def cascadeMedia (k : Nat) (p : MediaPacket) (s : State) : State :=
  match s.link k with
  | none => s
  | some l =>
    if !s.linkUp k then s
    else
      let src := 0x6000 + p.origin * 256 + p.slot
      let mine := (s.ownSub src).isSome
      if !p.crcOk then
        let s := s.setLink k { l with crcErrors := (l.crcErrors + 1) % 2 ^ 64 }
        if mine && p.type == 5 then s.spoilFrame src else s
      else
        let s := s.takePacket k p.length
        let out := ((s.cascade.subs.filter fun x => x.origin == p.origin && x.slot == p.slot && x.taker != s.cascade.self
          && x.link != some k).filterMap (·.link)).eraseDups
        let s := if p.hops < 3 then (out.filter s.linkUp).foldl (fun s j => s.sendPacket j p.length) s else s
        if mine && p.type == 5 then s.remoteFrame src p else s

/-- CASCADE_MEDIA_PACKET. -/
def execCascadeMediaPacket (k : Nat) (p : MediaPacket) (s : State) : Host.Outcome State Fault Refusal :=
  .next (cascadeMedia k p s)

/-! ## CASCADE_STATUS -/

/-- The values of a link (R406). -/
def linkValues (s : State) (k : Nat) (l : Link) : List Int :=
  ([k, (s.lane (l.lanes.headD 0)).state.code, l.version, l.peer.getD 0xFF, ((s.crossing k).map (·.2)).sum, l.payload, l.delay,
    l.crcErrors, l.packetsOut, l.bytesOut, l.packetsIn, l.bytesIn] : List Nat).map Int.ofNat

/-- What CASCADE_STATUS returns (R406). -/
def cascadeValues (s : State) : List Int :=
  let c := s.cascade
  (c.cfg.map fun b => (b.toNat : Int)) ++ [(b2n c.master : Int), b2n c.timeLocked, c.timeOffset]
    ++ c.links.flatMap (fun e => linkValues s e.1 e.2)
    ++ c.subs.flatMap (fun x => ([x.origin, x.slot, x.taker, x.link.getD 0xFF, x.hops] : List Nat).map Int.ofNat)
    ++ c.remotes.flatMap (fun e => ([e.1, b2n (s.matched e.1 0), b2n (s.matched e.1 1), b2n (s.matched e.1 2),
      b2n (s.matched e.1 3), b2n (s.matched e.1 4), b2n (s.matched e.1 5), b2n (s.matched e.1 6), b2n (s.matched e.1 7)]
      : List Nat).map Int.ofNat)

/-- CASCADE_STATUS (R406). -/
def cascadeStatus : Cmd where
  opcode := 0x0E80
  run _ s := s.done (Config.layout 0x0E80 (cascadeValues s))

/-- CASCADE_STATUS. -/
def execCascadeStatus (r : Request) (s : State) : Host.Outcome State Fault Refusal := .next (cascadeStatus.serve r s)

end Sys2Proof.Machine
end

