-- ==== Sys2Proof/Machine/Cvu.lean ====
section
/-! DEFINITION. The check-value units (R494 to R504): the computation, scans, and CVU_SCAN. -/

namespace Sys2Proof.Machine

/-! ## The computation (R496) -/

/-- The low n bits of a number in reverse order. -/
def reverseBits : Nat → Nat → Nat
  | 0, _ => 0
  | n + 1, v => v % 2 * 2 ^ n + reverseBits n (v / 2)

/-- One bit of a byte, most significant first, enters the running value (R496). -/
def crcBit (w poly v b : Nat) : Nat :=
  let top := (v / 2 ^ (w - 1) % 2 != b)
  let v := v * 2 % 2 ^ w
  if top then v ^^^ (poly % 2 ^ w) else v

/-- The bits of a byte from bit n - 1 down enter the running value. -/
def crcBits (w poly b : Nat) : Nat → Nat → Nat
  | 0, v => v
  | n + 1, v => crcBits w poly b n (crcBit w poly v (b / 2 ^ n % 2))

/-- One byte is consumed (R496). -/
def crcByte (w poly : Nat) (refin : Bool) (v : Nat) (b : BitVec 8) : Nat :=
  crcBits w poly (if refin then reverseBits 8 b.toNat else b.toNat) 8 v

/-- Bytes are consumed in order (R497). -/
def crcRun (w poly : Nat) (refin : Bool) (v : Nat) (bs : Bytes) : Nat := bs.foldl (crcByte w poly refin) v

/-- The result that a running value forms (R496). -/
def crcResult (w : Nat) (refout : Bool) (xorout v : Nat) : Nat :=
  ((if refout then reverseBits w v else v) ^^^ xorout) % 2 ^ w

/-- CRC-32C of a byte string (R409, R479). -/
def crc32c (bs : Bytes) : Nat := crcResult 32 true 0xFFFFFFFF (crcRun 32 0x1EDC6F41 true 0xFFFFFFFF bs)

/-! ## Units -/

/-- A CVU of the state. -/
def State.cvu (s : State) (n : Nat) : Cvu := tabGet s.cvus.units n {}

/-- Store a CVU. -/
def State.setCvu (s : State) (n : Nat) (x : Cvu) : State := { s with cvus := { s.cvus with units := tabPut s.cvus.units n x } }

/-- The fields of CVU_CONFIG and CVU_CTRL (R495). -/
def Cvu.width (x : Cvu) : Nat := x.config % 128
def Cvu.refin (x : Cvu) : Bool := bit x.config 8
def Cvu.refout (x : Cvu) : Bool := bit x.config 9
def Cvu.space (x : Cvu) : Nat := bits x.config 17 16
def Cvu.loadInit (x : Cvu) : Bool := bit x.ctrl 0
def Cvu.compare (x : Cvu) : Bool := bit x.ctrl 1
def Cvu.irqDone (x : Cvu) : Bool := bit x.ctrl 2
def Cvu.irqMismatch (x : Cvu) : Bool := bit x.ctrl 3

/-- CVU_RESULT (R496). -/
def Cvu.result (x : Cvu) : Nat := crcResult x.width x.refout x.xorout (x.value % 2 ^ x.width)

/-- The size of an address space (R498); ZERO has none. -/
def State.spaceSize (s : State) (space : Nat) : Option Nat :=
  match space with
  | 0 => some (96 * 1048576)
  | 1 => some 1048576
  | 2 => some s.hbmEnd
  | _ => none

/-- A scan that can start (R495, R498). -/
def State.scanOk (s : State) (space width addr length : Nat) : Bool :=
  decide (1 ≤ width ∧ width ≤ 64 ∧ length ≤ 2 ^ 40) &&
  match s.spaceSize space with
  | none => true
  | some n => decide (addr + length ≤ n)

/-- The bytes of a scan: zeros of ZERO, device memory of HBM, and for SRAM and MRAM what they are given as (log entry
41). -/
def State.scanBytes (s : State) (x : Cvu) (data : Bytes) : Bytes :=
  match x.space with
  | 2 => memRead s.memory.hbm x.addr x.length
  | 3 => zeros x.length
  | _ => padTo x.length data

/-- The events of an end of CVU2 to CVU7 (R500). -/
def State.scanEvents (s : State) (n : Nat) (mismatch done : Bool) : State :=
  if n < 2 then s
  else
    let s := if mismatch then s.raise .cvuMismatch (srcCvu n) else s
    if done then s.raise .cvuScanDone (srcCvu n) else s

/-- The response of CVU_SCAN (R504). -/
def scanResponse (n : Nat) (x : Cvu) : Bytes :=
  le 1 n ++ le 1 x.endCode ++ le 1 (b2n x.matched) ++ zeros 5 ++ le 8 x.value ++ le 8 x.result

/-- A scan ends (R499, R500): the end code, whether the result met CVU_EXPECT, the interrupt, and the CVU_SCAN that held the
CVU completes (R504). -/
def State.scanEnd (s : State) (n code : Nat) : State :=
  let x := s.cvu n
  let match_ := x.compare && code == 1 && x.result == x.expect % 2 ^ x.width
  let mismatch := x.compare && code == 1 && !match_
  let y := { x with
    busy := false, done := true, matched := match_, endCode := code, holder := none
    irq := x.irq || x.irqDone || (x.irqMismatch && mismatch) }
  let s := (s.setCvu n y).scanEvents n mismatch x.irqDone
  match x.holder with
  | none => s
  | some jsn => match s.ccp.jobs.find? fun j => j.jsn == jsn with
    | some j => s.complete j stOk (scanResponse n y) false
    | none => s

/-- The first k bytes of a scan in progress have been consumed. -/
def State.consume (s : State) (n k : Nat) (data : Bytes) : State :=
  let x := s.cvu n
  let bs := (s.scanBytes x data).take k
  s.setCvu n { x with value := crcRun x.width x.poly x.refin (x.value % 2 ^ x.width) bs, progress := bs.length }

/-- A scan starts on an idle CVU (R498); one of length 0 ends at once. -/
def State.scanStart (s : State) (n : Nat) : State :=
  let x := s.cvu n
  if !s.scanOk x.space x.width x.addr x.length then s.scanEnd n 4
  else
    let y := { x with done := false, matched := false, progress := 0, busy := true, endCode := 0
                      value := if x.loadInit then x.init else x.value }
    let s := s.setCvu n y
    if x.length = 0 then s.scanEnd n 1 else s

/-- Who may write the registers of a CVU (R494, R504): firmware those of CVU0 and CVU1, PF0 those of CVU2 to CVU7. -/
def cvuWriter (fw : Bool) (n : Nat) : Bool := if fw then decide (n < 2) else decide (2 ≤ n ∧ n < 8)

/-- CVU_START (R498, R501): a write to CVU_CTRL with bit 0 set takes the options and starts; a second start, and any write to
a CVU that a command holds, is ignored and noted. -/
def cvuStart (fw : Bool) (n ctrl : Nat) (s : State) : State :=
  if !cvuWriter fw n then s
  else
    let x := s.cvu n
    if x.holder.isSome then s.setCvu n { x with ignored := true }
    else
      let x := { x with ctrl := bits ctrl 5 2 }
      if x.busy then s.setCvu n { x with ignored := true } else (s.setCvu n x).scanStart n

/-- CVU_START. -/
def execCvuStart (fw : Bool) (n ctrl : Nat) (s : State) : Host.Outcome State Fault Refusal := .next (cvuStart fw n ctrl s)

/-- CVU_ABORT (R499, R501): the bytes consumed up to that moment stay; in the cycle of the last byte the end is COMPLETE. -/
def cvuAbort (fw : Bool) (n k : Nat) (data : Bytes) (s : State) : State :=
  let x := s.cvu n
  if !cvuWriter fw n || !x.busy then s
  else if x.holder.isSome then s.setCvu n { x with ignored := true }
  else (s.consume n k data).scanEnd n (if x.length ≤ k then 1 else 2)

/-- CVU_ABORT. -/
def execCvuAbort (fw : Bool) (n k : Nat) (data : Bytes) (s : State) : Host.Outcome State Fault Refusal :=
  .next (cvuAbort fw n k data s)

/-- CVU_SCAN_END (R499): COMPLETE with every byte consumed, or ERROR after some. -/
def cvuScanEnd (n : Nat) (data : Bytes) (error : Option Nat) (s : State) : State :=
  if !(s.cvu n).busy then s
  else match error with
    | none => (s.consume n (s.cvu n).length data).scanEnd n 1
    | some k => (s.consume n k data).scanEnd n 3

/-- CVU_SCAN_END. -/
def execCvuScanEnd (n : Nat) (data : Bytes) (error : Option Nat) (s : State) : Host.Outcome State Fault Refusal :=
  .next (cvuScanEnd n data error s)

/-- Every scan of a space ends with ERROR (R499): a fence of a stack for HBM, POWER_FAIL_N for MRAM. -/
def State.cutScans (s : State) (space : Nat) : State :=
  (List.range 8).foldl (fun s n => if (s.cvu n).busy && (s.cvu n).space == space then s.scanEnd n 3 else s) s

/-! ## CVU_SCAN -/

/-- The CVU that a CVU_SCAN takes (R504). -/
def State.scanUnit (s : State) (p : Bytes) : Option Nat :=
  if u8 p 0 = 0xFF then ([2, 3, 4, 5, 6, 7] : List Nat).find? fun n => !(s.cvu n).busy else some (u8 p 0)

/-- The registers as CVU_SCAN sets them (R504). -/
def Cvu.load (x : Cvu) (p : Bytes) (jsn : Nat) : Cvu :=
  let f := u8 p 3
  { x with
    ctrl := (1 - f / 4 % 2) + 2 * (f / 8 % 2)
    config := u8 p 2 + 256 * (f % 4) + 65536 * u8 p 1
    poly := u64 p 8, init := if bit f 2 then x.init else u64 p 16, value := if bit f 2 then u64 p 16 else x.value
    xorout := u64 p 24, addr := u64 p 32, length := u64 p 40, expect := u64 p 48, holder := some jsn }

/-- CVU_SCAN (R504). -/
def cvuScan : Cmd where
  opcode := 0x0903
  shape := exactly 56 [(4, 4)]
  args c s :=
    let p := c.args
    (u8 p 0 == 0xFF || decide (2 ≤ u8 p 0 ∧ u8 p 0 ≤ 7)) && decide (u8 p 1 ≤ 3 ∧ u8 p 3 < 16)
      && s.scanOk (u8 p 1) (u8 p 2) (u64 p 32) (u64 p 40)
  run c s :=
    match s.scanUnit c.args with
    | none => s.deny stNoCapacity
    | some n =>
      if (s.cvu n).busy then s.deny stUnitBusy
      else
        let x := (s.cvu n).load c.args c.jsn
        if x.length = 0 then
          let s := ((s.setCvu n { x with holder := none }).scanStart n)
          s.done (scanResponse n (s.cvu n))
        else
          let a := s.pend c 0x0903 c.args
          { a with state := (a.state.setCvu n x).scanStart n }

/-- CVU_SCAN. -/
def execCvuScan (r : Request) (s : State) : Host.Outcome State Fault Refusal := .next (cvuScan.serve r s)

/-! ## Register writes (R495, R501) -/

/-- A write to a register of a CVU by offset within it: ignored and noted while a command holds the CVU, and while it is
busy, the options of CVU_CTRL excepted; CVU_STATUS clears the bits written as 1. The start and abort bits of CVU_CTRL are
rows of their own. -/
def cvuWrite (fw : Bool) (n off value : Nat) (s : State) : State :=
  if !cvuWriter fw n then s
  else
    let x := s.cvu n
    if off = 0x50 then s.setCvu n { x with ignored := x.ignored && !bit value 8, irq := x.irq && !bit value 9 }
    else if off = 0x48 ∨ off = 0x58 ∨ 0x58 < off ∨ off % 8 ≠ 0 then s
    else if x.holder.isSome || (x.busy && off != 0) then s.setCvu n { x with ignored := true }
    else s.setCvu n (match off with
      | 0x00 => { x with ctrl := bits value 5 2 }
      | 0x08 => { x with config := value % 128 + bits value 9 8 * 256 + bits value 17 16 * 65536 }
      | 0x10 => { x with poly := value }
      | 0x18 => { x with init := value }
      | 0x20 => { x with xorout := value }
      | 0x28 => { x with addr := value }
      | 0x30 => { x with length := value }
      | 0x38 => { x with value := value }
      | _ => { x with expect := value })

end Sys2Proof.Machine
end

