-- ==== Sys2Proof/Machine/Panels.lean ====
section
/-! DEFINITION. The panel ports (R244 to R254). -/

namespace Sys2Proof.Machine

/-! ## Configuration -/

/-- Bytes per pixel of a panel (R245). -/
def panelPixel (format : Nat) : Nat := if format = 0 then 3 else 2

/-- The full-frame push takes at most 90 % of the nominal refresh period (R245, R250): the time in µs is
height × (width × bytes + 7) × 8 ÷ (lanes × Mb/s), the period 10^8 ÷ refresh. -/
def pushFits (width height bytes lanes rate refresh : Nat) : Bool :=
  decide (height * (width * bytes + 7) * 8 * refresh * 10 ≤ 9 * 100000000 * lanes * rate)

/-- The fields of R245 with their defaults. -/
def Panel.width (p : Panel) : Nat := u16 p.cfg 4
def Panel.height (p : Panel) : Nat := u16 p.cfg 6
def Panel.teNone (p : Panel) : Bool := u8 p.cfg 11 == 1
def Panel.refresh (p : Panel) : Nat := u16 p.cfg 12
def Panel.staticFrames (p : Panel) : Nat := let v := u16 p.cfg 14; if v = 0 then 120 else v
def Panel.stretch (p : Panel) : Nat := let v := u8 p.cfg 16; if v = 0 then 4 else v

/-- The nominal refresh period in ns. -/
def Panel.period (p : Panel) : Nat := 100000000000 / max 1 p.refresh

/-- Tile columns and rows of a panel (R249). -/
def Panel.grid (p : Panel) : Nat × Nat := (ceilDiv p.width 64, ceilDiv p.height 16)

/-- Every tile of a panel. -/
def Panel.allTiles (p : Panel) : List Nat := List.range (p.grid.1 * p.grid.2)

/-- The arguments of PANEL_CONFIGURE (R245). -/
def panelValid (p : Bytes) (s : State) : Bool :=
  let w := u16 p 4
  let h := u16 p 6
  let n := u8 p 10
  decide (u8 p 0 ≤ 1 ∧ u8 p 1 ≤ 1 ∧ u8 p 2 < 8 ∧ u8 p 3 ≤ 1 ∧ 64 ≤ w ∧ w ≤ 4096 ∧ 64 ≤ h ∧ h ≤ 4096
      ∧ 80 ≤ u16 p 8 ∧ u16 p 8 ≤ 2500)
    && (n == 1 || n == 2 || n == 4) && decide (u8 p 11 ≤ 1 ∧ 2400 ≤ u16 p 12 ∧ u16 p 12 ≤ 12000)
    && zeroOr (u8 p 16) 2 16 && decide (u8 p 17 < 4 ∧ u8 p 18 ≤ 3)
    && decide (w * h * panelPixel (u8 p 3) ≤ 8388608) && pushFits w h (panelPixel (u8 p 3)) n (u16 p 8) (u16 p 12)
    && (u8 p 1 == 0 || (s.tg (u8 p 2)).enabled)

/-- A change reaches a field that only a disabled port may change (R245): all but enable, static frames and
stretch interval. -/
def panelFixed (a b : Bytes) : Bool :=
  let keep (p : Bytes) : Bytes := slice p 2 12 ++ slice p 17 2
  keep a == keep b

/-! ## Sequences -/

/-- The entries of a sequence (R246): delay after the entry, DCS bytes; none when the bytes are no whole
number of entries. The count bounds the entries of 256 bytes. -/
def seqEntries : Nat → Bytes → Option (List (Nat × Bytes))
  | 0, b => if b.isEmpty then some [] else none
  | n + 1, b =>
    if b.isEmpty then some []
    else
      let k := u8 b 1
      if b.length < 5 + k ∨ 1000 < u16 b 2 ∨ !(u8 b 0 == 0x05 || u8 b 0 == 0x15 || u8 b 0 == 0x39) then none
      else (seqEntries n (b.drop (5 + k))).map fun l => (u16 b 2, slice b 4 (1 + k)) :: l

/-- The entries of a stored sequence. -/
def Panel.entries (p : Panel) (k : Nat) : List (Nat × Bytes) := (seqEntries 64 (p.seqs.getD k [])).getD []

/-- A script of commands to send after a first wait: each entry's delay comes before the next. -/
def scriptOf : Nat → List (Nat × Bytes) → List (Nat × Bytes) → List (Nat × Bytes)
  | w, [], rest => match rest with
    | [] => []
    | (v, b) :: r => (max w v, b) :: r
  | w, (d, b) :: r, rest => (w, b) :: scriptOf d r rest

/-- The port sends one DCS command (R244); the empty command releases the panel's reset (R247). -/
def Panel.send (p : Panel) (b : Bytes) : Panel :=
  if b.isEmpty then { p with resetHigh := true } else { p with sent := (b :: p.sent).take 16 }

/-- Send what is due without a further wait. -/
def Panel.runDue (p : Panel) : List (Nat × Bytes) → Panel
  | [] => { p with script := [] }
  | (w, b) :: r => if w = 0 then (p.send b).runDue r else { p with script := (w, b) :: r }

/-- The enable sequence (R247). -/
def Panel.enableScript (p : Panel) : List (Nat × Bytes) :=
  let tail : List (Nat × Bytes) :=
    (0, [0x3A]) :: (if p.teNone then [] else [(0, [0x35, 0])]) ++ [(0, [0x11]), (120, [0x29])]
  (10, []) :: scriptOf 20 (p.entries 0) tail

/-- The SRAM banks of a port's frame buffer (R472). -/
def panelBanks (n : Nat) : List Nat := (List.range 4).map (8 + 4 * n + ·)

/-- A port is enabled (R247). -/
def State.enablePanel (s : State) (n : Nat) (cfg : Bytes) : State :=
  let p : Panel := { s.panel n with
    cfg, state := .active, resetHigh := false, closing := false, dirty := [], filled := false, pushing := []
    pushTiles := [], still := 0, skip := 0, oweActive := false, teLost := false, teGood := 0, teLast := none }
  (s.setPanel n { p with script := p.enableScript }).wakeBanks (panelBanks n)

/-- A port is disabled (R247): set_display_off and enter_sleep_mode, then after 120 ms the reset. -/
def State.disablePanel (s : State) (n : Nat) (cfg : Bytes) : State :=
  let p := s.panel n
  (s.setPanel n { ((p.send [0x28]).send [0x10]) with
    cfg, state := .disabled, script := [(120, [])], closing := true, pushing := [], pushTiles := [] }).retainBanks
      (panelBanks n)

/-- PANEL_CONFIGURE (R245): at acceptance, standing. -/
def panelConfigure : Cmd where
  opcode := 0x0605
  shape := exactly 24 [(19, 5)]
  args c s := panelValid c.args s
  run c s :=
    let p := c.args
    let n := u8 p 0
    let x := s.panel n
    let on := u8 p 1 == 1
    if x.enabled && on && !panelFixed x.cfg p then s.deny stUnitBusy
    else
      let s' := s.setPanel n { x with cfg := p }
      if !s.fitsNow (s'.unitCharges [0x5000 + n] (0xE000 + n)) then s.deny stNoCapacity
      else
        let t := if on && !x.enabled then s.enablePanel n p
          else if !on && x.enabled then s.disablePanel n p
          else s'
        (t.refreshSyncs).done [] true

/-- PANEL_CONFIGURE. -/
def execPanelConfigure (r : Request) (s : State) : Host.Outcome State Fault Refusal :=
  .next (panelConfigure.serve r s)

/-- PANEL_SEQUENCE_SET (R246): port (u8), sequence (u8), length (u16), 4 reserved bytes, then the sequence padded
to a multiple of 4 bytes (log entry 20); at acceptance, standing. -/
def panelSequenceSet : Cmd where
  opcode := 0x060C
  shape p := decide (8 ≤ p.length ∧ u16 p 2 ≤ 256 ∧ p.length = 8 + 4 * ceilDiv (u16 p 2) 4)
    && zeroFields p [(4, 4), (8 + u16 p 2, 4 * ceilDiv (u16 p 2) 4 - u16 p 2)]
  args c _ := decide (u8 c.args 0 ≤ 1 ∧ u8 c.args 1 ≤ 2) && (seqEntries 64 (slice c.args 8 (u16 c.args 2))).isSome
  run c s :=
    let n := u8 c.args 0
    let x := s.panel n
    (s.setPanel n { x with seqs := x.seqs.set (u8 c.args 1) (slice c.args 8 (u16 c.args 2)) }).done [] true

/-- PANEL_SEQUENCE_SET. -/
def execPanelSequenceSet (r : Request) (s : State) : Host.Outcome State Fault Refusal :=
  .next (panelSequenceSet.serve r s)

/-! ## Content -/

/-- The surface windows of a content (R248). -/
def contentHandles (p : Bytes) : List Nat := ((List.range 4).map fun i => u32 p (24 + 8 * i)).filter (· != 0)

/-- The arguments of PANEL_CONTENT_SET (R248): in CANVAS mode, on an enabled port, the crop lies in the
picture, the placement in the panel, and the factors from 1/8 to 2. -/
def contentValid (p : Bytes) (s : State) : Bool :=
  let n := u8 p 0
  let x := s.panel n
  let f := s.groupFormat x.tg
  let k := areaOf (u16 p 4, u16 p 6, u16 p 8, u16 p 10) (activeWidth f.1) (activeLines f.1)
  let q := areaOf (u16 p 12, u16 p 14, u16 p 16, u16 p 18) x.width x.height
  let fac (a b : Nat) : Bool := decide (a ≤ 8 * b ∧ b ≤ 2 * a)
  decide (n ≤ 1 ∧ u8 p 1 ≤ 2) &&
  match u8 p 1 with
  | 0 => !x.enabled || (inPicture k (activeWidth f.1) (activeLines f.1) && inPicture q x.width x.height
      && fac k.2.2.1 q.2.2.1 && fac k.2.2.2 q.2.2.2)
  | 1 => (contentHandles p).all fun h => (s.surface h).isSome
  | _ => true

/-- A content takes effect (R248, R253): its surfaces are ACTIVE, and STRETCHED ends. -/
def applyContent (p : Bytes) (s : State) : State :=
  let n := u8 p 0
  let x := s.panel n
  let s := s.setPanel n { x with
    content := p, still := 0, oweActive := x.oweActive || x.state == .stretched
    state := if x.state = .stretched then .active else x.state }
  if u8 p 1 = 1 ∧ x.enabled then (contentHandles p).foldl State.activate s else s

/-- PANEL_CONTENT_SET (R248). -/
def panelContentSet : Cmd where
  opcode := 0x060B
  timed := true
  shape := exactly 56 [(2, 2), (23, 1)]
  args c s := contentValid c.args s
  run c s :=
    let p := c.args
    let x := s.panel (u8 p 0)
    let xs := if u8 p 1 = 1 then (contentHandles p).filterMap s.surface else []
    if xs.any fun y => y.format > 1 then s.deny stFormatMismatch
    else if xs.any fun y => y.state == .afterglow then s.deny stSurfaceInUse
    else if (s.tg x.tg).enabled then s.schedule c 0x060B .firstActive x.tg p [] (fun _ => true)
    else (applyContent p s).done

/-- PANEL_CONTENT_SET. -/
def execPanelContentSet (r : Request) (s : State) : Host.Outcome State Fault Refusal :=
  .next (panelContentSet.serve r s)

/-- The Dusk line of a group freezes the contents that take effect in its frame (R219, R248). -/
def State.freezePanels (s : State) (g : Nat) : State :=
  let f := (s.tg g).pos.frame
  (s.ccp.schedule.filter fun e =>
    e.opcode == 0x060B && e.effect.tg == g && e.effect.frame == f && !e.begun).foldl
    (fun s e => (applyContent e.args s).mapSched e.jsn fun x => { x with begun := true }) s

/-! ## Fill and push -/

/-- The dirty columns of a tile row as spans (first, last): runs separated by at most 2 clean tiles are joined
(R250). -/
def spans : List Nat → List (Nat × Nat)
  | [] => []
  | c :: r => match spans r with
    | [] => [(c, c)]
    | (a, b) :: t => if a ≤ c + 3 then (c, b) :: t else (c, c) :: (a, b) :: t

/-- The spans of each tile row in order: row, first, last column. -/
def dirtySpans (cols rows : Nat) (dirty : List Nat) : List (Nat × Nat × Nat) :=
  (List.range rows).flatMap fun y =>
    (spans ((List.range cols).filter fun x => dirty.contains (y * cols + x))).map fun s => (y, s.1, s.2)

/-- Join a span to the region that ends just above it with equal column bounds (R250); a region is its first
and last row and its columns. -/
def joinSpan (l : List (Nat × Nat × Nat × Nat)) (s : Nat × Nat × Nat) : List (Nat × Nat × Nat × Nat) :=
  if l.any fun r => r.2.1 + 1 == s.1 && r.2.2.1 == s.2.1 && r.2.2.2 == s.2.2 then
    l.map fun r => if r.2.1 + 1 = s.1 ∧ r.2.2.1 = s.2.1 ∧ r.2.2.2 = s.2.2 then (r.1, s.1, r.2.2.1, r.2.2.2) else r
  else l ++ [(s.1, s.1, s.2.1, s.2.2)]

/-- The regions of a push, as x, y, width and height in pixels, by their top line (R250). -/
def Panel.regions (p : Panel) : List (Nat × Nat × Nat × Nat) :=
  let g := p.grid
  if g.1 * g.2 < 2 * p.dirty.length then [(0, 0, p.width, p.height)]
  else
    ((dirtySpans g.1 g.2 p.dirty).foldl joinSpan []).map fun r =>
      (64 * r.2.2.1, 16 * r.1, min p.width (64 * (r.2.2.2 + 1)) - 64 * r.2.2.1,
       min p.height (16 * (r.2.1 + 1)) - 16 * r.1)

/-- The fill of a frame (R249, R251, R253): the tiles whose pixels changed become dirty. -/
def Panel.fill (p : Panel) (changed : List Nat) : Panel :=
  if p.state = .disabled ∨ !p.script.isEmpty then p
  else if !p.pushing.isEmpty then { p with skipped := p.skipped + 1 }
  else if p.state = .stretched ∧ p.skip + 1 < p.stretch then { p with skip := p.skip + 1 }
  else
    let dirty := p.allTiles.filter fun t => p.dirty.contains t || changed.contains t
    let p := { p with dirty, filled := true, fills := p.fills + 1, skip := 0
                      still := if dirty.isEmpty then p.still + 1 else 0 }
    if p.state = .stretched ∧ !dirty.isEmpty then { p with state := .active, oweActive := true } else p

/-- A push starts (R250, R253): the ACTIVE sequence first where it is owed. -/
def Panel.push (p : Panel) : Panel :=
  if p.state = .disabled ∨ !p.script.isEmpty ∨ !p.filled ∨ !p.pushing.isEmpty ∨ p.dirty.isEmpty then p
  else
    let p := if p.oweActive then ({ p with oweActive := false }).runDue (scriptOf 0 (p.entries 2) []) else p
    if !p.script.isEmpty then p
    else { p with pushing := p.regions, pushTiles := p.dirty, pushes := p.pushes + 1, filled := false
                  sent := ([[0x2C], [0x2B], [0x2A]] ++ p.sent).take 16 }

/-- A TE edge lies within ±10 % of the nominal period after the one before (R252). -/
def Panel.teSpaced (p : Panel) (dt : Nat) : Bool := match p.teLast with
  | none => false
  | some t => decide (9 * p.period ≤ 10 * (dt - t) ∧ 10 * (dt - t) ≤ 11 * p.period)

/-- A TE edge (R250, R252). -/
def panelTeEdge (n : Nat) (s : State) : State :=
  let p := s.panel n
  if p.state = .disabled ∨ p.teNone ∨ 1 < n then s
  else
    let good := if p.teSpaced s.time.dt then p.teGood + 1 else 0
    let p := { p with teGood := good, teLast := some s.time.dt
                      tePeriod := match p.teLast with | some t => s.time.dt - t | none => p.tePeriod }
    if !p.teLost then s.setPanel n p.push
    else if 4 ≤ good then (s.setPanel n { p with teLost := false }.push).raise .panelTeRestored (srcPanel n)
    else s.setPanel n p

/-- PANEL_TE_EDGE. -/
def execPanelTeEdge (n : Nat) (s : State) : Host.Outcome State Fault Refusal := .next (if s.halted then s else panelTeEdge n s)

/-- The internal tick pushes under NONE and while TE is lost (R250, R252). -/
def panelInternalTick (n : Nat) (s : State) : State :=
  let p := s.panel n
  if p.teNone || p.teLost then s.setPanel n p.push else s

/-- PANEL_INTERNAL_TICK. -/
def execPanelInternalTick (n : Nat) (s : State) : Host.Outcome State Fault Refusal := .next (if s.halted then s else panelInternalTick n s)

/-- A push is complete (R250): the marks of its tiles are cleared; a stretched port's banks go into retention
(R473). -/
def panelPushComplete (n : Nat) (s : State) : State :=
  let p := s.panel n
  if p.pushing.isEmpty then s
  else
    let s := s.setPanel n { p with
      dirty := p.dirty.filter fun t => !p.pushTiles.contains t, tiles := p.tiles + p.pushTiles.length
      pushing := [], pushTiles := [] }
    if p.state = .stretched then s.retainBanks (panelBanks n) else s

/-- PANEL_PUSH_COMPLETE. -/
def execPanelPushComplete (n : Nat) (s : State) : Host.Outcome State Fault Refusal := .next (panelPushComplete n s)

/-- TE is lost (R252). -/
def panelTeLost (n : Nat) (s : State) : State :=
  let p := s.panel n
  if p.state = .disabled ∨ p.teNone ∨ p.teLost ∨ 1 < n then s
  else (s.setPanel n { p with teLost := true, teGood := 0, teLosses := p.teLosses + 1 }).raise .panelTeLost (srcPanel n)

/-- PANEL_TE_LOST. -/
def execPanelTeLost (n : Nat) (s : State) : Host.Outcome State Fault Refusal := .next (panelTeLost n s)

/-- A port whose last N fills found nothing dirty enters STRETCHED and sends the IDLE sequence (R253). -/
def panelStretchEntry (n : Nat) (s : State) : State :=
  let p := s.panel n
  if p.state = .active ∧ p.script.isEmpty ∧ p.staticFrames ≤ p.still then
    (s.setPanel n (({ p with state := .stretched, skip := 0 }).runDue (scriptOf 0 (p.entries 1) []))).retainBanks (panelBanks n)
  else s

/-- PANEL_STRETCH_ENTRY. -/
def execPanelStretchEntry (n : Nat) (s : State) : Host.Outcome State Fault Refusal := .next (panelStretchEntry n s)

/-- A wait of a sequence is over (R246, R247): the next command is sent, and those after it that wait no
longer; at its end an enabled port marks every tile dirty, a disabled one drives its reset low. -/
def panelSequenceDelayExpiry (n : Nat) (s : State) : State :=
  let p := s.panel n
  match p.script with
  | [] => s
  | (_, b) :: r =>
    if p.closing then s.setPanel n { p with script := [], closing := false, resetHigh := false }
    else
      let q := (p.send b).runDue r
      s.setPanel n (if q.script.isEmpty && b == [0x29] then { q with dirty := q.allTiles, filled := true } else q)

/-- PANEL_SEQUENCE_DELAY_EXPIRY. -/
def execPanelSequenceDelayExpiry (n : Nat) (s : State) : Host.Outcome State Fault Refusal :=
  .next (panelSequenceDelayExpiry n s)

/-! ## PANEL_STATUS -/

/-- The code of a port's state (R254). -/
def PanelState.code : PanelState → Nat
  | .disabled => 0
  | .active => 1
  | .stretched => 2

/-- PANEL_STATUS (R254; log entry 17). -/
def panelStatus : Cmd where
  opcode := 0x0683
  run _ s := s.done (Config.layout 0x0683 ((List.range 2).flatMap fun n =>
    let p := s.panel n
    ([p.state.code, u8 p.content 1, (s.dest (0x5000 + n)).source, b2n p.teLost, p.tePeriod, p.fills, p.pushes,
      p.tiles, p.skipped, p.teLosses] : List Nat).map Int.ofNat))

/-- PANEL_STATUS. -/
def execPanelStatus (r : Request) (s : State) : Host.Outcome State Fault Refusal := .next (panelStatus.serve r s)

end Sys2Proof.Machine
end

