-- ==== Sys2Proof/Machine/Encode.lean ====
section
/-! DEFINITION. Encode channels (R255 to R284) and their rate control (R285 to R303): the commands, the header
task at a Dusk line, the decoding units on their way through the row pipeline, and the packetiser. Times of the
buffer model are exact: the unit is 1 ÷ (4 × frame rate numerator × lines) of a second, and arrival times are
held multiplied by the bit rate. -/

namespace Sys2Proof.Machine

/-! ## The channel's format in exact units -/

/-- The timing of a channel (R267, R268): units per second, per line, per picture; lines of a DU and DUs of a
picture. -/
structure EncTime where
  second : Nat
  line : Nat
  picture : Nat
  duLines : Nat
  dus : Nat
  deriving DecidableEq, Repr

/-- The CTU size of a codec (R260). -/
def ctuSize (codec : Nat) : Nat := if codec = 0 then 64 else 128

/-- A format is coded by a ganged pair (R257). -/
def ganged (raster rate : Nat) : Bool := decide (64 < formatCost raster rate)

/-- The timing of a codec, raster and rate. -/
def encTime (codec raster rate : Nat) : EncTime :=
  let f := frameFraction raster rate
  let n := totalLines raster
  let h := if interlaced raster then activeLines raster / 2 else activeLines raster
  let k := if ganged raster rate then 256 else ctuSize codec
  { second := 4 * f.1 * n, line := 4 * f.2, picture := if interlaced raster then 2 * n * f.2 else 4 * n * f.2
    duLines := k, dus := ceilDiv h k }

/-- The DU period in units (R267). -/
def EncTime.du (t : EncTime) : Nat := t.duLines * t.line

/-- The fixed delay and the CPB delay of a latency mode, in units (R268). -/
def delays (t : EncTime) (mode : Nat) : Nat × Int :=
  match mode with
  | 0 => (16 * t.du, 10 * t.du)
  | 1 => (t.picture / 2, (t.picture / 2 : Int) - 6 * t.du)
  | 2 => (t.picture, (t.picture : Int) - 6 * t.du)
  | _ => (2 * t.picture, (t.picture : Int) - 6 * t.du)

/-- A latency mode is supported: its CPB delay is at least 4 DU periods (R268). -/
def modeSupported (t : EncTime) (mode : Nat) : Bool := decide ((4 * t.du : Int) ≤ (delays t mode).2)

/-- A quotient rounded half up. -/
def roundDiv (a b : Nat) : Nat := (2 * a + b) / (2 * b)

/-- Units in ns, rounded half up. -/
def EncTime.ns (t : EncTime) (u : Nat) : Nat := roundDiv (1000000000 * u) t.second

/-- The CPB size in bits for a rate in kb/s (R286), rounded half up. -/
def cpbBits (t : EncTime) (mode rate : Nat) : Nat := roundDiv (rate * 1000 * (delays t mode).2.toNat) t.second

/-- CTU columns of a picture, and CTU rows of a DU. -/
def ctuColumns (codec raster : Nat) : Nat := ceilDiv (activeWidth raster) (ctuSize codec)
def duCtuRows (codec raster rate : Nat) : Nat := (encTime codec raster rate).duLines / ctuSize codec

/-- The floor bound of a CTU (R290). -/
def ctuFloor (codec : Nat) (intra : Bool) : Nat :=
  if codec = 0 then (if intra then 48 else 32) else if intra then 64 else 40

/-- The admission test of R294: the intra floor of a DU is at most half a DU share. -/
def rateAdmitted (codec raster rate kbps header : Nat) : Bool :=
  let t := encTime codec raster rate
  let ctus := ctuColumns codec raster * duCtuRows codec raster rate
  decide (2 * (header + ctus * ctuFloor codec true) * t.second ≤ kbps * 1000 * t.du)

/-! ## Fields of an open channel -/

def Enc.latency (e : Enc) : Nat := u8 e.cfg 11
def Enc.structure_ (e : Enc) : Nat := u8 e.cfg 13
def Enc.irap (e : Enc) : Bool := u8 e.cfg 14 == 1
def Enc.openRate (e : Enc) : Nat := u32 e.cfg 20
def Enc.capped (e : Enc) : Bool := u8 e.cfg 24 == 1
def Enc.time (e : Enc) : EncTime := encTime e.codec e.raster e.rateCode
def Enc.gang (e : Enc) : Bool := ganged e.raster e.rateCode
def Enc.longInterval (e : Enc) : Nat := u16 e.cfg 18

/-- The active references of a payload (R261, R274). -/
def activeRefs (p : Bytes) : Nat := if u8 p 13 = 2 then 0 else if u8 p 15 = 0 then 2 else u8 p 15

/-- The smallest pool (R274). -/
def poolMin (p : Bytes) : Nat :=
  if u8 p 13 = 2 then 1 else activeRefs p + 1 + (if u16 p 18 = 0 then 0 else 1)

/-- The largest QP of a codec (R289). -/
def maxQp (codec : Nat) : Nat := if codec = 0 then 51 else 63

/-- The picture rate of a channel rounded up, the default refresh period (R261). -/
def periodDefault (rate : Nat) : Nat := ceilDiv (rateFraction rate).1 (rateFraction rate).2

/-! ## ENCODE_CHANNEL_OPEN -/

/-- Codec, profile, chroma, bit depth and structure go together (R259). -/
def profileOk (p : Bytes) : Bool :=
  let d := u8 p 8
  let c := u8 p 7
  (d == 8 || d == 10) && decide (c ≤ 1) &&
  match u8 p 3, u8 p 4 with
  | 0, 0 => d == 8 && c == 0
  | 0, 1 => c == 0
  | 0, 2 => true
  | 0, 3 => u8 p 13 == 2
  | 1, 0 => c == 0
  | 1, 1 => true
  | _, _ => false

/-- The arguments of ENCODE_CHANNEL_OPEN (R257, R259, R261, R262, R285, R294). -/
def encodeValid (p : Bytes) (s : State) : Bool :=
  let t := s.tg (u8 p 2)
  let codec := u8 p 3
  let et := encTime codec (u8 p 9) (u8 p 10)
  decide (u16 p 0 < 32 ∧ u8 p 2 < 8) && (s.enc (u16 p 0)).isNone && decide (0 < featureCount s.part.feature 5)
    && t.enabled && t.raster == u8 p 9 && t.rate == u8 p 10 && profileOk p
    && decide (u8 p 5 ≤ (if codec = 0 then 186 else 102) ∧ u8 p 6 ≤ 1) && Config.levelAllows p
    && decide (u8 p 11 ≤ 3 ∧ u8 p 12 ≤ 3 ∧ u8 p 13 ≤ 2 ∧ u8 p 14 ≤ 1 ∧ u8 p 15 ≤ 4)
    && (u8 p 13 != 2 || (u8 p 15 == 0 && u16 p 18 == 0)) && zeroOr (u16 p 16) 2 1024 && zeroOr (u16 p 18) 2 65535
    && decide (5000 ≤ u32 p 20 ∧ u32 p 20 ≤ 2000000 ∧ u8 p 24 ≤ 1 ∧ u8 p 25 ≤ maxQp codec)
    && (u8 p 26 == 0 || decide (2 ≤ u8 p 26 ∧ u8 p 26 ≤ 16 ∧ poolMin p ≤ u8 p 26)) && colourCodeOk (u8 p 27)
    && decide (u8 p 32 < 8) && modeSupported et (u8 p 11) && !(u8 p 11 == 0 && u8 p 14 == 1)
    && rateAdmitted codec (u8 p 9) (u8 p 10) (u32 p 20) (Config.headerBits p)

/-- A new channel (R261, R274). -/
def newEnc (p : Bytes) (cores : List Nat) : Enc :=
  { cfg := p, cores, rate := u32 p 20, effort := u8 p 12
    period := if u16 p 16 = 0 then periodDefault (u8 p 10) else u16 p 16
    minQp := u8 p 25, pool := List.replicate (if u8 p 26 = 0 then poolMin p else u8 p 26) 0 }

/-- The stream ring of a CPB size (R263). -/
def streamRing (cpb : Nat) : Nat := roundUp (2 * ceilDiv cpb 8 + 4194304) 4096

/-- An HBM address of a reserved area: the spec leaves it open (R263; a free value on a 4 KiB boundary). -/
def State.reservedAddr (s : State) : Nat := s.free % max 1 (s.hbmEnd / 4096) * 4096

/-- The response of ENCODE_CHANNEL_OPEN (R263). -/
def encodeResponse (s : State) (p : Bytes) (cores : List Nat) : Bytes :=
  let t := encTime (u8 p 3) (u8 p 9) (u8 p 10)
  let cpb := cpbBits t (u8 p 11) (u32 p 20)
  le 1 ((cores.map fun k => 2 ^ k).sum) ++ zeros 3 ++ le 4 (t.ns (delays t (u8 p 11)).1) ++ le 4 cpb
    ++ le 4 (t.ns t.du) ++ le 8 s.reservedAddr ++ le 4 (streamRing cpb) ++ zeros 4

/-- The destination of an encode channel's input (R154). -/
def encInput (n : Nat) : Nat := 0x4000 + n

/-- ENCODE_CHANNEL_OPEN (R256, R257, R261 to R263). -/
def encodeChannelOpen : Cmd where
  opcode := 0x0701
  timed := true
  shape := exactly 48 [(33, 15)]
  args c s := encodeValid c.args s
  run c s :=
    let p := c.args
    let n := u16 p 0
    let g := u8 p 2
    let cost := codingCharge (formatCost (u8 p 9) (u8 p 10))
    let e := (s.place .firstActive g c.req.atFrame.toNat c.req.atLine.toNat c.req.group.toNat (s.stampOf c.key g)).effect
    match s.placeCores n cost (s.effectDt e) with
    | none => s.deny stNoCapacity
    | some cores =>
      let charges := ⟨105, n, 1⟩ :: coreCharges n cost cores []
      let a := s.schedule c 0x0701 .firstActive g (p ++ [BitVec.ofNat 8 ((cores.map fun k => 2 ^ k).sum)]) charges
        (s.fits charges)
      if openStatus a.status then
        { a with payload := encodeResponse s p cores
                 state := (a.state.setEnc n (newEnc p cores)).tookFree }
      else a

/-- ENCODE_CHANNEL_OPEN. -/
def execEncodeChannelOpen (r : Request) (s : State) : Host.Outcome State Fault Refusal :=
  .next (encodeChannelOpen.serve r s)

/-! ## ENCODE_CHANNEL_SET -/

/-- The arguments of ENCODE_CHANNEL_SET (R264, R294, R299): only masked fields are looked at. -/
def encodeSetValid (p : Bytes) (s : State) : Bool :=
  let m := u8 p 2
  match s.enc (u16 p 0) with
  | none => false
  | some e =>
    !e.closed && decide (m < 32) && (!bit m 1 || decide (u8 p 3 ≤ 3))
      && (!bit m 0 || (decide (5000 ≤ u32 p 4 ∧ u32 p 4 ≤ e.openRate)
          && !(e.codec == 0 && !e.irap)
          && rateAdmitted e.codec e.raster e.rateCode (u32 p 4) (Config.headerBits e.cfg)))
      && (!bit m 2 || zeroOr (u16 p 8) 2 1024) && (!bit m 3 || decide (u8 p 10 ≤ maxQp e.codec))

/-- ENCODE_CHANNEL_SET (R264). -/
def encodeChannelSet : Cmd where
  opcode := 0x0702
  timed := true
  shape := exactly 24 [(11, 13)]
  args c s := encodeSetValid c.args s
  run c s := match s.enc (u16 c.args 0) with
    | none => s.deny stBadArgument
    | some e => s.schedule c 0x0702 .firstActive e.tg c.args [] (fun _ => true)

/-- ENCODE_CHANNEL_SET. -/
def execEncodeChannelSet (r : Request) (s : State) : Host.Outcome State Fault Refusal :=
  .next (encodeChannelSet.serve r s)

/-- The masked settings of a channel take effect at its picture (R264, R265, R299): a new bit rate carries the
arrival end over in units of the new rate, and is a forced refresh. -/
def Enc.set (e : Enc) (p : Bytes) : Enc :=
  let m := u8 p 2
  let e := if bit m 0 ∧ u32 p 4 ≠ e.rate then
      { e with fPrev := e.fPrev.map fun f => f * u32 p 4 / max 1 e.rate
               rate := u32 p 4, rateChanged := true, force := true }
    else e
  let e := if bit m 1 then { e with effort := u8 p 3 } else e
  let e := if bit m 2 then { e with period := if u16 p 8 = 0 then periodDefault e.rateCode else u16 p 8 } else e
  let e := if bit m 3 then { e with minQp := u8 p 10 } else e
  if bit m 4 then { e with force := true } else e

/-! ## ENCODE_CHANNEL_CLOSE -/

/-- ENCODE_CHANNEL_CLOSE (R266). -/
def encodeChannelClose : Cmd where
  opcode := 0x0704
  timed := true
  shape := exactly 8 [(2, 6)]
  args c s := match s.enc (u16 c.args 0) with
    | some e => !e.closed
    | none => false
  run c s := match s.enc (u16 c.args 0) with
    | none => s.deny stBadArgument
    | some e =>
      let n := u16 c.args 0
      let charges := ⟨105, n, 0⟩ :: coreCharges n 0 [] e.cores
      s.schedule c 0x0704 .firstActive e.tg c.args charges (s.fits charges)

/-- ENCODE_CHANNEL_CLOSE. -/
def execEncodeChannelClose (r : Request) (s : State) : Host.Outcome State Fault Refusal :=
  .next (encodeChannelClose.serve r s)

/-- A close takes effect (R266): the input's route returns to 0xF000, its rule is deleted, capacity returns. -/
def applyEncodeClose (p : Bytes) (s : State) : State :=
  let n := u16 p 0
  match s.enc n with
  | none => s
  | some e =>
    let d := encInput n
    let s := s.setEnc n { e with closed := true }
    let s := s.setDest d {}
    let s := { s with routing := { s.routing with rules := tabDrop s.routing.rules d } }
    (s.settleCores e.tg).refreshSyncs.tellTallies

/-- The last DU of a closed channel has left (R266, R275): its pool and rings are freed. -/
def lastDuLeft (n : Nat) (s : State) : State :=
  match s.enc n with
  | none => s
  | some e =>
    if e.closed && e.pics.isEmpty then { s with coding := { s.coding with encs := tabDrop s.coding.encs n } } else s

/-- LAST_DU_LEFT. -/
def execLastDuLeft (n : Nat) (s : State) : Host.Outcome State Fault Refusal := .next (lastDuLeft n s)

/-! ## The buffer model -/

/-- The start of a picture in units: frame F of the group, and its second field half a frame later. -/
def picStart (t : EncTime) (inter : Bool) (frame : Nat) (second : Bool) : Nat :=
  frame * (if inter then 2 * t.picture else t.picture) + (if second then t.picture else 0)

/-- The removal time of DU r of a picture, in units (R286). -/
def removal (t : EncTime) (mode start r : Nat) : Nat := start + (delays t mode).1 + r * t.du

/-- The earliest arrival of DU r (R286). -/
def earliest (t : EncTime) (mode start r : Nat) : Nat := removal t mode start r - (delays t mode).2.toNat

/-- The limit of DU j, times the units of a second (R292): `start` is the arrival start times the bit rate, `rem`
the removal times of DU j and the later DUs of the picture, `floors` the floor costs of those later DUs. -/
def duLimit (second bps start : Nat) (rem floors : List Nat) : Int :=
  let go := (rem.zip (0 :: floors)).foldl (fun (a : Int × Int) x =>
    let reserve := a.2 + x.2
    let v : Int := (bps * x.1 : Int) - start - reserve * second
    (min a.1 v, reserve)) (((bps * rem.headD 0 : Nat) : Int) - start, 0)
  go.1

/-- What the decision stage makes of a DU: bits spent, CTUs floored, and the CTU at which FLOOR began (R293). -/
structure Decided where
  spent : Nat
  floored : Nat
  entry : Option Nat
  deriving DecidableEq, Repr

/-- The test of R293 over the CTUs of a DU: each a cost at its QP and a floor bound. `lim` is the limit times the
units of a second. -/
def decideCtus (second : Nat) (lim : Int) : List (Nat × Nat) → Nat → Bool → Nat → Decided → Decided
  | [], _, _, _, d => d
  | (cost, fl) :: r, rest, atFloor, i, d =>
    let rest' := rest - fl
    let atFloor' := atFloor || decide (lim < ((d.spent + cost + rest') * second : Nat))
    decideCtus second lim r rest' atFloor' (i + 1)
      { spent := d.spent + (if atFloor' then fl else cost), floored := d.floored + b2n atFloor'
        entry := if atFloor' && !atFloor then some i else d.entry }

/-- The decision of a DU that begins at H bits (R293). -/
def decideDu (second : Nat) (lim : Int) (header : Nat) (ctus : List (Nat × Nat)) (atFloor : Bool) : Decided :=
  decideCtus second lim ctus ((ctus.map (·.2)).sum) atFloor 0 ⟨header, 0, none⟩

/-- The filler of a DU that ends before the next may begin, in whole bytes (R287): `f` and `c` are the arrival end
and the next earliest arrival times the bit rate. -/
def fillerBits (second f c : Nat) : Nat := if c ≤ f then 0 else 8 * ceilDiv (c - f) (8 * second)

/-- CTU columns that picture k of a sweep refreshes (R273). -/
def refreshColumns (columns period k : Nat) : Nat × Nat :=
  let w := ceilDiv columns (max 1 period)
  (min columns (k * w), min columns ((k + 1) * w))

/-- A picture is intra as a whole (R289). -/
def intraType (type : Nat) : Bool := type == 0 || type == 4

/-- Whether a CTU column of a picture is intra at floor (R289). -/
def Enc.columnIntra (e : Enc) (p : EncPic) (col : Nat) : Bool :=
  let r := refreshColumns (ctuColumns e.codec e.raster) e.period p.sweep
  intraType p.type || (!e.irap && e.structure_ != 2 && p.type != 5 && decide (r.1 ≤ col ∧ col < r.2))

/-- The floor bounds of the CTUs of a DU of a picture, in coding order; of a ganged channel those of one half
(R278, R290). -/
def Enc.floorList (e : Enc) (p : EncPic) (right : Bool) : List Nat :=
  let cols := ctuColumns e.codec e.raster
  let rows := duCtuRows e.codec e.raster e.rateCode
  let half := ceilDiv cols 2
  let cs := if e.gang then (if right then (List.range (cols - half)).map (half + ·) else List.range half)
    else List.range cols
  (List.range rows).flatMap fun _ => cs.map fun c => ctuFloor e.codec (e.columnIntra p c)

/-- The header bits of DU r of a picture (R290). -/
def Enc.header (e : Enc) (p : EncPic) (r : Nat) : Nat := Config.duHeaderBits e.cfg p.number r

/-- The floor cost of DU r (R290). -/
def Enc.floorCost (e : Enc) (p : EncPic) (r : Nat) : Nat :=
  e.header p r + (e.floorList p false).sum + (if e.gang then (e.floorList p true).sum else 0)

/-- The start of a picture of a channel in units. -/
def Enc.startOf (e : Enc) (p : EncPic) : Nat := picStart e.time (interlaced e.raster) p.frame p.second

/-- The arrival start of DU r of a picture times the bit rate (R286). -/
def Enc.arrival (e : Enc) (p : EncPic) (r : Nat) : Nat :=
  let c := e.rate * 1000 * earliest e.time e.latency (e.startOf p) r
  match e.fPrev with
  | some f => max f c
  | none => c

/-- The removal times of DU r and the later DUs of a picture. -/
def Enc.removals (e : Enc) (p : EncPic) (r : Nat) : List Nat :=
  (List.range (e.time.dus - r)).map fun k => removal e.time e.latency (e.startOf p) (r + k)

/-- The earliest arrival of the DU after DU r, times the bit rate: of the next picture after the last. -/
def Enc.nextEarliest (e : Enc) (p : EncPic) (r : Nat) : Nat :=
  let t := e.time
  e.rate * 1000 * (if r + 1 < t.dus then earliest t e.latency (e.startOf p) (r + 1)
    else earliest t e.latency (e.startOf p + t.picture) 0)

/-! ## Planning -/

/-- The weight of a picture in hundredths (R296). -/
def weightOf (type number : Nat) (lowDelayB : Bool) : Nat :=
  if type = 0 then 400
  else if lowDelayB then [100, 71, 79, 71].getD (number % 4) 100
  else 100

/-- The mean weight over a cycle, as a sum and a count (R296). -/
def Enc.meanWeight (e : Enc) : Nat × Nat :=
  let lb := e.structure_ == 1
  if e.irap then (400 + ((List.range (e.period - 1)).map fun i => weightOf 2 (i + 1) lb).sum, e.period)
  else if lb then (321, 4)
  else (100, 1)

/-- The predicted arrival end before a picture: the last decided DU, and every DU not yet decided at its row
target (R296), times the bit rate. -/
def Enc.predicted (e : Enc) : Option Nat :=
  e.pics.foldl (fun f p => (List.range p.dus.length).foldl (fun f r =>
    match p.dus[r]? with
    | none => f
    | some d => if d.bits.isSome then f
      else
        let c := e.rate * 1000 * earliest e.time e.latency (e.startOf p) r
        some (max (f.getD c) c + d.target * e.time.second)) f) e.fPrev

/-- The picture target of R296, rounded down; in LD-DEEP it is shaded by the lookahead in a way the spec leaves open,
so it is a free value (R297). -/
def Enc.target (e : Enc) (p : EncPic) (free : Nat) : Nat :=
  let t := e.time
  let floor := ((List.range t.dus).map (e.floorCost p)).sum
  let w := weightOf p.type p.number (e.structure_ == 1)
  let m := e.meanWeight
  let base : Int := e.rate * 1000 * t.picture * w * m.2 / (t.second * m.1)
  let rem := e.rate * 1000 * removal t e.latency (e.startOf p) 0
  let c := e.rate * 1000 * earliest t e.latency (e.startOf p) 0
  let f := max (e.predicted.getD c) c
  let margin : Int := (rem : Int) - f
  let d : Int := e.rate * 1000 * (delays t e.latency).2
  let kappa : Int := if e.wasFloored then 2 else 8
  let v := base + (4 * margin - 3 * d) / (4 * t.second * kappa)
  if e.latency = 3 then max free floor else max v.toNat floor

/-- Divide the picture target among the DUs that are not decided, by complexity (R297). -/
def Enc.plan (e : Enc) (p : EncPic) : EncPic :=
  let h := ((List.range p.dus.length).map (e.header p)).sum
  let sum := max 1 ((p.dus.map (·.complexity)).sum)
  { p with dus := p.dus.map fun d =>
      if d.bits.isSome then d else { d with target := (p.target - h) * d.complexity / sum } }

/-! ## The header task -/

/-- Set a mark of a pool buffer. -/
def setMark (pool : List Nat) (b m : Nat) : List Nat := pool.set b m

/-- The buffers of a pool that hold pictures in coding, newest first. -/
def Enc.coding (e : Enc) : List Nat := (e.pics.map (·.buffer)).reverse

/-- The lists and the pool after the header task of a picture (R272, R275): references dropped from the lists
become UNUSED, at the long-term interval the newest reference becomes LONG in place of the old one, an IDR picture
drops all; then the picture takes the lowest-numbered UNUSED buffer. -/
def Enc.takeBuffer (e : Enc) (type number : Nat) : Enc × Nat :=
  let n := if e.structure_ = 2 then 0 else activeRefs e.cfg
  let lists := if type = 0 then [] else (e.coding ++ e.shorts).take n
  let free := e.shorts.filter fun b => !lists.contains b
  let pool := free.foldl (fun l b => setMark l b 0) e.pool
  let l := e.longInterval
  let kept := e.shorts.filter fun b => lists.contains b
  let freed : List Nat := match e.long with
    | some o => setMark pool o 0
    | none => pool
  let x : List Nat × Option Nat × List Nat :=
    if type = 0 then (freed, none, [])
    else if l ≠ 0 ∧ number % l = 0 then
      (match kept with
      | b :: r => (setMark freed b 2, some b, r)
      | [] => (pool, e.long, []))
    else (pool, e.long, kept)
  let busy := e.pics.map (·.buffer)
  let b := ((List.range x.1.length).find? fun i => x.1.getD i 0 == 0 && !busy.contains i).getD 0
  ({ e with pool := x.1, long := x.2.1, shorts := x.2.2 }, b)

/-- The type of the next picture and whether it begins a refresh (R272, R273). -/
def Enc.nextType (e : Enc) : Nat × Bool :=
  let first := e.pictures == 0 || e.discont && e.since == 0
  let due := first || e.force || decide (e.period ≤ e.since)
  let plain := if e.structure_ = 2 then 4 else if e.structure_ = 1 then 3 else 2
  if first then (if e.codec = 1 ∧ !e.irap ∧ e.structure_ ≠ 2 then 1 else 0, true)
  else if due then (if e.irap then 0 else if e.structure_ = 2 then 4 else if e.codec = 1 then 1 else plain, true)
  else (plain, false)

/-- The effective effort (R277). -/
def effectiveEffort (effort steps : Nat) : Nat := effort - steps

/-- The header task of a picture (R270, R273, R277, R296, R297). A late header task codes it with the types, lists and
budgets of the picture before (R270, R300). -/
def Enc.headerTask (e : Enc) (frame start steps free : Nat) (second isLate : Bool) : Enc :=
  let k := if isLate then (if e.lastType = 0 ∨ e.lastType = 1 then (if e.structure_ = 1 then 3 else if e.structure_ = 2 then 4 else 2)
      else e.lastType, false) else e.nextType
  let (e', b) := e.takeBuffer k.1 e.pictures
  let sweep := if k.2 then 0 else e.since
  let eff := effectiveEffort e.effort steps
  let flags := (if isLate then 4 else 0) + (if k.2 then 8 else 0) + (if e.rateChanged && !isLate then 32 else 0)
    + (if eff < e.effort then 64 else 0)
  let n := e.time.dus
  let p : EncPic :=
    { frame, second, number := e.pictures, type := k.1, flags, effort := eff, sweep, target := 0, start, buffer := b
      dus := (List.range n).map fun r => { complexity := max 1 (e.lastComplex.getD r 1) }, refresh := k.2 }
  let p := { p with target := e.target p free }
  let p := e.plan p
  { e' with
    pics := e'.pics ++ [p], pictures := e.pictures + 1, since := sweep + 1, lastType := k.1
    force := e.force && isLate, rateChanged := e.rateChanged && isLate, discont := e.discont
    nRecovery := e.nRecovery + b2n k.2, nHeaderLate := e.nHeaderLate + b2n isLate
    pack := e.packNext.getD e.pack, packNext := none }

/-- The header task of frame F of a channel, of both fields of an interlaced input (R260, R270). -/
def State.encHeader (s : State) (n : Nat) (isLate : Bool) : State :=
  match s.enc n with
  | none => s
  | some e =>
    if e.closed || e.stopped || !e.begun then s
    else
      let t := s.tg e.tg
      let f := t.pos.frame
      let dt := (t.dtOf f (firstActive t.raster)).toNat
      let e1 := e.headerTask f dt s.health.steps s.free false isLate
      let e2 := if interlaced e.raster then
          e1.headerTask f (dt + framePeriod t.raster t.rate / 2) s.health.steps s.free true isLate else e1
      let s := (s.setEnc n e2).tookFree
      if isLate then s.raiseAt .headerTaskLate (srcEncode n) e.tg else s

/-- A channel opens at its first picture (R261). -/
def applyEncodeOpen (p : Bytes) (s : State) : State :=
  match s.enc (u16 p 0) with
  | none => s
  | some e => (s.setEnc (u16 p 0) { e with begun := true }).settleCores e.tg

/-- A SET takes effect (R264, R266): after a CLOSE it has none. -/
def applyEncodeSet (p : Bytes) (s : State) : State :=
  match s.enc (u16 p 0) with
  | none => s
  | some e => if e.closed then s else s.setEnc (u16 p 0) (e.set p)

/-- An encode command takes effect. -/
def applyEncode (e : Sched) (s : State) : State :=
  if e.opcode = 0x0701 then applyEncodeOpen e.args s
  else if e.opcode = 0x0702 then applyEncodeSet e.args s
  else applyEncodeClose e.args s

/-- The channel of a scheduled encode command is one of those whose header task is late; its SET then waits one
frame (R270). -/
def deferred (isLate : List Nat) (e : Sched) : Bool := e.opcode == 0x0702 && isLate.contains (u16 e.args 0)

/-- The Dusk line of a group freezes the encode commands of its frame in JSN order (R48, R49), and the header tasks
start (R270). A change of parameters that falls inside a swap waits for the first picture after it (R114). -/
def State.freezeEncoders (s : State) (g : Nat) (isLate : List Nat) : State :=
  let f := (s.tg g).pos.frame
  let es := s.ccp.schedule.filter fun e => (e.opcode == 0x0701 || e.opcode == 0x0702 || e.opcode == 0x0704)
    && e.effect.tg == g && e.effect.frame == f && !e.begun
  let s := es.foldl (fun s e =>
    if deferred isLate e || (s.journal.swapping && e.opcode == 0x0702) then s.mapSched e.jsn fun x => { x with effect := { x.effect with frame := x.effect.frame + 1 } }
    else (applyEncode e s).mapSched e.jsn fun x => { x with begun := true }) s
  (s.coding.encs.map (·.1)).foldl (fun s n => match s.enc n with
    | some e => if e.tg = g then s.encHeader n (isLate.contains n) else s
    | none => s) s

/-! ## The row pipeline -/

/-- Change a picture in coding. -/
def Enc.mapPic (e : Enc) (number : Nat) (f : EncPic → EncPic) : Enc :=
  { e with pics := e.pics.map fun p => if p.number = number then f p else p }

/-- Change a DU of a picture. -/
def EncPic.mapDu (p : EncPic) (r : Nat) (f : Du → Du) : EncPic := { p with dus := p.dus.modify r f }

/-- The last source line of a DU is in memory (R267). -/
def encodeDuReady (n number r : Nat) (s : State) : State :=
  match s.enc n with
  | none => s
  | some e => s.setEnc n (e.mapPic number fun p => p.mapDu r fun d => { d with ready := true })

/-- ENCODE_DU_READY. -/
def execEncodeDuReady (n number r : Nat) (s : State) : Host.Outcome State Fault Refusal :=
  .next (encodeDuReady n number r s)

/-- The picture has no input: it is coded as a repeat picture, does not advance the sweep, and a refresh moves to the
first later picture that has input (R265, R273, R298). -/
def Enc.repeatPic (e : Enc) (p : EncPic) : Enc :=
  let e := e.mapPic p.number fun p => { p with
    type := if e.structure_ = 2 then 4 else 5, flags := (p.flags ||| 2) &&& 0xFFF7 }
  { e with force := e.force || p.refresh, since := e.since - 1, nRecovery := e.nRecovery - b2n p.refresh }

/-- The analysis period of a DU starts (R270, R297, R298): late input of DU 0 makes a repeat picture, of a later DU
a DU at floor; else its complexity re-plans the rows. -/
def encodeDuAnalysisStart (n number r complexity : Nat) (s : State) : State :=
  match s.enc n with
  | none => s
  | some e =>
    match e.pics.find? fun p => p.number == number with
    | none => s
    | some p =>
      match p.dus[r]? with
      | none => s
      | some d =>
        if d.analysed then s
        else if d.ready then
          let e := e.mapPic number fun p =>
            e.plan (p.mapDu r fun d => { d with analysed := true, complexity := max 1 complexity })
          let cs := (List.range p.dus.length).map fun i => if i = r then max 1 complexity else e.lastComplex.getD i 1
          s.setEnc n { e with lastComplex := cs }
        else
          let e := e.mapPic number fun p =>
            { p.mapDu r (fun d => { d with analysed := true, late := true }) with
              flags := if r = 0 then p.flags else p.flags ||| 16 }
          let e := if r = 0 then e.repeatPic p else e
          (s.setEnc n e).raiseAt .rcInputMissing (srcEncode n) e.tg r

/-- ENCODE_DU_ANALYSIS_START. -/
def execEncodeDuAnalysisStart (n number r complexity : Nat) (s : State) : Host.Outcome State Fault Refusal :=
  .next (encodeDuAnalysisStart n number r complexity s)

/-- The costs of the CTUs of a DU at their QPs, each with its floor bound: a DU without input, and every DU of a P or B
repeat picture, is coded at floor (R298). -/
def Enc.ctus (e : Enc) (p : EncPic) (d : Du) (costs : List Nat) (right : Bool) : List (Nat × Nat) :=
  let fl := e.floorList p right
  if (d.late && p.flags / 2 % 2 == 0) || p.type == 5 then fl.map fun f => (f, f)
  else (List.range fl.length).map fun i => (costs.getD i 0, fl.getD i 0)

/-- The decision stage takes a DU (R292, R293, R301): the limit, the test of each CTU, the filler; its QP lies within
the range of R297. -/
def Enc.decide_ (e : Enc) (p : EncPic) (r : Nat) (d : Du) (left right : List Nat) (qp : Nat) : Enc × Bool :=
  let t := e.time
  let qp := max e.minQp (min qp (maxQp e.codec))
  let start := e.arrival p r
  let rem := e.removals p r
  let floors := (List.range (t.dus - (r + 1))).map fun k => e.floorCost p (r + 1 + k)
  let bps := e.rate * 1000
  let lim := duLimit t.second bps start rem floors
  let h := e.header p r
  let a := if e.gang then decideDu t.second (lim / 2) (h / 2) (e.ctus p d left false) (p.floors.getD 0 false)
    else decideDu t.second lim h (e.ctus p d left false) (p.floors.getD 0 false)
  let b := if e.gang then decideDu t.second (lim / 2) (h - h / 2) (e.ctus p d right true) (p.floors.getD 1 false)
    else ⟨0, 0, none⟩
  let spent := a.spent + b.spent
  let f := start + spent * t.second
  let fill := if e.capped then 0 else fillerBits t.second f (e.nextEarliest p r)
  let f := f + fill * t.second
  let remJ := bps * rem.headD 0
  let was := p.floor.isSome
  let enter := match a.entry, b.entry with
    | some i, _ => some i
    | none, some i => some i
    | none, none => none
  let e' := e.mapPic p.number fun p =>
    { (p.mapDu r fun d => { d with
        bits := some spent, filler := fill, floored := a.floored + b.floored, qp
        margin := roundDiv (1000000000 * (remJ - start)) (bps * t.second)
        lead := roundDiv (1000000000 * (remJ - f)) (bps * t.second) }) with
      qp := if r = 0 then qp else p.qp
      floors := [p.floors.getD 0 false || a.entry.isSome, p.floors.getD 1 false || b.entry.isSome]
      floor := match p.floor with
        | some x => some x
        | none => enter.map fun i => (r, i, roundDiv lim.toNat t.second)
      flags := p.flags ||| (if a.entry.isSome || b.entry.isSome then 1 else 0) ||| (if b.entry.isSome then 128 else 0) }
  ({ e' with fPrev := some f }, !was && enter.isSome)

/-- The decision stage takes DU r of a picture: the costs of its CTUs at their QPs, of a ganged channel those of the left
and of the right half, and its mean QP. -/
def encodeDuDecision (n number r : Nat) (left right : List Nat) (qp : Nat) (s : State) : State :=
  match s.enc n with
  | none => s
  | some e =>
    match e.pics.find? fun p => p.number == number with
    | none => s
    | some p =>
      match p.dus[r]? with
      | none => s
      | some d =>
        if d.bits.isSome || (p.dus.take r).any fun x => x.bits.isNone then s
        else
          let x := e.decide_ p r d left right qp
          let b := p.buffer
          let e' := if r = 0 then { x.1 with pool := setMark x.1.pool b 3 } else x.1
          let s := s.setEnc n e'
          if x.2 then s.raiseAt .rcPictureFloored (srcEncode n) e.tg r else s

/-- ENCODE_DU_DECISION. -/
def execEncodeDuDecision (n number r : Nat) (left right : List Nat) (qp : Nat) (s : State) :
    Host.Outcome State Fault Refusal := .next (encodeDuDecision n number r left right qp s)

/-! ## Closing a DU -/

/-- The 64 bytes of a picture record (R302). -/
def EncPic.record (p : EncPic) (tg : Nat) : Bytes :=
  let sum (f : Du → Nat) : Nat := (p.dus.map f).sum
  let leads := p.dus.map (·.lead)
  le 6 p.frame ++ le 1 tg ++ le 1 p.type ++ le 2 p.flags ++ le 1 p.qp
    ++ le 1 (roundDiv (sum (·.qp)) (max 1 p.dus.length)) ++ le 1 p.effort
    ++ le 1 (match p.floor with | some x => x.1 | none => 0xFF)
    ++ le 2 (match p.floor with | some x => x.2.1 | none => 0xFFFF) ++ le 4 p.target
    ++ le 4 (sum fun d => d.bits.getD 0) ++ le 4 (sum (·.filler)) ++ le 4 (leads.foldl min (leads.headD 0))
    ++ le 8 p.start ++ le 4 (match p.floor with | some x => x.2.2 | none => 0) ++ le 2 p.dus.length
    ++ le 2 ((p.dus.filter (·.late)).length) ++ zeros 16

/-- The 16 bytes of a row record (R303). -/
def Du.record (d : Du) : Bytes :=
  le 4 (d.bits.getD 0 + d.filler) ++ le 4 d.target ++ le 4 d.margin ++ le 1 d.qp
    ++ le 1 (b2n (d.floored != 0) + 2 * b2n (d.filler != 0) + 4 * b2n d.late) ++ le 2 d.floored

/-- The 32-byte header of a host ring record (R282). -/
def ringHeader (n tg : Nat) (p : EncPic) (r payload flags : Nat) : Bytes :=
  le 4 (roundUp (32 + payload) 64) ++ le 4 payload ++ le 2 n ++ le 2 flags ++ le 2 r ++ zeros 2 ++ le 6 p.frame
    ++ le 1 tg ++ zeros 1 ++ le 8 p.start

/-- A record for the host ring (R282, R283): omitted while it does not fit, up to the next DU that carries
RECOVERY; `consumer` is what host memory holds at the consumer address. -/
def Enc.toRing (e : Enc) (n : Nat) (p : EncPic) (r payload consumer : Nat) : Enc :=
  if e.ring.base = 0 then e
  else
    let size := roundUp (32 + payload) 64
    let rec_ := p.refresh && p.flags / 2 % 2 == 0
    let known := e.ring.size - (e.ring.prod - e.ring.cons)
    let ring := if known < size then { e.ring with cons := consumer } else e.ring
    let fits := decide (size + (ring.prod - ring.cons) ≤ ring.size)
    if (e.omitting && !(rec_ && r == 0)) || !fits then { e with ring, omitting := true, nOverrun := e.nOverrun + 1 }
    else
      let disc := e.omitting || (e.discont && r == 0)
      let last := r + 1 == p.dus.length
      let flags := b2n (r == 0) + 2 * b2n last + 4 * b2n rec_ + 8 * (p.flags / 2 % 2) + 16 * (p.flags % 2)
        + 32 * b2n disc + 64 * b2n (e.closed && last && e.pics.length == 1) + 128 * (p.flags / 4 % 2)
      { e with omitting := false, ring := { ring with prod := ring.prod + size }
               written := (ringHeader n e.tg p r payload flags :: e.written).take 64 }

/-- A picture is coded whole (R275, R284, R302): its record, its rows, its buffer's mark. -/
def Enc.finishPic (e : Enc) (p : EncPic) : Enc :=
  let ref := e.structure_ != 2
  { e with
    pics := e.pics.filter fun q => q.number != p.number
    pool := setMark e.pool p.buffer (if ref then 1 else 0)
    shorts := if ref then (p.buffer :: e.shorts) else e.shorts
    wasFloored := p.flags % 2 == 1, discont := false
    records := (p.record e.tg :: e.records).take 1024, rows := (p.dus.map Du.record :: e.rows).take 4
    nCoded := e.nCoded + 1, nRepeat := e.nRepeat + p.flags / 2 % 2, nFloored := e.nFloored + p.flags % 2 }

/-- Every transmit flow bound to a channel sends an access unit's packets (R137, R280, R281). -/
def State.packetise (s : State) (n packets ts : Nat) : State :=
  let f (_ : Nat) (x : Flow) : Flow :=
    if x.enabled && codedKind x.kind && x.coding == n then
      { x with txSeq := (x.txSeq + packets) % 65536, txTs := ts } else x
  { s with signals := { s.signals with tx := tabMap f s.signals.tx } }

/-- A DU is closed and handed to the packetiser (R267, R280, R282, R287); `packets` is how many packets it takes on each
transmit flow. -/
def encodeDuClose (n number r packets consumer : Nat) (s : State) : State :=
  match s.enc n with
  | none => s
  | some e =>
    match e.pics.find? fun p => p.number == number with
    | none => s
    | some p =>
      match p.dus[r]? with
      | none => s
      | some d =>
        match d.bits with
        | none => s
        | some b =>
          if d.closed then s
          else
            let bytes := ceilDiv (b + d.filler) 8
            let e := (e.mapPic number fun p => p.mapDu r fun d => { d with closed := true }).toRing n p r bytes consumer
            let e := { e with nDus := e.nDus + 1, nBytes := e.nBytes + bytes }
            let q := (e.pics.find? fun p => p.number == number).getD p
            let e := if q.dus.all (·.closed) then e.finishPic q else e
            (s.setEnc n e).packetise n packets (p.start * 9 / 100000 % 2 ^ 32)

/-- ENCODE_DU_CLOSE. -/
def execEncodeDuClose (n number r packets consumer : Nat) (s : State) : Host.Outcome State Fault Refusal :=
  .next (encodeDuClose n number r packets consumer s)

/-! ## PACKETISER_SET, ENCODE_HOST_RING_SET -/

/-- The arguments of PACKETISER_SET (R280). -/
def packetiserValid (p : Bytes) (s : State) : Bool :=
  match s.enc (u16 p 0) with
  | none => false
  | some e =>
    !e.closed && zeroOr (u16 p 2) 256 8960 && zeroOr (u16 p 4) 0x20 0x1FFE && zeroOr (u16 p 6) 0x20 0x1FFE
      && zeroOr (u16 p 8) 0x20 0x1FFE && (u32 p 12 == 0 || decide (104 * e.rate ≤ 100 * u32 p 12))
      && zeroOr (u16 p 16) 10 40 && zeroOr (u16 p 18) 25 500 && decide (u8 p 20 ≤ 1)

/-- PACKETISER_SET (R280): at the next access unit. -/
def packetiserSet : Cmd where
  opcode := 0x0705
  shape := exactly 32 [(21, 11)]
  args c s := packetiserValid c.args s
  run c s := match s.enc (u16 c.args 0) with
    | none => s.deny stBadArgument
    | some e => (s.setEnc (u16 c.args 0) { e with packNext := some c.args }).done

/-- PACKETISER_SET. -/
def execPacketiserSet (r : Request) (s : State) : Host.Outcome State Fault Refusal := .next (packetiserSet.serve r s)

/-- A number is a power of two within bounds. -/
def powerIn (v lo hi : Nat) : Bool := (List.range (hi + 1 - lo)).any fun k => v == 2 ^ (lo + k)

/-- The addresses and size of a host ring (R282, R309). -/
def hostRingOk (p : Bytes) : Bool :=
  u64 p 8 == 0 || (u64 p 8 % 4096 == 0 && powerIn (u32 p 16) 16 30 && u64 p 24 % 8 == 0 && u64 p 32 % 8 == 0)

/-- A host ring as set (R282, R309). -/
def hostRing (p : Bytes) : HostRing :=
  { base := u64 p 8, size := u32 p 16, prodAddr := u64 p 24, consAddr := u64 p 32 }

/-- ENCODE_HOST_RING_SET (R282). -/
def encodeHostRingSet : Cmd where
  opcode := 0x0706
  shape := exactly 40 [(2, 6), (20, 4)]
  args c s := hostRingOk c.args && match s.enc (u16 c.args 0) with
    | some e => !e.closed
    | none => false
  run c s := match s.enc (u16 c.args 0) with
    | none => s.deny stBadArgument
    | some e => (s.setEnc (u16 c.args 0) { e with ring := hostRing c.args, omitting := false }).done

/-- ENCODE_HOST_RING_SET. -/
def execEncodeHostRingSet (r : Request) (s : State) : Host.Outcome State Fault Refusal :=
  .next (encodeHostRingSet.serve r s)

/-! ## Core faults and moves -/

/-- The DUs of a picture that are not yet decided leave as their floor slices (R271, R300). -/
def Enc.floorRest (e : Enc) (number : Nat) : Enc :=
  match e.pics.find? fun p => p.number == number with
  | none => e
  | some p =>
    (List.range p.dus.length).foldl (fun e r =>
      match e.pics.find? fun p => p.number == number with
      | none => e
      | some p => match p.dus[r]? with
        | none => e
        | some d =>
          if d.bits.isSome then e
          else
            let e' := e.mapPic number fun p => p.mapDu r fun d => { d with late := true }
            let q := (e'.pics.find? fun p => p.number == number).getD p
            let d' := (q.dus[r]?).getD d
            let x := (e'.decide_ { q with flags := q.flags &&& 0xFFFD } r d' [] [] (maxQp e.codec)).1
            { x with nFloorDus := x.nFloorDus + 1 }) e

/-- A hard fault of a core of a channel (R271): floor slices for what the pictures in coding still lack, and a move at
the next frame boundary. -/
def State.encCoreFault (s : State) (n : Nat) : State :=
  match s.enc n with
  | none => s
  | some e =>
    let e := (e.pics.map (·.number)).foldl Enc.floorRest e
    s.setEnc n { e with moving := true }

/-- The frame boundary at which a channel leaves a failed or fenced core (R256, R257, R271, R279): to a core or pair that
qualifies, after a hard fault with a refresh at its next picture; else it is STOPPED. -/
def State.moveEnc (s : State) (n : Nat) : State :=
  match s.enc n with
  | none => s
  | some e =>
    if e.closed || e.stopped || !(e.moving || e.cores.any fun k => !s.inService 5 k) then s
    else
      match s.placeCores n e.cost s.time.dt with
      | some cores => (s.setEnc n { e with cores, moving := false, force := e.force || e.moving }).settleCores e.tg
      | none => ((s.setEnc n { e with moving := false, stopped := true, nStops := e.nStops + 1, pics := [] }).settleCores
          e.tg).raiseAt .codingChannelStopped (srcEncode n) e.tg

/-- A stopped channel is tried again at a Dusk line of its group (R271): it restarts with a recovery point and
DISCONTINUITY. -/
def State.retryEnc (s : State) (n : Nat) : State :=
  match s.enc n with
  | none => s
  | some e =>
    if e.closed || !e.stopped then s
    else
      match s.placeCores n e.cost s.time.dt with
      | none => s
      | some cores =>
        if s.fitsNow (coreCharges n e.cost cores []) then
          (s.setEnc n { e with
            cores, stopped := false, discont := true, since := 0, fPrev := none, shorts := [], long := none
            pool := e.pool.map fun _ => 0, streams := e.streams + 1, nRestarts := e.nRestarts + 1 }).settleCores e.tg
        else s

end Sys2Proof.Machine
end

