-- ==== Sys2Proof/Machine/Decoding.lean ====
section
/-! DEFINITION. Decode channels (R304 to R325): opening, input and de-jitter, timing, errors, concealment,
substitution and the pool, the picture that each source frame carries, loss and core faults. -/

namespace Sys2Proof.Machine

/-! ## Fields of an open channel -/

def Dec.codec (d : Dec) : Nat := u8 d.cfg 3
def Dec.maxRate (d : Dec) : Nat := u8 d.cfg 10
def Dec.host (d : Dec) : Bool := u8 d.cfg 11 == 1
def Dec.locked (d : Dec) : Bool := u8 d.cfg 12 == 1
def Dec.bitRate (d : Dec) : Nat := u32 d.cfg 20
def Dec.showRecovering (d : Dec) : Bool := bit (u8 d.cfg 25) 0
/-- The output delay given at open, 0 = 50,000 µs (R305). -/
def openDelay (p : Bytes) : Nat := if u32 p 16 = 0 then 50000 else u32 p 16
/-- The pool size, 0 = 16 (R305). -/
def decPool (p : Bytes) : Nat := if u8 p 24 = 0 then 16 else u8 p 24
/-- The loss timeout, 0 = 4 (R305). -/
def lossTimeoutOf (v : Nat) : Nat := if v = 0 then 4 else v

/-- The source that a decode channel is (R154). -/
def decSource (n : Nat) : Nat := 0x4000 + n

/-- The size of the de-jitter buffer for a payload and a group's format (R306). -/
def dejitterBytes (p : Bytes) (raster rate : Nat) : Nat :=
  let f := frameFraction raster rate
  roundUp (ceilDiv ((openDelay p * f.1 + 2 * f.2 * 1000000) * u32 p 20 * 1000) (8 * 1000000 * f.1)) 4096 + 1048576

/-- The charge of a decode channel (R304). -/
def State.decCharge (s : State) (p : Bytes) : Nat := decCost (u8 p 9) (u8 p 10) (s.tg (u8 p 2)).rate

/-- Codec, profile, chroma and bit depth go together for decoding (R259). -/
def decProfileOk (p : Bytes) : Bool :=
  let d := u8 p 8
  let c := u8 p 7
  (d == 8 || d == 10) && decide (c ≤ 1) &&
  match u8 p 3, u8 p 4 with
  | 0, 0 => d == 8 && c == 0
  | 0, 1 => c == 0
  | 0, 2 => true
  | 0, 3 => true
  | 1, 0 => c == 0
  | 1, 1 => true
  | 2, 0 => u8 p 6 == 0
  | _, _ => false

/-- The highest level_idc of a codec (R259). -/
def levelMax (codec : Nat) : Nat := if codec = 0 then 186 else if codec = 1 then 102 else 52

/-- The arguments of DECODE_CHANNEL_OPEN (R305). -/
def decodeValid (p : Bytes) (s : State) : Bool :=
  let t := s.tg (u8 p 2)
  decide (u16 p 0 < 16 ∧ u8 p 2 < 8 ∧ u8 p 3 ≤ 2) && (s.dec (u16 p 0)).isNone
    && decide (0 < featureCount s.part.feature 5) && t.enabled && t.raster == u8 p 9 && formatValid (u8 p 9) (u8 p 10)
    && decProfileOk p && decide (u8 p 5 ≤ levelMax (u8 p 3) ∧ u8 p 6 ≤ 1) && Config.levelAllows (le 2 0x0703 ++ p)
    && decide (u8 p 11 ≤ 1 ∧ u8 p 12 ≤ 1 ∧ u8 p 13 ≤ 1) && zeroOr (u16 p 14) 2 1000 && zeroOr (u32 p 16) 1000 2000000
    && decide (5000 ≤ u32 p 20 ∧ u32 p 20 ≤ 2000000) && (u8 p 24 == 0 || decide (4 ≤ u8 p 24 ∧ u8 p 24 ≤ 16))
    && decide (u8 p 25 < 8)

/-- A new decode channel (R305, R317). -/
def newDec (p : Bytes) (cores : List Nat) : Dec :=
  { cfg := p, cores, delay := openDelay p, lossMode := u8 p 13, lossTimeout := lossTimeoutOf (u16 p 14)
    pool := List.replicate (decPool p) {}, nHolding := 1 }

/-- DECODE_CHANNEL_OPEN (R304 to R306, R317): the channel enters HOLDING. -/
def decodeChannelOpen : Cmd where
  opcode := 0x0703
  timed := true
  shape := exactly 48 [(26, 22)]
  args c s := decodeValid c.args s
  run c s :=
    let p := c.args
    let n := u16 p 0
    let g := u8 p 2
    let cost := s.decCharge p
    let e := (s.place .frameStart g c.req.atFrame.toNat c.req.atLine.toNat c.req.group.toNat (s.stampOf c.key g)).effect
    match s.placeCores (0x100 + n) cost (s.effectDt e) with
    | none => s.deny stNoCapacity
    | some cores =>
      let charges := ⟨106, n, 1⟩ :: coreCharges (0x100 + n) cost cores []
      let mask := (cores.map fun k => 2 ^ k).sum
      let a := s.schedule c 0x0703 .frameStart g (p ++ [BitVec.ofNat 8 mask]) charges (s.fits charges)
      if openStatus a.status then
        let f := s.groupFormat g
        { a with
          payload := le 1 mask ++ zeros 3 ++ le 4 (dejitterBytes p f.1 f.2) ++ le 1 (decPool p) ++ zeros 7
          state := (a.state.setDec n (newDec p cores)).raiseAt .decodeHolding (srcDecode n) g }
      else a

/-- DECODE_CHANNEL_OPEN. -/
def execDecodeChannelOpen (r : Request) (s : State) : Host.Outcome State Fault Refusal :=
  .next (decodeChannelOpen.serve r s)

/-- The arguments of DECODE_CHANNEL_SET (R307): only masked fields are looked at. -/
def decodeSetValid (p : Bytes) (s : State) : Bool :=
  let m := u8 p 2
  match s.dec (u16 p 0) with
  | none => false
  | some d =>
    decide (m < 8)
      && (!bit m 0 || (zeroOr (u32 p 4) 1000 2000000 && decide ((if u32 p 4 = 0 then 50000 else u32 p 4) ≤ openDelay d.cfg)))
      && (!bit m 1 || decide (u8 p 8 ≤ 1)) && (!bit m 2 || zeroOr (u16 p 10) 2 1000)

/-- DECODE_CHANNEL_SET (R307). -/
def decodeChannelSet : Cmd where
  opcode := 0x0708
  timed := true
  shape := exactly 16 [(3, 1), (9, 1), (12, 4)]
  args c s := decodeSetValid c.args s
  run c s := match s.dec (u16 c.args 0) with
    | none => s.deny stBadArgument
    | some d => s.schedule c 0x0708 .frameStart d.tg c.args [] (fun _ => true)

/-- DECODE_CHANNEL_SET. -/
def execDecodeChannelSet (r : Request) (s : State) : Host.Outcome State Fault Refusal :=
  .next (decodeChannelSet.serve r s)

/-- DECODE_CHANNEL_CLOSE (R307). -/
def decodeChannelClose : Cmd where
  opcode := 0x0709
  timed := true
  shape := exactly 8 [(2, 6)]
  args c s := (s.dec (u16 c.args 0)).isSome
  run c s := match s.dec (u16 c.args 0) with
    | none => s.deny stBadArgument
    | some d =>
      let n := u16 c.args 0
      let charges := ⟨106, n, 0⟩ :: coreCharges (0x100 + n) 0 [] d.cores
      s.schedule c 0x0709 .frameStart d.tg c.args charges (s.fits charges)

/-- DECODE_CHANNEL_CLOSE. -/
def execDecodeChannelClose (r : Request) (s : State) : Host.Outcome State Fault Refusal :=
  .next (decodeChannelClose.serve r s)

/-- DECODE_HOST_RING_SET (R309). -/
def decodeHostRingSet : Cmd where
  opcode := 0x0707
  shape := exactly 40 [(2, 6), (20, 4)]
  args c s := hostRingOk c.args && (s.dec (u16 c.args 0)).isSome
  run c s := match s.dec (u16 c.args 0) with
    | none => s.deny stBadArgument
    | some d => (s.setDec (u16 c.args 0) { d with ring := hostRing c.args }).done

/-- DECODE_HOST_RING_SET. -/
def execDecodeHostRingSet (r : Request) (s : State) : Host.Outcome State Fault Refusal :=
  .next (decodeHostRingSet.serve r s)

/-! ## Timing -/

/-- A counted value of `modulus` ticks at 90 kHz, extended to the DT nearest an arrival, in ns (R310). -/
def extendStamp (modulus v dt : Nat) : Int :=
  let d : Int := (dt : Int) * 9 / 100000
  let k := (2 * (d - v) + modulus) / (2 * modulus)
  ((v : Int) + k * modulus) * 100000 / 9

/-- The flow that feeds a decode channel (R308). -/
def State.decFlow (s : State) (n : Nat) : Option Flow :=
  (s.signals.rx.find? fun e => e.2.enabled && codedKind e.2.kind && e.2.coding == n).map (·.2)

/-- The stamp of coded data in DT (R310): RTP timestamps wrap at 2³², PTS at 2³³, record stamps are DT. -/
def State.stampDt (s : State) (n : Nat) (d : Dec) (v : Nat) : Int :=
  if d.host then v
  else
    let ts : Bool := match s.decFlow n with
      | some f => decide (7 ≤ f.kind)
      | none => false
    extendStamp (if ts then 2 ^ 33 else 2 ^ 32) v s.time.dt

/-- The source frame of a presentation time (R311). -/
def State.frameFor (s : State) (d : Dec) (p : Int) (delay : Nat) : Nat :=
  Point.frameAtDt .frameStart (s.tg d.tg) (p + delay * 1000) + 1

/-- The deadline of a source frame has passed (R311). -/
def State.deadlinePassed (s : State) (d : Dec) (f : Nat) : Bool :=
  decide ((s.tg d.tg).dtOf (f + 1) 1 ≤ s.time.dt)

/-- The FREE offset slews by at most 200 µs per second towards zero mean lateness over 64 pictures (R310). -/
def Dec.slew (d : Dec) (dt : Nat) (p : Int) : Dec :=
  let l := ((dt : Int) - p) :: d.lateness.take 63
  let mean := l.sum / l.length
  let most : Int := ((dt - d.slewed.getD dt) * 2 / 10000 : Nat)
  let move := max (-most) (min most mean)
  { d with lateness := l, slewed := some dt, offset := d.offset.map (· + move) }

/-! ## Errors -/

/-- An error class of R314 is met: counted and reported. -/
def State.decError (s : State) (n k : Nat) : State :=
  match s.dec n with
  | none => s
  | some d => (s.setDec n { d with errors := d.errors.modify (k - 1) (· + 1) }).raiseAt .decodeError (srcDecode n) d.tg k

/-- Enter HOLDING (R317, R319): every buffer is freed. -/
def State.hold (s : State) (n : Nat) : State :=
  match s.dec n with
  | none => s
  | some d =>
    let was := d.state == .holding
    let s := s.setDec n { d with
      state := .holding, pics := [], pool := d.pool.map fun _ => {}, recoverAt := none
      nHolding := d.nHolding + b2n (!was) }
    if was then s else s.raiseAt .decodeHolding (srcDecode n) d.tg

/-- The class of a stream that the channel does not take: 8 beyond the declaration, 9 of another size or scan (R314). -/
def Dec.misfit (d : Dec) (x : CodedStream) : Option Nat :=
  let p := d.cfg
  let r := rateFraction d.maxRate
  if x.codec ≠ d.codec ∨ u8 p 4 < x.profile ∨ u8 p 5 < x.level ∨ u8 p 6 < x.tier ∨ u8 p 7 < x.chroma ∨ u8 p 8 < x.depth
      ∨ d.pool.length < x.pool ∨ (x.codec = 1 ∧ x.resampled) ∨ (d.cores.length = 2 ∧ !x.split)
      ∨ 1005 * 1000 * r.1 < 1000 * x.rate * r.2 then some 8
  else if x.width ≠ activeWidth d.raster ∨ x.height ≠ activeLines d.raster ∨ x.interlaced ≠ interlaced d.raster then some 9
  else none

/-! ## The pool -/

/-- Buffers that await nothing become UNUSED: output, not referenced, and no substitute points to them (R318, R319). -/
def tidyPool (l : List Buf) : List Buf :=
  l.map fun b =>
    if b.mark = 3 ∧ b.output ∧ !(l.any fun x => x.mark == 4 && x.points == some b.poc) then {} else b

/-- A reference leaves the set (R319). -/
def Buf.leave (b : Buf) : Buf := if b.mark = 4 then {} else if b.mark = 1 ∨ b.mark = 2 then { b with mark := 3 } else b

/-- The pool under a reference set (R319): long-term marks, buffers that leave, substitutes no longer wanted. -/
def applyRefs (l : List Buf) (refs : List (Int × Bool)) : List Buf :=
  tidyPool (l.map fun b =>
    match refs.find? fun r => r.1 == b.poc with
    | some r => if r.2 && b.mark == 1 then { b with mark := 2 } else b
    | none => b.leave)

/-- Take the lowest-numbered UNUSED buffer (R319). -/
def takeBuf (l : List Buf) (x : Buf) : Option (List Buf × Nat) :=
  (l.findIdx? fun b => b.mark == 0).map fun i => (l.set i x, i)

/-- A reference is in the pool. -/
def inPool (l : List Buf) (poc : Int) : Bool := l.any fun b => (b.mark == 1 || b.mark == 2 || b.mark == 4) && b.poc == poc

/-- The picture a substitute stands for (R318): the latest correctly decoded one that precedes in output order. -/
def substitute (l : List Buf) (poc : Int) : Option Int :=
  let ok := l.filter fun b => (b.mark == 1 || b.mark == 2 || b.mark == 3) && b.damaged % 2 == 0 && b.damaged / 4 % 2 == 0
    && decide (b.poc < poc)
  match ok with
  | [] => none
  | b :: r => some (r.foldl (fun m x => max m x.poc) b.poc)

/-- Substitutes for the references that are missing (R318); none when one of them finds no picture. -/
def substituteAll (l : List Buf) (poc : Int) : List (Int × Bool) → Option (List Buf × Nat)
  | [] => some (l, 0)
  | r :: rs =>
    if inPool l r.1 then substituteAll l poc rs
    else match substitute l poc with
      | none => none
      | some q =>
        match takeBuf l { mark := 4, poc := r.1, points := some q, output := true } with
        | none => none
        | some (l', _) => (substituteAll l' poc rs).map fun x => (x.1, x.2 + 1)

/-- The record flags that the references of a picture bring: PROPAGATED, and SUBSTITUTE_USED (R315, R318). -/
def refFlags (l : List Buf) (refs : List (Int × Bool)) : Nat :=
  let used := l.filter fun b => (b.mark == 1 || b.mark == 2 || b.mark == 4) && refs.any fun r => r.1 == b.poc
  (if used.any fun b => b.mark == 4 || b.damaged != 0 then 2 else 0) + (if used.any fun b => b.mark == 4 then 4 else 0)

/-- Change a buffer. -/
def setBuf (l : List Buf) (i : Option Nat) (f : Buf → Buf) : List Buf :=
  match i with
  | none => l
  | some k => l.modify k f

/-! ## Decoding in order -/

/-- The picture that decoding takes next: the first not done, when all its data are there and it has not begun. -/
def Dec.next (d : Dec) : Option DecPic :=
  match d.pics.find? fun p => !p.done with
  | some p => if p.arrived && p.buffer.isNone then some p else none
  | none => none

/-- Change the picture that decoding works on. -/
def Dec.mapHead (d : Dec) (f : DecPic → DecPic) : Dec :=
  match d.pics.findIdx? fun p => !p.done with
  | none => d
  | some i => { d with pics := d.pics.modify i f }

/-- A picture that may be decoded while HOLDING (R317). -/
def Dec.decodable (d : Dec) (p : DecPic) : Bool :=
  p.type == 0 || (!d.irapOnly && (p.type == 1 || p.recovery.isSome || d.recoverAt.isSome))

/-- Remove the picture that decoding works on. -/
def Dec.dropHead (d : Dec) : Dec :=
  match d.pics.findIdx? fun p => !p.done with
  | none => d
  | some i => { d with pics := d.pics.eraseIdx i }

/-- Decoding of a picture begins: marks, substitutes, flags, buffer and sweep (R315, R317 to R319). -/
def State.decBegin (s : State) (n : Nat) (p : DecPic) : State :=
  match s.dec n with
  | none => s
  | some d =>
    if d.state == .holding && !d.decodable p then
      s.setDec n { d.dropHead with nDiscarded := d.nDiscarded + 1 }
    else
      let irap := p.type == 0
      let sweep := p.recovery.isSome || d.recoverAt.isSome
      let pool := applyRefs d.pool (if irap then [] else p.refs)
      let lost := if irap && p.noPrior then (pool.filter fun b => b.mark == 3 && !b.output).length else 0
      let pool := if irap && p.noPrior then pool.map fun b => if b.mark = 3 then {} else b else pool
      let gone (q : DecPic) : Bool := irap && p.noPrior && q.done
      let missing := !irap && p.refs.any fun r => !inPool pool r.1
      let sub := if irap then some (pool, 0) else substituteAll pool p.poc p.refs
      match sub with
      | none =>
        if sweep then
          match takeBuf pool { mark := 1, poc := p.poc } with
          | none => (s.decError n 8).hold n
          | some (l, i) =>
            let s := s.setDec n ({ d with
              pool := l
              recoverAt := match p.recovery with | some k => some (p.poc + k) | none => d.recoverAt
              damagedSince := if p.recovery.isSome then false else d.damagedSince }.mapHead fun q => { q with buffer := some i })
            if missing then s.decError n 6 else s
        else
          let s := s.decError n 6
          let s := match s.dec n with
            | some d => s.setDec n { d with nDiscarded := d.nDiscarded + 1 }
            | none => s
          s.hold n
      | some (pool, k) =>
        match takeBuf pool { mark := 1, poc := p.poc } with
        | none => (s.decError n 8).hold n
        | some (l, i) =>
          let flags := if irap then 0 else refFlags pool p.refs
          let d := { d with
            pool := l, pics := d.pics.filter fun q => !gone q, nDropped := d.nDropped + lost
            recoverAt := match p.recovery with | some k => some (p.poc + k) | none => d.recoverAt
            damagedSince := if p.recovery.isSome then false else d.damagedSince || decide (k ≠ 0) || missing }
          let s := s.setDec n (d.mapHead fun q => { q with
            buffer := some i, flags := q.flags ||| flags, unsent := q.unsent || (d.state == .holding && !d.showRecovering
              && q.type != 0) })
          if missing then s.decError n 6 else s

/-- Begin whatever decoding may take next; pictures that are discarded give way to the one after. -/
def State.decAdvance (s : State) (n : Nat) : Nat → State
  | 0 => s
  | k + 1 =>
    match (s.dec n).bind Dec.next with
    | none => s
    | some p =>
      let s' := s.decBegin n p
      match (s'.dec n).bind Dec.next with
      | some _ => s'.decAdvance n k
      | none => s'

/-- A picture is finished (R311, R315, R317): by decoding, or by concealment of what its deadline found missing. -/
def State.decFinish (s : State) (n : Nat) (p : DecPic) (more : Nat) (missed : Bool) : State :=
  match s.dec n with
  | none => s
  | some d =>
    let lost := p.concealed + more
    let recovered := match d.recoverAt with
      | some r => decide (r ≤ p.poc)
      | none => false
    let clean := p.type == 0 || (recovered && !d.damagedSince && lost == 0)
    let base := (if clean && p.type != 0 then p.flags &&& 0xFFFD else p.flags)
    let flags := base ||| (if lost = 0 then 0 else 1) ||| (if missed then 8 else 0)
      ||| (if p.type == 0 || recovered then 64 else 0)
    let left := d.state == .holding && (p.type == 0 || recovered)
    let pool := if clean && p.type != 0 then d.pool.map fun b => { b with damaged := 0 } else d.pool
    let pool := setBuf pool p.buffer fun b => { b with damaged := flags % 8, output := b.output || p.unsent || missed }
    let d := d.mapHead fun q => { q with done := true, flags, concealed := lost, unsent := q.unsent || missed }
    let s := s.setDec n { d with
      pool := tidyPool pool, fill := d.fill - p.bytes, nDecoded := d.nDecoded + 1
      nConcealedCtus := d.nConcealedCtus + lost, nConcealed := d.nConcealed + flags % 2
      nPropagated := d.nPropagated + flags / 2 % 2, nSubstitute := d.nSubstitute + flags / 4 % 2
      recoverAt := if recovered then none else d.recoverAt
      damagedSince := d.damagedSince || decide (lost ≠ 0)
      irapOnly := d.irapOnly && p.type != 0, held := if left then 0 else d.held
      state := if left then .decoding else d.state }
    let s := if left then s.raiseAt .decodeRecovered (srcDecode n) d.tg else s
    s.decAdvance n d.pics.length

/-! ## Data -/

/-- The picture whose data are arriving. -/
def Dec.incoming (d : Dec) : Option DecPic :=
  match d.pics.getLast? with
  | some p => if p.arrived then none else some p
  | none => none

/-- Change the last picture. -/
def Dec.mapLast (d : Dec) (f : DecPic → DecPic) : Dec := { d with pics := d.pics.modify (d.pics.length - 1) f }

/-- Data are discarded as LATE_DATA (R313, R314). -/
def State.lateData (s : State) (n bytes : Nat) : State :=
  match s.dec n with
  | none => s
  | some d => (s.setDec n { d with nLateBytes := d.nLateBytes + bytes }).decError n 2

/-- A discontinuity of the stream (R310): host-ring flag, TS indicator or a new SSRC. -/
def Dec.discontinuity (d : Dec) (x : CodedData) : Bool :=
  x.discont || (!d.host && (match d.ssrc with | some v => v != x.ssrc | none => false))

/-- All the data of the last picture are there: its time and source frame, and its decoding (R310 to R312). -/
def State.decArrived (s : State) (n : Nat) : State :=
  match s.dec n with
  | none => s
  | some d =>
    match d.incoming with
    | none => s
    | some p =>
      let fresh := !d.locked && d.offset.isNone
      let d := if fresh then { d with offset := some ((s.time.dt : Int) - p.stamp), lateness := [], slewed := some s.time.dt }
        else d
      let time := p.stamp + (if d.locked then 0 else d.offset.getD 0)
      let f := s.frameFor d time d.delay
      let far := d.locked && decide ((s.time.dt : Int) + d.delay * 1000 + 2000000000 < (s.tg d.tg).dtOf f 1)
      let old := match d.lastFrame with
        | some l => decide (f ≤ l)
        | none => false
      if far || old then
        let s := s.setDec n { d with
          pics := d.pics.dropLast, fill := d.fill - p.bytes, nDropped := d.nDropped + b2n old
          offset := if d.locked then d.offset else none }
        s.decError n 10
      else if s.deadlinePassed d f then
        (s.setDec n { d with pics := d.pics.dropLast, fill := d.fill - p.bytes }).lateData n p.bytes
      else
        let d := d.mapLast fun q => { q with arrived := true, stamp := time, frame := f }
        let d := if d.locked then d else d.slew s.time.dt time
        (s.setDec n d).decAdvance n d.pics.length

/-- Coded data arrive (R308 to R310, R313, R314). -/
def State.decTake (s : State) (n : Nat) (x : CodedData) : State :=
  match s.dec n with
  | none => s
  | some d =>
    let f := s.groupFormat d.tg
    let d := { d with nBytes := d.nBytes + x.bytes }
    let disc := d.discontinuity x
    let d := if disc && x.first then { d with offset := none } else d
    let d := { d with ssrc := some x.ssrc }
    let s := s.setDec n d
    let s := x.errors.foldl (fun s k => s.decError n k) s
    let s := if disc && d.host then s.decError n 1 else s
    let s := if x.gap then s.decError n 5 else s
    match s.dec n with
    | none => s
    | some d =>
      if dejitterBytes d.cfg f.1 f.2 < d.fill + x.bytes then
        let d := d.mapLast fun q => if q.arrived then q else { q with concealed := q.concealed + x.damaged }
        (s.setDec n d).lateData n x.bytes
      else if !x.first && d.incoming.isNone then s.lateData n x.bytes
      else
        match (if x.first then d.misfit x.stream else none) with
        | some k =>
          let s := s.decError n k
          let s := match s.dec n with
            | some d => s.setDec n { d with irapOnly := true, nDiscarded := d.nDiscarded + b2n (d.state == DecState.holding) }
            | none => s
          s.hold n
        | none =>
          let bits := x.errors.foldl (fun m k => m ||| 2 ^ (k - 1)) (if x.gap then 16 else 0)
          let p : DecPic :=
            { poc := x.poc, type := x.type, stamp := s.stampDt n d x.stamp, frame := 0, arrived := false, done := false
              flags := 0, errors := 0, concealed := 0, bytes := 0, refs := x.refs, recovery := x.recovery
              noPrior := x.noPrior }
          let d := if x.first then { d with pics := (d.pics.filter fun q => q.arrived) ++ [p] } else d
          let d := d.mapLast fun q => { q with
            bytes := q.bytes + x.bytes, concealed := q.concealed + x.damaged, errors := q.errors ||| bits, anc := q.anc ++ x.anc }
          let fill := d.fill + x.bytes
          let s := s.setDec n { d with fill, most := max d.most fill }
          if x.last then s.decArrived n else s

/-- Coded data of a channel arrive: from the flow bound to it, or from a record of its host ring, which the device then
counts as taken (R308, R309, R313). -/
def decodeDataArrival (n : Nat) (x : CodedData) (s : State) : State :=
  match s.dec n with
  | none => s
  | some d =>
    if d.state == .stopped then s
    else if d.host then
      let size := roundUp (32 + x.bytes) 64
      if d.ring.base = 0 ∨ d.ring.prod < d.ring.cons + size then s
      else (s.setDec n { d with ring := { d.ring with cons := d.ring.cons + size } }).decTake n x
    else if (s.decFlow n).isSome then s.decTake n x
    else s

/-- DECODE_DATA_ARRIVAL. -/
def execDecodeDataArrival (n : Nat) (x : CodedData) (s : State) : Host.Outcome State Fault Refusal :=
  .next (decodeDataArrival n x s)

/-- The reorder window of a single-leg coded flow ends (R308): the missing numbers are lost, a packet loss of its
channel. -/
def reorderWindowExpiry (n : Nat) (s : State) : State :=
  let f := s.rx n
  match f.held, f.next with
  | p :: _, some m =>
    if f.enabled && codedKind f.kind && f.legCount == 1 && decide (m < p.seq) then
      let s := s.setRx n { f with next := some p.seq, lost := f.lost + (p.seq - m) }
      (s.releaseHeld n f.held.length).decError f.coding 1
    else s
  | _, _ => s

/-- REORDER_WINDOW_EXPIRY. -/
def execReorderWindowExpiry (n : Nat) (s : State) : Host.Outcome State Fault Refusal := .next (reorderWindowExpiry n s)

/-- The device reads the producer index of a host ring (R309). -/
def decodeHostRingPoll (n producer : Nat) (s : State) : State :=
  match s.dec n with
  | none => s
  | some d =>
    if d.host && d.ring.base != 0 then s.setDec n { d with ring := { d.ring with prod := producer } } else s

/-- DECODE_HOST_RING_POLL. -/
def execDecodeHostRingPoll (n producer : Nat) (s : State) : Host.Outcome State Fault Refusal :=
  .next (decodeHostRingPoll n producer s)

/-- The picture in decoding is finished (R311). -/
def decodePictureDone (n : Nat) (s : State) : State :=
  match s.dec n with
  | none => s
  | some d =>
    match d.pics.find? fun p => !p.done with
    | none => s
    | some p => if p.buffer.isSome then s.decFinish n p 0 false else s

/-- DECODE_PICTURE_DONE. -/
def execDecodePictureDone (n : Nat) (s : State) : Host.Outcome State Fault Refusal := .next (decodePictureDone n s)

/-- The deadline rule for the first picture not done (R316): all CTUs not yet decoded are concealed, and it is never
sent. -/
def State.decMiss (s : State) (n ctus : Nat) (p : DecPic) : State :=
  let s := s.decError n 7
  match s.dec n with
  | none => s
  | some d =>
    let s := s.setDec n { d with nMissed := d.nMissed + 1 }
    let s := match p.buffer with
      | some _ => s
      | none => match s.dec n with
        | none => s
        | some d => (s.setDec n (d.mapHead fun q => { q with arrived := true })).decBegin n p
    match (s.dec n).bind fun d => d.pics.find? fun q => !q.done with
    | some q => if q.poc = p.poc then s.decFinish n { q with errors := q.errors ||| 64 } ctus true else s
    | none => s

/-- A picture is not complete at its deadline (R316). -/
def decodeDeadline (n ctus : Nat) (s : State) : State :=
  match s.dec n with
  | none => s
  | some d =>
    match d.pics.find? fun p => !p.done with
    | none => s
    | some p => if p.arrived && s.deadlinePassed d p.frame then s.decMiss n ctus p else s

/-- DECODE_DEADLINE. -/
def execDecodeDeadline (n ctus : Nat) (s : State) : Host.Outcome State Fault Refusal := .next (decodeDeadline n ctus s)

/-! ## Source frames -/

/-- The last of a list of pictures in output order. -/
def lastOut : List DecPic → Option DecPic
  | [] => none
  | p :: r =>
    let later (m q : DecPic) : DecPic := if m.stamp ≤ q.stamp then q else m
    some (r.foldl later p)

/-- A decoded-picture record (R325). -/
def decRecord (frame tg type flags : Nat) (p : Option DecPic) : Bytes :=
  le 6 frame ++ le 1 tg ++ le 1 type ++ le 2 flags ++ le 2 ((p.map (·.errors)).getD 0)
    ++ le 2 ((p.map (·.concealed)).getD 0) ++ zeros 2 ++ le 4 (ofSigned 32 ((p.map (·.poc)).getD 0))
    ++ le 4 ((p.map (·.bytes)).getD 0) ++ le 8 ((p.map DecPic.stamp).getD 0).toNat

/-- The pictures whose deadline is this frame start are missed, oldest first (R312, R316); `ctus` is how many CTUs of a
missed picture were not yet decoded. -/
def State.decMisses (s : State) (n f ctus : Nat) : Nat → State
  | 0 => s
  | k + 1 =>
    match (s.dec n).bind fun d => d.pics.find? fun p => !p.done with
    | some p => if p.arrived ∧ p.frame ≤ f then (s.decMiss n ctus p).decMisses n f ctus k else s
    | none => s

/-- What a decoder source carries in source frame F, sent in the frame that starts (R311, R312, R316, R317, R321). -/
def State.decFrame (s : State) (n ctus : Nat) : State :=
  match s.dec n with
  | none => s
  | some d0 =>
    let f := (s.tg d0.tg).pos.frame - 1
    let s := s.decMisses n f ctus d0.pics.length
    match s.dec n with
    | none => s
    | some d =>
      if !d.begun then s
      else
        let due := d.pics.filter fun p => p.done && decide (p.frame = f)
        let sends := d.state == .decoding || (d.state == .holding && d.showRecovering)
        let cand := due.filter fun p => !p.unsent
        let pick := if sends then lastOut cand else none
        let dropped := if sends then cand.length - 1 else 0
        let missed := due.any fun p => bit p.flags 3
        let loss := s.inLoss (decSource n) && pick.isNone
        let outPool := d.pool.map fun b => if due.any fun p => p.buffer.isSome && p.poc == b.poc then { b with output := true }
          else b
        let flags := ((pick.map fun p => p.flags % 8 + p.flags / 64 % 2 * 64).getD 0) + (if missed then 8 else 0)
          + (if dropped = 0 then 0 else 16) + (if loss then 32 else 0) + (if d.delayChanged then 128 else 0)
        let type := match pick with
          | some p => p.type
          | none => if d.state == .decoding && !loss then 5 else 6
        let rec_ := decRecord f d.tg type flags pick
        let s := s.setDec n { d with
          pics := d.pics.filter fun p => !(p.done && decide (p.frame ≤ f)), pool := tidyPool outPool
          lastFrame := if pick.isSome then some f else d.lastFrame
          shown := match pick with
            | some p => some p.poc
            | none => d.shown
          black := pick.isNone && (d.shown.isNone || (loss && d.lossMode == 1))
          stale := if pick.isSome then 0 else d.stale + 1
          held := if d.state == .decoding then 0 else d.held + 1
          delayChanged := false, records := (rec_ :: d.records).take 1024, nSent := d.nSent + 1
          anc := (pick.map (·.anc)).getD []
          nRepeat := d.nRepeat + b2n (pick.isNone && d.state == .decoding), nDropped := d.nDropped + dropped
          nLoss := d.nLoss + b2n loss }
        if pick.isSome then s.leaveLoss (decSource n) else s

/-- The reason for which a decoder source is in LOSS (R321), when one holds. -/
def Dec.lossReason (d : Dec) : Option Nat :=
  if d.lossTimeout ≤ d.held ∧ d.state = .holding then some 8
  else if d.lossTimeout ≤ d.held ∧ d.state = .stopped then some 9
  else if d.lossTimeout ≤ d.stale then some 10
  else none

/-- A decoder source reaches its loss timeout (R321). -/
def decodeLossTimeout (n : Nat) (s : State) : State :=
  match s.dec n with
  | none => s
  | some d =>
    match d.lossReason with
    | none => s
    | some r => if d.begun && !s.inLoss (decSource n) then s.enterLoss (decSource n) r 0 else s

/-- DECODE_LOSS_TIMEOUT. -/
def execDecodeLossTimeout (n : Nat) (s : State) : Host.Outcome State Fault Refusal := .next (decodeLossTimeout n s)

/-! ## Commands taking effect -/

/-- The masked settings of a channel take effect at source frame F (R307, R324). -/
def State.decSet (s : State) (p : Bytes) (f : Nat) : State :=
  match s.dec (u16 p 0) with
  | none => s
  | some d =>
    let m := u8 p 2
    let d := if bit m 1 then { d with lossMode := u8 p 8 } else d
    let d := if bit m 2 then { d with lossTimeout := lossTimeoutOf (u16 p 10) } else d
    if bit m 0 then
      let delay := if u32 p 4 = 0 then 50000 else u32 p 4
      let move (q : DecPic) : DecPic :=
        let g := s.frameFor d q.stamp delay
        if q.arrived && decide (f ≤ g) then { q with frame := g } else q
      s.setDec (u16 p 0) { d with delay, delayChanged := true, pics := d.pics.map move }
    else s.setDec (u16 p 0) d

/-- A decode command takes effect (R305, R307). -/
def applyDecode (e : Sched) (s : State) : State :=
  let n := u16 e.args 0
  if e.opcode = 0x0703 then
    match s.dec n with
    | none => s
    | some d => (s.setDec n { d with begun := true }).settleCores d.tg
  else if e.opcode = 0x0708 then s.decSet e.args (e.effect.frame - 1)
  else
    match s.dec n with
    | none => s
    | some d =>
      let s := { s with coding := { s.coding with decs := tabDrop s.coding.decs n }
                        signals := { s.signals with inputs := tabDrop s.signals.inputs (decSource n) } }
      (s.settleCores d.tg).refreshSyncs.tellTallies

/-- Whether an opcode is that of a scheduled decode command. -/
def decodeOpcode (o : Nat) : Bool := o == 0x0703 || o == 0x0708 || o == 0x0709

/-- At a frame start of a group the decode commands of that position take effect in JSN order (R48, R49). -/
def State.takeDecoders (s : State) (g : Nat) : State :=
  let f := (s.tg g).pos.frame
  let es := s.ccp.schedule.filter fun e => decodeOpcode e.opcode && e.effect.tg == g && e.effect.frame == f && !e.begun
  es.foldl (fun s e => (applyDecode e s).mapSched e.jsn fun x => { x with begun := true }) s

/-! ## Core faults and moves -/

/-- A hard fault of a core of a channel (R320): the picture in decoding is absent. -/
def State.decCoreFault (s : State) (n : Nat) : State :=
  match s.dec n with
  | none => s
  | some d =>
    let s := s.setDec n { d with moving := true }
    match d.pics.find? fun p => !p.done with
    | some p =>
      if p.buffer.isSome then
        let d' := { d.dropHead with moving := true, pool := setBuf d.pool p.buffer fun _ => {}, fill := d.fill - p.bytes }
        (s.setDec n d').decError n 5
      else s
    | none => s

/-- The frame boundary at which a channel leaves a failed or fenced core (R320, R324): it keeps its pool and its
buffer; with no core it is STOPPED. -/
def State.moveDec (s : State) (n : Nat) : State :=
  match s.dec n with
  | none => s
  | some d =>
    if d.state == .stopped || !(d.moving || d.cores.any fun k => !s.inService 5 k) then s
    else
      match s.placeCores (0x100 + n) (s.decCharge d.cfg) s.time.dt with
      | some cores =>
        let s := (s.setDec n { d with cores, moving := false }).settleCores d.tg
        s.decAdvance n d.pics.length
      | none =>
        ((s.setDec n { d with state := .stopped, moving := false, pics := [], held := 0, nStops := d.nStops + 1 }).settleCores
          d.tg).raiseAt .codingChannelStopped (srcDecode n) d.tg

/-- A stopped channel is tried again at a Dusk line of its group (R320): a restart enters HOLDING. -/
def State.retryDec (s : State) (n : Nat) : State :=
  match s.dec n with
  | none => s
  | some d =>
    if d.state != .stopped then s
    else
      let cost := s.decCharge d.cfg
      match s.placeCores (0x100 + n) cost s.time.dt with
      | none => s
      | some cores =>
        if s.fitsNow (coreCharges (0x100 + n) cost cores []) then
          ((s.setDec n { d with cores, nRestarts := d.nRestarts + 1, fill := 0, offset := none }).hold n).settleCores d.tg
        else s

/-! ## CHANNEL_STATISTICS, CORE_STATUS -/

/-- The cores of a channel as a mask. -/
def coreMask (l : List Nat) : Nat := (l.map fun k => 2 ^ k).sum

/-- What CHANNEL_STATISTICS gives of an encode channel (R277, R284). -/
def encValues (s : State) (n : Nat) (e : Enc) : List Int :=
  [(n : Int), b2n e.stopped, coreMask e.cores, e.effort, effectiveEffort e.effort s.health.steps,
    e.time.ns (delays e.time e.latency).1, cpbBits e.time e.latency e.rate, e.nCoded, e.nRecovery, e.nRepeat, e.nFloored,
    e.nHeaderLate, e.nFloorDus, e.nStops, e.nRestarts, e.nDus, e.nBytes, e.nOverrun]

/-- What CHANNEL_STATISTICS gives of a decode channel (R325). -/
def decValues (s : State) (n : Nat) (d : Dec) : List Int :=
  [(n : Int), (match d.state with | .decoding => 0 | .holding => 1 | .stopped => 2), b2n (s.inLoss (decSource n)),
    (s.input (decSource n)).loss, coreMask d.cores, b2n d.locked, d.offset.getD 0, d.fill, d.least, d.most, d.nDecoded, d.nSent,
    d.nRepeat, d.nDropped, d.nMissed] ++ d.errors.map Int.ofNat ++
  [(d.nConcealedCtus : Int), d.nConcealed, d.nPropagated, d.nSubstitute, d.nHolding, d.nDiscarded, d.nLoss, d.nStops,
    d.nRestarts, d.nBytes, d.nLateBytes]

/-- The records of the channels, k of each (R302, R325), and the rows of the last 4 pictures when asked. -/
def State.channelRecords (s : State) (k : Nat) (rows : Bool) : Bytes :=
  (s.coding.encs.flatMap fun e => (e.2.records.take k).flatten ++ (if rows then (e.2.rows.map List.flatten).flatten else []))
    ++ s.coding.decs.flatMap fun e => (e.2.records.take k).flatten

/-- CHANNEL_STATISTICS (R284, R302, R325): 32 records inline, up to 1,024 and the row records by DMA. -/
def channelStatistics : Cmd where
  opcode := 0x0780
  dma := .optional
  run c s :=
    let vs := (s.coding.encs.flatMap fun e => encValues s e.1 e.2) ++ s.coding.decs.flatMap fun e => decValues s e.1 e.2
    if c.dma then { s.done (Config.layout 0x0780 vs) with out := s.channelRecords 1024 true }
    else s.done (Config.layout 0x0780 (vs ++ (s.channelRecords 32 false).map fun b => (b.toNat : Int)))

/-- CHANNEL_STATISTICS. -/
def execChannelStatistics (r : Request) (s : State) : Host.Outcome State Fault Refusal :=
  .next (channelStatistics.serve r s)

/-- What CORE_STATUS gives of a core: mode, channels, charge, gang partner (R255). -/
def coreValues (s : State) (k : Nat) : List Int :=
  let items := (s.baseCharges (10 + k)).filter fun e => e.2 != 0
  let gang := (s.coding.encs.any fun e => e.2.cores.length == 2 && e.2.cores.contains k)
    || s.coding.decs.any fun e => e.2.cores.length == 2 && e.2.cores.contains k
  [(k : Int), ((tabGet s.coding.modes k 0 : Nat) : Int)] ++ items.map (fun e => (e.1 : Int))
    ++ [((items.map (·.2)).sum : Int), if gang then (if k % 2 = 0 then (k + 1 : Int) else (k - 1 : Int)) else 0xFF]

/-- CORE_STATUS (R255). -/
def coreStatus : Cmd where
  opcode := 0x0781
  run _ s := s.done (Config.layout 0x0781 (((List.range 8).filter fun k => s.present 5 k).flatMap (coreValues s)))

/-- CORE_STATUS. -/
def execCoreStatus (r : Request) (s : State) : Host.Outcome State Fault Refusal := .next (coreStatus.serve r s)

end Sys2Proof.Machine
end

