-- ==== Sys2Proof/Machine/Fabric.lean ====
section
/-! DEFINITION. The control fabric (R542 to R545): the fault log, forced lock releases and the hardware write log. -/

namespace Sys2Proof.Machine

/-- Change the registers of the control fabric. -/
def State.mapRegs (s : State) (f : Registers → Registers) : State := { s with regs := f s.regs }

/-- Signal a vector of PF0 (R93). -/
def State.vector (s : State) (k : Nat) : State :=
  { s with events := { s.events with msix := msixSignal s.events.msix k } }

/-- A new entry of the fault log (R544): the oldest of 16 is overwritten; vector 20 of PF0, one message for entries within
1 µs of one another. -/
def State.logFault (s : State) (addr master cause : Nat) (write : Bool) : State :=
  let f (r : Registers) : Registers :=
    { r with
      faults := ({ addr := addr % 2 ^ 40, master, cause, write, seq := (r.faultCount + 1) % 2 ^ 14 } : FaultEntry)
        :: r.faults.take 15
      faultCount := (r.faultCount + 1) % 2 ^ 64
      decodeErrors := (r.decodeErrors + b2n (cause == 1)) % 2 ^ 64 }
  let shared := match s.regs.faultSent with
    | some t => decide (s.time.dt ≤ t + 1000)
    | none => false
  let s := s.mapRegs f
  if shared then s
  else (s.vector 20).mapRegs fun r => { r with faultSent := some s.time.dt }

/-- What a read returns to its master (the model's own field; log entry 39). -/
def State.returns (s : State) (b : Bytes) : State := s.mapRegs fun r => { r with lastRead := b }

/-- An access that no target decodes (R544): zero on a read, a dropped write, and a fault entry with cause DECODE. -/
def decodeErrorAccess (master addr n : Nat) (write : Bool) (s : State) : State :=
  let s := s.logFault addr master 1 write
  if write then s else s.returns (zeros n)

/-- DECODE_ERROR_ACCESS. -/
def execDecodeErrorAccess (master addr n : Nat) (write : Bool) (s : State) : Host.Outcome State Fault Refusal :=
  .next (decodeErrorAccess master addr n write s)

/-- A locked sequence of a CPC core or of debug has held its target for 64 cycles (R545). -/
def lockForcedRelease (master addr : Nat) (write : Bool) (s : State) : State :=
  if master ≤ 3 ∨ master = 8 then
    (s.logFault addr master 2 write).mapRegs fun r => { r with lockReleases := (r.lockReleases + 1) % 2 ^ 64 }
  else s

/-- LOCK_FORCED_RELEASE. -/
def execLockForcedRelease (master addr : Nat) (write : Bool) (s : State) : Host.Outcome State Fault Refusal :=
  .next (lockForcedRelease master addr write s)

/-- Firmware journals the records of the hardware write log (R542), in the order of the writes. -/
def State.drainWrites (s : State) : State :=
  if !s.fwRunning || s.journal.swapping then s
  else
    let l := s.regs.writeLog
    let s := s.mapRegs fun r => { r with writeLog := [] }
    l.foldl (fun s w => s.logDevice 9 (le 1 w.view ++ zeros 3 ++ le 4 w.offset ++ le 8 w.value) w.standing) s

end Sys2Proof.Machine
end

