-- ==== Sys2Proof/Machine/Fencing.lean ====
section
/-! DEFINITION. Fencing and testing of units (R526 to R532): what a fence does to the work of each class (R530, R202,
R240, R271, R320, R469, R470), moves to spare units (R527), tests (R528), policies (R532), and the hard faults that
fence by themselves. -/

namespace Sys2Proof.Machine

/-! ## Spare units -/

/-- The logical pipes bound to a physical one. -/
def State.pipesOn (s : State) (u : Nat) : List Nat := (List.range 32).filter fun n => s.pipeUnit n == u

/-- The logical canvases bound to a physical one. -/
def State.canvasesOn (s : State) (u : Nat) : List Nat := (List.range 16).filter fun n => s.canvasUnit n == u

/-- A unit carries work (R526, R527). -/
def State.unitWork (s : State) (c i : Nat) : Bool :=
  match c with
  | 1 => s.laneWork i
  | 2 => (List.range 4).any fun k => s.laneWork (4 * i + k)
  | 3 => (List.range 36).any fun k => s.laneWork (36 * i + k)
  | 4 => true
  | 5 => !(s.coreItems i).isEmpty
  | 6 => (s.pipesOn i).any fun n => (s.pipe (s.gangHead n)).enabled
  | 7 => (s.canvasesOn i).any fun n => (s.canvas n).enabled
  | 8 => s.fwRunning
  | _ => false

/-- A unit is free (R527): present, not fenced, held by no test, without work. -/
def State.unitFree (s : State) (c i : Nat) : Bool := s.inService c i && !s.underTest c i && !s.unitWork c i

/-- The aligned set of free pipes to which a gang of `k` may move (R205, R527). -/
def State.freePipes (s : State) (k : Nat) : Option Nat :=
  (List.range 32).find? fun b => b % k == 0 && (List.range k).all fun i => s.unitFree 6 (b + i)

/-- The free canvas to which a canvas may move (R240, R527). -/
def State.freeCanvas (s : State) : Option Nat := (List.range 16).find? fun b => s.unitFree 7 b

/-- A move of a gang of pipes rebinds its logical numbers (R527). -/
def State.movePipes (s : State) (n k b : Nat) : State :=
  { s with health := { s.health with
      pipeBind := (List.range k).foldl (fun t i => tabPut t (n + i) (b + i)) s.health.pipeBind } }

/-- A move of a canvas (R527). -/
def State.moveCanvas (s : State) (n b : Nat) : State :=
  { s with health := { s.health with canvasBind := tabPut s.health.canvasBind n b } }

/-! ## The work of a fenced unit -/

/-- The work of a fenced pipe moves, or its output is in LOSS with reason UNIT (R205, R530, R575). -/
def State.fencePipe (s : State) (u : Nat) : State :=
  (s.pipesOn u).foldl (fun s m =>
    let n := s.gangHead m
    let x := s.pipe n
    if !x.enabled then s
    else match s.freePipes x.gang with
      | some b => s.movePipes n x.gang b
      | none => s.enterLoss (0x2000 + n) 11 0) s

/-- The work of a fenced canvas moves, or its outputs send house black (R240, R530). -/
def State.fenceCanvas (s : State) (u : Nat) : State :=
  (s.canvasesOn u).foldl (fun s n =>
    if !(s.canvas n).enabled then s
    else match s.freeCanvas with
      | some b => s.moveCanvas n b
      | none => s.enterLoss (0x3000 + n) 11 0) s

/-- The MOTION conversions that borrow a core move to one that qualifies, or fall back (R202, R530). -/
def State.leaveCore (s : State) (k : Nat) : State :=
  (s.conversion.pipes.map (·.1)).foldl (fun s n =>
    let x := s.pipe n
    if x.core ≠ some k then s
    else
      match (s.placeCores (0x200 + n) (formatCost x.maxRaster x.maxRate) s.time.dt).bind (·.head?) with
      | some c => (s.setPipe n { x with core := some c }).settleCores x.tg
      | none => ((s.setPipe n { x with core := none }).pipeFallBack n 2).settleCores x.tg) s

/-- The channels of a core, by number. -/
def State.encsOn (s : State) (k : Nat) : List Nat := (s.coding.encs.filter fun e => e.2.cores.contains k).map (·.1)
def State.decsOn (s : State) (k : Nat) : List Nat := (s.coding.decs.filter fun e => e.2.cores.contains k).map (·.1)

/-- A fenced core (R271, R320, R530): after a hard fault its pictures end in floor slices or are absent; its channels
move at their next frame boundary. -/
def State.fenceCore (s : State) (k : Nat) (hard : Bool) : State :=
  let s := if hard then (s.decsOn k).foldl State.decCoreFault ((s.encsOn k).foldl State.encCoreFault s) else s
  s.leaveCore k

/-- The firmware restarts as after a failed swap (R116, R530). -/
def State.restartFirmware (s : State) : State :=
  (s.logDevice 0x0004 []).raise .fwSwapFailed srcDevice

/-- The HBM objects are lost and re-created in the map of the stacks that remain (R469, R470): the journal ring restarts
its chain, encoders refresh, decoders hold, surfaces lose their contents, and those past the end are freed. -/
def State.rebuildHbm (s : State) : State :=
  let s := s.dropHbm.cutScans 2
  let lostPipe (_ : Nat) (p : Pipe) : Pipe := { p with stored := [], out := .black }
  let lostSync (_ : Nat) (y : Sync) : Sync := { y with slots := [], pos := none, lastGood := none, out := .black }
  let fresh (_ : Nat) (e : Enc) : Enc := { e with force := true }
  let s := { s with
    memory := { s.memory with rebuilding := true, blackGroups := List.range 8 }
    journal := { s.journal with newChain := true, pages := [], open_ := [] }
    conversion := { s.conversion with pipes := tabMap lostPipe s.conversion.pipes }
    signals := { s.signals with syncs := tabMap lostSync s.signals.syncs }
    coding := { s.coding with encs := tabMap fresh s.coding.encs } }
  let s := (s.coding.decs.map (·.1)).foldl State.hold s
  s.pictures.surfaces.foldl (fun s e =>
    let s := if s.hbmEnd < e.2.addr + e.2.size then
        { s with pictures := { s.pictures with surfaces := tabDrop s.pictures.surfaces e.1 } }
      else s.setSurface e.1 { e.2 with ready := false }
    s.raise .surfaceLost (srcSurface e.1) e.1) s

/-- A stack leaves the address map (R468, R469). -/
def State.fenceStack (s : State) (h : Nat) : State :=
  let s := (s.setStack h { (s.stack h) with mapped := false, rest := {}, banks := [] }).raise .hbmStackFenced (srcHbm h)
  let s := s.rebuildHbm
  if s.mapStacks.isEmpty then { s with boot := { s.boot with stage := 0x12 } } else s

/-- The lanes of a lane, quad or sector. -/
def unitLanes (c i : Nat) : List Nat :=
  match c with
  | 1 => [i]
  | 2 => (List.range 4).map fun k => 4 * i + k
  | 3 => (List.range 36).map fun k => 36 * i + k
  | _ => []

/-- The Nightlight passes of lanes that are fenced end, with their adoption (R423). -/
def State.endPasses (s : State) (ns : List Nat) : State :=
  { s with boot := { s.boot with passes := s.boot.passes.filter fun p =>
      !(ns.contains p.record.dest || ns.contains (if p.onBackup then p.record.backup else p.record.primary)) } }

/-- What a fence does to the work of its unit (R530). -/
def State.fenceWork (s : State) (c i : Nat) (hard : Bool) : State :=
  match c with
  | 1 => (s.endPasses [i]).restartLanes [i]
  | 2 => (s.endPasses (unitLanes 2 i)).restartLanes (unitLanes 2 i)
  | 3 => (s.endPasses (unitLanes 3 i)).restartLanes (unitLanes 3 i)
  | 4 => s.fenceStack i
  | 5 => s.fenceCore i hard
  | 6 => s.fencePipe i
  | 7 => s.fenceCanvas i
  | _ => s

/-- The last unit of a class that may never be fenced: the last CPC core and the last stack (R529). -/
def State.lastOne (s : State) (c i : Nat) : Bool :=
  (c == 4 || c == 8) && (List.range (unitCount c)).all fun k => k == i || !s.inService c k

/-- A unit is fenced with a cause (R528 to R530): the record, FENCE_APPLIED, DEVICE_DIMMED with the count, and what
becomes of the work. A fence by hard fault or policy writes its DEVICE entry (R97); one by policy is standing. -/
def State.applyFence (s : State) (c i cause detail : Nat) : State :=
  if s.health.fencedSelf c i then s
  else
    let s := { s with health := { s.health with fences := s.health.fences ++ [(⟨c, i, cause⟩ : Fence)] } }
    let s := s.raise .fenceApplied ⟨c, i⟩ cause
    let s := s.raise .deviceDimmed srcDevice s.fencedCount
    let s := if cause ≤ 1 then
        s.logAction 0x0005 (le 1 c ++ le 1 cause ++ le 2 i ++ le 4 detail) (cause == 1)
      else s
    s.fenceWork c i (cause == 0)

/-- A unit returns to service (R528, R529, R531): its stored configuration takes effect. -/
def State.releaseFence (s : State) (c i detail : Nat) : State :=
  let s := { s with health := { s.health with fences := s.health.fences.filter fun f => !(f.cls == c && f.idx == i) } }
  let s := s.raise .fenceReleased ⟨c, i⟩ detail
  let s := if s.fencedCount = 0 then s.raise .deviceRestored srcDevice else s
  match c with
  | 6 => (s.pipesOn i).foldl (fun s n => s.leaveLoss (0x2000 + n)) s
  | 7 => (s.canvasesOn i).foldl (fun s n => s.leaveLoss (0x3000 + n)) s
  | _ => s.restartLanes (unitLanes c i)

/-! ## Tests -/

/-- The test of a unit (R526). -/
def State.testOf (s : State) (c i : Nat) : Option UnitTest := s.health.tests.find? fun t => t.cls == c && t.idx == i

/-- Drop the test of a unit. -/
def State.dropTest (s : State) (c i : Nat) : State :=
  { s with health := { s.health with tests := s.health.tests.filter fun t => !(t.cls == c && t.idx == i) } }

/-- The job of a command. -/
def State.jobOf (s : State) (jsn : Nat) : Option Job := s.ccp.jobs.find? fun j => j.jsn == jsn

/-- The response of UNIT_TEST (R526). -/
def testResult (pass : Bool) (failing : Nat) : Bytes := le 1 (if pass then 0 else 1) ++ zeros 3 ++ le 4 failing

/-- Finish the command of a test. -/
def State.finishTest (s : State) (t : UnitTest) (status : Nat) (payload : Bytes) : State :=
  match s.jobOf t.jsn with
  | some j => s.complete j status payload false
  | none => s

/-- A test ends (R526, R528, R531). An AUTO_FENCE test that passes returns its unit; one that fails leaves it fenced as
on a hard fault. The test of a UNIT_UNFENCE that passes sets the position at which the unit returns. -/
def State.endTest (s : State) (t : UnitTest) (pass : Bool) (failing : Nat) : State :=
  let c := t.cls
  let i := t.idx
  let s := s.dropTest c i
  if t.auto then
    if pass then
      let s := s.logAction 0x0006 (le 1 c ++ le 1 1 ++ le 2 i ++ zeros 4)
      (s.releaseFence c i 1).finishTest t stOk (testResult true 0)
    else
      let fail (f : Fence) : Fence := if f.cls = c ∧ f.idx = i then { f with cause := 0 } else f
      let s := { s with health := { s.health with fences := s.health.fences.map fail } }
      let s := s.logAction 0x0005 (le 1 c ++ le 1 3 ++ le 2 i ++ le 4 t.code)
      let s := s.raise .unitTestFailed ⟨c, i⟩ (t.code + failing % 2 ^ 24 * 256)
      s.finishTest t stOk (testResult false failing)
  else match s.jobOf t.jsn with
    | none => s
    | some j =>
      if j.opcode = 0x0B02 then
        if pass then
          let p := s.place .frameStart (u8 j.args 17) (u48 j.args 8) (u16 j.args 14) (u8 j.args 16)
            (s.tg (u8 j.args 17)).pos
          let t := { t with running := false, due := some (p.effect.tg, p.effect.frame, p.effect.line) }
          { s with health := { s.health with tests := s.health.tests ++ [t] } }
        else s.complete j stUnitFenced [] false
      else s.complete j stOk (testResult pass failing) false

/-- Retreat ends the AUTO_FENCE tests that run (R535): FAIL as the result code, the unit not fenced, no event of a
failed test. -/
def State.cutTests (s : State) : State :=
  s.health.tests.foldl (fun s t =>
    if t.auto && t.running then ((s.dropTest t.cls t.idx).releaseFence t.cls t.idx 1).finishTest t stOk (testResult false 0)
    else s) s

/-- A hard fault of a unit (R528 to R530): a test of it ends with FAIL; the last CPC core restarts the firmware instead of
being fenced. -/
def State.hardFault (s : State) (c i : Nat) : State :=
  if !(decide (1 ≤ c ∧ c ≤ 8) && s.present c i) then s
  else
    let s := match s.testOf c i with
      | some t => if t.running then s.endTest t false 0 else s.dropTest c i
      | none => s
    if c = 8 ∧ s.lastOne 8 i then s.restartFirmware
    else s.applyFence c i 0 0

/-- HARD_FAULT_FENCE (R530). -/
def execHardFaultFence (c i : Nat) (s : State) : Host.Outcome State Fault Refusal := .next (s.hardFault c i)

/-- HBM_STACK_FENCED: a hard fault of a stack (R468). -/
def execHbmStackFenced (h : Nat) (s : State) : Host.Outcome State Fault Refusal := .next (s.hardFault 4 h)

/-- The re-creation of the HBM objects is complete (R469). -/
def execHbmRebuildComplete (s : State) : Host.Outcome State Fault Refusal :=
  .next { s with memory := { s.memory with rebuilding := false } }

/-! ## Policies -/

/-- The policy of a condition. -/
def State.policy (s : State) (k : Nat) : Policy := tabGet s.health.policies k {}

/-- The class of the unit that a condition fences (R532). -/
def policyClass (k : Nat) : Nat := if k = 3 then 4 else if k = 4 then 5 else 1

/-- A condition's count of a unit within its window reaches the threshold: the unit is fenced with cause 1 (R532). -/
def State.policyCheck (s : State) (k u : Nat) : State :=
  let p := s.policy k
  let w := p.window * 1000000000
  let n := (s.health.hits.filter fun h => h.1 == k && h.2.1 == u && decide (s.time.dt ≤ h.2.2 + w)).length
  if p.threshold ≠ 0 ∧ p.threshold ≤ n ∧ !s.lastOne (policyClass k) u then s.applyFence (policyClass k) u 1 k else s

/-- Occurrences of a condition on a unit (R532); those older than the longest window are forgotten. -/
def State.policyHit (s : State) (k u count : Nat) : State :=
  let keep := s.health.hits.filter fun h => decide (s.time.dt ≤ h.2.2 + 86400 * 1000000000)
  ({ s with health := { s.health with hits := keep ++ List.replicate count (k, u, s.time.dt) } } : State).policyCheck k u

/-- FENCE_POLICY_SET (R532). -/
def fencePolicySet : Cmd where
  opcode := 0x0B06
  shape := exactly 16 [(1, 3), (12, 4)]
  args c _ := decide (1 ≤ u8 c.args 0 ∧ u8 c.args 0 ≤ 4 ∧ 1 ≤ u32 c.args 8 ∧ u32 c.args 8 ≤ 86400)
  run c s :=
    let k := u8 c.args 0
    let s := { s with health := { s.health with
      policies := tabPut s.health.policies k { threshold := u32 c.args 4, window := u32 c.args 8 } } }
    let us := ((s.health.hits.filter fun h => h.1 == k).map fun h => h.2.1).eraseDups
    (us.foldl (fun s u => s.policyCheck k u) s).done [] true

/-- FENCE_POLICY_SET. -/
def execFencePolicySet (r : Request) (s : State) : Host.Outcome State Fault Refusal := .next (fencePolicySet.serve r s)

/-! ## Core faults, lanes that fail, PLLs that fail -/

/-- The floor-slice DUs that the encode channels have sent. -/
def State.floorDus (s : State) : Nat := (s.coding.encs.map fun e => e.2.nFloorDus).sum

/-- A hard fault of a core (R271, R320); its floor-slice DUs count for the policy (R532). -/
def State.coreFault (s : State) (k : Nat) : State :=
  let t := s.hardFault 5 k
  t.policyHit 4 k (t.floorDus - s.floorDus)

/-- CODING_CORE_FAULT. -/
def execCodingCoreFault (core : Nat) (s : State) : Host.Outcome State Fault Refusal := .next (s.coreFault core)

/-- DECODER_CORE_FAULT. -/
def execDecoderCoreFault (core : Nat) (s : State) : Host.Outcome State Fault Refusal := .next (s.coreFault core)

/-- TRAINING_ATTEMPT_TIMEOUT (R385): an eighth failure is a LANE_FAILED entry for the policy (R532). -/
def execTrainingAttemptTimeout (n phase : Nat) (skews : List Nat) (s : State) : Host.Outcome State Fault Refusal :=
  let t := attemptTimeout n phase skews s
  .next (if (s.lane n).state = .training ∧ (t.lane n).state = .failed then t.policyHit 1 n 1 else t)

/-- An Eclipse has not locked after three lock periods (R515): what the PLL feeds is a hard fault. -/
def pllFailed (p : Nat) (s : State) : State :=
  let x := s.pll p
  if x.state ≠ 4 then s
  else
    let s := (s.setPll p { x with state := 6, faileds := x.faileds + 1 }).raise .pllFailed (srcPll p)
    if 2 ≤ p ∧ p ≤ 37 then s.hardFault 2 (p - 2) else s

/-- PLL_FAILED. -/
def execPllFailed (p : Nat) (s : State) : Host.Outcome State Fault Refusal := .next (pllFailed p s)

/-! ## UNIT_FENCE, UNIT_UNFENCE -/

/-- The timing group of a unit (R529): that of the pipe or canvas bound to it, else TG0. -/
def State.unitTg (s : State) (c i : Nat) : Nat :=
  match c with
  | 6 => (((s.pipesOn i).head?).map fun n => (s.pipe (s.gangHead n)).tg).getD 0
  | 7 => (((s.canvasesOn i).head?).map fun n => (s.canvas n).tg).getD 0
  | _ => 0

/-- The arguments of UNIT_FENCE and UNIT_UNFENCE name a present unit (R5, R529). -/
def unitNamed (p : Bytes) (s : State) : Bool :=
  decide (1 ≤ u8 p 0 ∧ u8 p 0 ≤ 8) && s.present (u8 p 0) (u16 p 2)

/-- UNIT_FENCE (R468, R529): at the frame start after its Dusk line; of a stack, at the end of the Dusk line. -/
def unitFence : Cmd where
  opcode := 0x0B01
  timed := true
  shape := exactly 8 [(1, 1), (4, 4)]
  args c s := unitNamed c.args s && !s.lastOne (u8 c.args 0) (u16 c.args 2)
  run c s :=
    let k := u8 c.args 0
    let i := u16 c.args 2
    if s.fenced k i then s.deny stUnitFenced
    else s.schedule c 0x0B01 (if k = 4 then .dusk else .frameStart) (s.unitTg k i) c.args [] (fun _ => true)

/-- UNIT_FENCE. -/
def execUnitFence (r : Request) (s : State) : Host.Outcome State Fault Refusal := .next (unitFence.serve r s)

/-- The intrusive test of a class (R526). -/
def testCode (c : Nat) : Nat :=
  match c with
  | 5 => 2
  | 6 => 3
  | 7 => 4
  | 8 => 5
  | 4 => 6
  | _ => 1

/-- UNIT_UNFENCE (R468, R531): the unit's test first, but for a stack, which returns at the next start. A unit without a
fence of its own is left as it is. -/
def unitUnfence : Cmd where
  opcode := 0x0B02
  timed := true
  shape := exactly 8 [(1, 1), (4, 4)]
  args c s := unitNamed c.args s
  run c s :=
    let k := u8 c.args 0
    let i := u16 c.args 2
    if !s.health.fencedSelf k i then s.done
    else if k = 4 then
      ({ s with health := { s.health with unfencing := i :: s.health.unfencing.filter (· != i) } } : State).done [] true
    else if (s.testOf k i).isSome then s.deny stUnitBusy
    else
      let t : UnitTest := { cls := k, idx := i, code := testCode k, jsn := c.jsn, auto := false, running := true, due := none }
      let s := { s with health := { s.health with tests := s.health.tests ++ [t] } }
      s.pend c 0x0B02 (c.args ++ le 6 c.req.atFrame.toNat ++ le 2 c.req.atLine.toNat ++ le 1 c.req.group.toNat
        ++ le 1 (s.unitTg k i))

/-- UNIT_UNFENCE. -/
def execUnitUnfence (r : Request) (s : State) : Host.Outcome State Fault Refusal := .next (unitUnfence.serve r s)

/-- A commanded fence takes effect: a scheduled UNIT_FENCE, or the return of the unit of a UNIT_UNFENCE whose test has
passed (R529, R531). -/
def commandedFenceEffect (jsn : Nat) (s : State) : State :=
  match s.ccp.schedule.find? fun e => e.jsn == jsn && e.opcode == 0x0B01 with
  | some e => (s.applyFence (u8 e.args 0) (u16 e.args 2) 2 0).effected e 1 true
  | none =>
    match s.health.tests.find? fun t => t.jsn == jsn && t.due.isSome with
    | none => s
    | some t =>
      let s := (s.dropTest t.cls t.idx).releaseFence t.cls t.idx 0
      match s.jobOf jsn with
      | some j => s.complete j stOk [] true (t.due.map fun d => ⟨d.1, d.2.1, d.2.2⟩)
      | none => s

/-- COMMANDED_FENCE_EFFECT. -/
def execCommandedFenceEffect (jsn : Nat) (s : State) : Host.Outcome State Fault Refusal :=
  .next (commandedFenceEffect jsn s)

/-! ## UNIT_TEST -/

/-- Every channel and conversion of a core finds another that qualifies (R526). -/
def State.coreSpare (s : State) (k : Nat) : Bool :=
  let s0 := { s with health := { s.health with fences := s.health.fences ++ [(⟨5, k, 3⟩ : Fence)] } }
  let enc := (s.encsOn k).foldl (fun (a : State × Bool) n => match a.1.enc n with
    | none => a
    | some e => match a.1.placeCores n e.cost s.time.dt with
      | some cs => (a.1.setEnc n { e with cores := cs }, a.2)
      | none => (a.1, false)) (s0, true)
  let dec := (s.decsOn k).foldl (fun (a : State × Bool) n => match a.1.dec n with
    | none => a
    | some d => match a.1.placeCores (0x100 + n) (s.decCharge d.cfg) s.time.dt with
      | some cs => (a.1.setDec n { d with cores := cs }, a.2)
      | none => (a.1, false)) enc
  let pipes := (s.conversion.pipes.filter fun e => e.2.core == some k).map (·.1)
  let out := pipes.foldl (fun (a : State × Bool) n =>
    let x := a.1.pipe n
    match (a.1.placeCores (0x200 + n) (formatCost x.maxRaster x.maxRate) s.time.dt).bind (·.head?) with
      | some c => (a.1.setPipe n { x with core := some c }, a.2)
      | none => (a.1, false)) dec
  out.2

/-- A spare for the work of a unit exists (R526). -/
def State.hasSpare (s : State) (c i : Nat) : Bool :=
  match c with
  | 5 => s.coreSpare i
  | 6 => (s.pipesOn i).all fun m =>
      let n := s.gangHead m
      !(s.pipe n).enabled || (s.freePipes (s.pipe n).gang).isSome
  | 7 => s.freeCanvas.isSome
  | 8 => !s.lastOne 8 i
  | _ => false

/-- UNIT_TEST (R526, R528). -/
def unitTest : Cmd where
  opcode := 0x0B03
  shape := exactly 8 [(1, 1), (5, 3)]
  args c s := unitNamed c.args s && u8 c.args 4 == testCode (u8 c.args 0) && !(u8 c.args 0 == 2 || u8 c.args 0 == 3)
  run c s :=
    let k := u8 c.args 0
    let i := u16 c.args 2
    let auto := flagAutoFence c.flags
    let t : UnitTest := { cls := k, idx := i, code := u8 c.args 4, jsn := c.jsn, auto := false, running := true, due := none }
    let start (s : State) (t : UnitTest) : Answer :=
      ({ s with health := { s.health with tests := s.health.tests ++ [t] } } : State).pend c 0x0B03 c.args
    if s.fenced k i then s.deny stUnitFenced
    else if k = 4 then s.deny (if auto then stNoCapacity else stUnitBusy)
    else if (s.testOf k i).isSome then s.deny stUnitBusy
    else if !s.unitWork k i then
      let a := start s t
      if k = 1 then { a with state := a.state.restartLanes [i] } else a
    else if !auto then s.deny stUnitBusy
    else if !s.hasSpare k i then s.deny stNoCapacity
    else start s { t with auto := true, running := false }

/-- UNIT_TEST. -/
def execUnitTest (r : Request) (s : State) : Host.Outcome State Fault Refusal := .next (unitTest.serve r s)

/-- The work of a unit under an AUTO_FENCE test moves, at its boundary, to the spare (R527, R528): the unit is fenced with
cause 3 and the test runs. -/
def autoFenceMove (c i : Nat) (s : State) : State :=
  match s.testOf c i with
  | none => s
  | some t =>
    if !t.auto || t.running then s
    else
      let s := s.applyFence c i 3 0
      let s := if c = 5 then (s.decsOn i).foldl State.moveDec ((s.encsOn i).foldl State.moveEnc s) else s
      let run (x : UnitTest) : UnitTest := if x.cls = c ∧ x.idx = i then { x with running := true } else x
      { s with health := { s.health with tests := s.health.tests.map run } }

/-- AUTO_FENCE_MOVE. -/
def execAutoFenceMove (c i : Nat) (s : State) : Host.Outcome State Fault Refusal := .next (autoFenceMove c i s)

/-- UNIT_TEST_COMPLETE (R526, R528). -/
def unitTestComplete (c i : Nat) (pass : Bool) (failing : Nat) (s : State) : State :=
  match s.testOf c i with
  | none => s
  | some t => if t.running then s.endTest t pass failing else s

/-- UNIT_TEST_COMPLETE. -/
def execUnitTestComplete (c i : Nat) (pass : Bool) (failing : Nat) (s : State) : Host.Outcome State Fault Refusal :=
  .next (unitTestComplete c i pass failing s)

end Sys2Proof.Machine
end

