-- ==== Sys2Proof/Machine/TdmPorts.lean ====
section
/-! DEFINITION. TDM ports, MCLK outputs and audio host rings (R352 to R368): their commands, clock faults and rate
measurement. -/

namespace Sys2Proof.Machine

/-- The rate of a port rate code in Hz (R354). -/
def portHz (c : Nat) : Nat := [32000, 44100, 48000, 88200, 96000, 176400, 192000].getD c 0

/-- The arguments of TDM_PORT_CONFIGURE (R354, R355). -/
def tdmValid (p : Bytes) (s : State) : Bool :=
  let sw := u8 p 3 * u8 p 4
  let fast (c : Nat) : Bool := decide (sw * portHz c ≤ 49152000)
  decide (u8 p 0 < 16 ∧ u8 p 1 ≤ 1 ∧ u8 p 2 ≤ 1 ∧ 1 ≤ u8 p 3 ∧ u8 p 3 ≤ 32)
    && (u8 p 4 == 16 || u8 p 4 == 24 || u8 p 4 == 32) && (u8 p 5 == 16 || u8 p 5 == 20 || u8 p 5 == 24)
    && decide (u8 p 5 ≤ u8 p 4 ∧ u8 p 6 ≤ 31 ∧ u8 p 6 < sw ∧ u8 p 7 ≤ 1 ∧ u8 p 8 < 8 ∧ u8 p 9 ≤ 6 ∧ u8 p 10 < 128)
    && (u8 p 7 == 0 || sw % 2 == 0) && fast (u8 p 9) && ((List.range 7).all fun c => !bit (u8 p 10) c || fast c)
    && (u8 p 2 == 0 || (u8 p 9 == (if s.audio.rate = 1 then 4 else 2) && u8 p 10 == 0
      && (if s.audio.rate = 1 then 1536 else 3072) % sw == 0))

/-- TDM_PORT_CONFIGURE (R354): at the next block boundary; only enable may change on an enabled port. -/
def tdmPortConfigure : Cmd where
  opcode := 0x0803
  shape := exactly 16 [(11, 5)]
  args c s := tdmValid c.args s
  run c s :=
    let p := c.args
    let n := u8 p 0
    let t := s.tdm n
    let cur := t.next.getD t.cfg
    let same := cur.take 1 ++ (cur.drop 2) == p.take 1 ++ (p.drop 2)
    if u8 cur 1 == 1 && !same then s.deny stUnitBusy
    else if u8 p 1 == 1 && !s.fitsNow [⟨110, 0x7000 + n, u8 p 3⟩] then s.deny stNoCapacity
    else (s.setTdm n { t with next := some p }).done [] true

/-- TDM_PORT_CONFIGURE. -/
def execTdmPortConfigure (r : Request) (s : State) : Host.Outcome State Fault Refusal :=
  .next (tdmPortConfigure.serve r s)

/-- The arguments of AUDIO_HOST_RING_SET (R365). -/
def audioRingValid (p : Bytes) : Bool :=
  decide (u8 p 0 < 16 ∧ u8 p 1 ≤ 1 ∧ 1 ≤ u8 p 2 ∧ u8 p 2 ≤ 64 ∧ u8 p 3 ≤ 1)
    && (u64 p 8 == 0 || (u64 p 8 % 4096 == 0 && ((List.range 15).any fun k => u32 p 16 == 2 ^ (16 + k))
      && u64 p 24 % 8 == 0 && u64 p 32 % 8 == 0))

/-- AUDIO_HOST_RING_SET (R365): at the next block boundary. -/
def audioHostRingSet : Cmd where
  opcode := 0x0804
  shape := exactly 48 [(4, 4), (20, 4), (40, 8)]
  args c _ := audioRingValid c.args
  run c s :=
    let p := c.args
    let n := u8 p 0
    let k := n + 16 * u8 p 1
    if u8 p 1 == 1 && u64 p 8 != 0 && !s.fitsNow [⟨110, 0x8000 + n, u8 p 2⟩] then s.deny stNoCapacity
    else (s.setAudioRing k { (s.audioRing k) with next := some p }).done [] true

/-- AUDIO_HOST_RING_SET. -/
def execAudioHostRingSet (r : Request) (s : State) : Host.Outcome State Fault Refusal :=
  .next (audioHostRingSet.serve r s)

/-! ## MCLK -/

/-- The VCO periods of a period of an MCLK multiple (R357, R358). -/
def mclkRatio (rate multiple : Nat) : Nat := 24576 / (128 * 2 ^ (multiple - 1) * (rate + 1))

/-- AUDIO_MCLK_SET (R358): off at once; a new multiple after 1 µs low. -/
def audioMclkSet : Cmd where
  opcode := 0x0809
  shape := exactly 8 [(2, 6)]
  args c _ := decide (u8 c.args 0 < 8 ∧ u8 c.args 1 ≤ 3)
  run c s :=
    let o := u8 c.args 0
    let m := u8 c.args 1
    let x : Mclk := tabGet s.audio.mclk o {}
    let y : Mclk := if m = 0 then { multiple := 0, next := none } else if m = x.multiple then x else { multiple := 0, next := some m }
    ({ s with audio := { s.audio with mclk := tabPut s.audio.mclk o y } } : State).done [] true

/-- AUDIO_MCLK_SET. -/
def execAudioMclkSet (r : Request) (s : State) : Host.Outcome State Fault Refusal := .next (audioMclkSet.serve r s)

/-- An MCLK output restarts on a whole period at its new multiple (R358). -/
def mclkRestart (o : Nat) (s : State) : State :=
  let x : Mclk := tabGet s.audio.mclk o {}
  match x.next with
  | none => s
  | some m =>
    { s with
      audio := { s.audio with mclk := tabPut s.audio.mclk o { multiple := m, next := none } }
      clocks := { s.clocks with amclk := tabPut s.clocks.amclk o (mclkRatio s.audio.rate m) } }

/-- MCLK_RESTART. -/
def execMclkRestart (o : Nat) (s : State) : Host.Outcome State Fault Refusal := .next (mclkRestart o s)

/-! ## Slave ports -/

/-- A port that follows a clock from outside. -/
def Tdm.slave (t : Tdm) : Bool := t.enabled && !t.master

/-- A measured rate is within ±12.5 % of a rate (R361). -/
def rateNear (hz nominal : Nat) : Bool := decide (7 * nominal ≤ 8 * hz ∧ 8 * hz ≤ 9 * nominal)

/-- The ratio of a measured rate in ppm. -/
def ratePpm (hz nominal : Nat) : Int := if nominal = 0 then 0 else ((hz : Int) - nominal) * 1000000 / nominal

/-- A port unmutes with its fade (R363); a pair that is NON_AUDIO unmutes with none. -/
def Tdm.unmute (t : Tdm) : Tdm := { t with state := .running, good := 0, measuring := false, fading := true, told := 0 }

/-- The rate of a muted port has been measured over its good frames (R361): it runs, or it re-measures. -/
def State.rateTest (s : State) (n hz : Nat) : State :=
  let t := { (s.tdm n) with measured := hz }
  if rateNear hz (portHz t.nominal) then s.setTdm n t.unmute
  else
    (s.setTdm n { t with state := .mutedRate, good := 0, measuring := true, fading := false }).raise .rateOutOfRange
      (srcAudio (0x7000 + n))

/-- A port mutes (R363): changes that wait on its output are made at once. -/
def State.mutePort (s : State) (n : Nat) (t : Tdm) : State :=
  let s := s.setTdm n { t with fading := false }
  let d := 0x7000 + n
  (((s.audio.changes.filter fun c => c.dest == d).map (·.chan)).eraseDups).foldl (fun s ch => s.takeChanges d ch fun _ => true) s

/-- A frame of a slave port is received (R360, R361, R364): `fault` is 0 for a good frame, 1 for an FSYNC out of place,
2 for a short BCLK phase; `hz` is the rate over the good frames so far. -/
def tdmFrameReceived (n fault hz : Nat) (s : State) : State :=
  let t := s.tdm n
  if !t.slave then s
  else if fault = 0 then
    match t.state with
    | .mutedClock =>
      let t := { t with good := t.good + 1, mutedFrames := t.mutedFrames + 1 }
      let s := s.setTdm n t
      if t.good = 32 then s.rateTest n hz else s
    | .mutedFrame =>
      let t := { t with good := t.good + 1, mutedFrames := t.mutedFrames + 1 }
      if t.good = 2 then s.setTdm n (if t.measuring then { t with state := .mutedRate, good := 0 } else t.unmute)
      else s.setTdm n t
    | .mutedRate => s.setTdm n { t with mutedFrames := t.mutedFrames + 1 }
    | _ => s
  else
    let t := { t with frameErrors := t.frameErrors + 1, good := 0 }
    let t := match t.state with
      | .running => { t with state := .mutedFrame }
      | .mutedRate => { t with state := .mutedFrame, measuring := true, mutedFrames := t.mutedFrames + 1 }
      | _ => { t with mutedFrames := t.mutedFrames + 1 }
    glint (3 + n) (fault == 1) ((s.mutePort n t).raise .frameError (srcAudio (0x7000 + n)))

/-- TDM_FRAME_RECEIVED. -/
def execTdmFrameReceived (n fault hz : Nat) (s : State) : Host.Outcome State Fault Refusal :=
  .next (if s.halted then s else tdmFrameReceived n fault hz s)

/-- The clock of a slave port stops (R361, R364): it abandons a measurement. -/
def clockLost (n : Nat) (s : State) : State :=
  let t := s.tdm n
  if !t.slave then s
  else
    (s.mutePort n { t with state := .mutedClock, good := 0, measuring := false, losses := t.losses + 1 }).raise .clockLost
      (srcAudio (0x7000 + n))

/-- CLOCK_LOST. -/
def execClockLost (n : Nat) (s : State) : Host.Outcome State Fault Refusal := .next (clockLost n s)

/-- A window of 1,024 frames of a running port ends (R360, R361). -/
def tdmRateWindow (n hz : Nat) (s : State) : State :=
  let t := s.tdm n
  if !t.slave || t.state != .running then s
  else if rateNear hz (portHz t.nominal) then
    let e := 0x7000 + n
    (s.setTdm n { t with measured := hz }).setAudioSource e { (s.audioSource e) with ratio := ratePpm hz (portHz t.nominal) }
  else
    (s.mutePort n { t with state := .mutedRate, measured := hz, good := 0, measuring := true }).raise .rateOutOfRange
      (srcAudio (0x7000 + n))

/-- TDM_RATE_WINDOW. -/
def execTdmRateWindow (n hz : Nat) (s : State) : Host.Outcome State Fault Refusal := .next (tdmRateWindow n hz s)

/-- The allowed rate codes of a port (R354). -/
def Tdm.allowed (t : Tdm) : List Nat :=
  if u8 t.cfg 10 = 0 then [u8 t.cfg 9] else (List.range 7).filter fun c => bit (u8 t.cfg 10) c

/-- The allowed code nearest a measured rate (R362): the one whose ratio to it is closest to 1. -/
def Tdm.codeFor (t : Tdm) (hz : Nat) : Option Nat :=
  let off (c : Nat) : Nat × Nat := (max hz (portHz c), min hz (portHz c))
  (t.allowed.filter fun c => rateNear hz (portHz c)).foldl (fun (m : Option Nat) c => match m with
    | none => some c
    | some b => if (off c).1 * (off b).2 < (off b).1 * (off c).2 then some c else some b) none

/-- Re-measurement over 1,024 samples completes (R362, R364). -/
def rateChanged (n hz : Nat) (s : State) : State :=
  let t := s.tdm n
  if !t.slave || t.state != .mutedRate then s
  else
    let e := 0x7000 + n
    let sys := if s.audio.rate = 1 then 4 else 2
    match t.codeFor hz with
    | some c =>
      let exact := c != sys && (s.audioSource e).exact != 0
      let t' := { (t.unmute) with nominal := c, measured := hz, exactMuted := exact, rateChanges := t.rateChanges + 1, txAsrc := [] }
      let s := (s.setTdm n t').raise .rateChanged (srcAudio e) (hz + (if exact then 2 ^ 31 else 0))
      if c = t.nominal then s
      else
        let x := s.audioSource e
        let y := { x with asrc := if x.asrcMode = 1 then x.asrc else [], ratio := ratePpm hz (portHz c) }
        ((s.setAudioSource e y).setSync e (x.sync && c == sys)).allocateAsrc e
    | none =>
      let s := s.setTdm n { t with measured := hz, told := hz + 1, rateChanges := t.rateChanges + b2n (t.told != hz + 1) }
      if t.told = hz + 1 then s else s.raise .rateChanged (srcAudio e) hz

/-- RATE_CHANGED. -/
def execRateChanged (n hz : Nat) (s : State) : Host.Outcome State Fault Refusal := .next (rateChanged n hz s)

/-- The fade of 64 samples ends (R363). -/
def execTdmFadeInComplete (n : Nat) (s : State) : Host.Outcome State Fault Refusal :=
  .next (if (s.tdm n).fading then s.setTdm n { (s.tdm n) with fading := false } else s)

/-! ## TDM_PORT_STATUS -/

/-- The code of a port state (R368). -/
def TdmState.code : TdmState → Nat
  | .disabled => 0
  | .running => 1
  | .mutedClock => 2
  | .mutedFrame => 3
  | .mutedRate => 4

/-- What TDM_PORT_STATUS gives of a port (R368). -/
def tdmValues (s : State) (n : Nat) : List Int :=
  let t := s.tdm n
  [(t.state.code : Int), t.nominal, t.measured, ratePpm t.measured (portHz t.nominal),
    (s.audioSource (0x7000 + n)).asrc.length + t.txAsrc.length, t.losses, t.frameErrors, t.rateChanges, t.mutedFrames]

/-- What TDM_PORT_STATUS gives of a ring (R368). -/
def ringValues (s : State) (k : Nat) : List Int :=
  let x := s.audioRing k
  [((b2n x.enabled : Nat) : Int), x.late, x.mismatched, x.late + x.mismatched, x.overrun]

/-- TDM_PORT_STATUS (R368). -/
def tdmPortStatus : Cmd where
  opcode := 0x0881
  run _ s := s.done (Config.layout 0x0881 ((List.range 16).flatMap (tdmValues s) ++ (List.range 32).flatMap (ringValues s)))

/-- TDM_PORT_STATUS. -/
def execTdmPortStatus (r : Request) (s : State) : Host.Outcome State Fault Refusal := .next (tdmPortStatus.serve r s)

end Sys2Proof.Machine
end

