-- ==== Sys2Proof/Machine/Snapshot.lean ====
section
/-! DEFINITION. The sections of a state snapshot and their digests (R108 to R110). A section holds the payloads of the
commands that would set its objects to their present state, by command in the order of the opcodes and then by object
identifier (log entry 45). -/

namespace Sys2Proof.Machine

/-- A configuration held as its command's payload; of an object that no command has set, the identifier and zeros. -/
def rawRecord (n : Nat) (head cfg : Bytes) : Bytes := if cfg.isEmpty then padTo n head else padTo n cfg

/-! ## Section 0x0001 -/

/-- A candidate as REFERENCE_SET has it (R41). -/
def Cand.record (c : Cand) : Bytes := le 1 c.kind ++ le 1 c.transport ++ le 2 c.port ++ le 2 c.vlan ++ le 1 c.raster ++ le 1 c.rate

/-- The reference as REFERENCE_SET has it (R41). -/
def Time.record (t : Time) : Bytes :=
  le 1 t.cands.length ++ le 1 t.polarity ++ le 2 t.revertHold ++ le 1 t.ptpDomain ++ zeros 3
    ++ padTo 24 (t.cands.flatMap Cand.record) ++ zeros 16

/-- A timing group as TIMING_GROUP_SET has it (R37). -/
def Tg.record (t : Tg) (g : Nat) : Bytes :=
  le 1 g ++ le 1 (b2n t.enabled) ++ le 1 t.raster ++ le 1 t.rate ++ le 4 (ofSigned 32 t.phaseOffset) ++ le 1 t.dusk
    ++ le 1 (b2n t.jump) ++ zeros 6

/-- The outputs of a synthesiser as SYNTH_CONFIGURE has them (R508 to R511): every field of its mask that the output has. -/
def Pll.record (x : Pll) (i : Nat) : Bytes :=
  if i ≤ 7 then le 1 i ++ le 1 1 ++ le 1 15 ++ le 1 (b2n x.rclkOn) ++ le 4 x.seed ++ le 1 x.rclkDiv ++ zeros 3 ++ le 4 x.delay2
  else le 1 i ++ le 1 2 ++ le 1 5 ++ zeros 1 ++ le 4 x.seed ++ zeros 4 ++ le 4 x.delay2
    ++ (le 1 i ++ le 1 3 ++ le 1 5 ++ zeros 1 ++ le 4 x.seed ++ zeros 4 ++ le 4 x.delay3)

/-- Section 0x0001. -/
def State.section1 (s : State) : Bytes :=
  s.time.record ++ (List.range 8).flatMap (fun g => (s.tg g).record g)
    ++ (List.range 12).flatMap fun i => (s.pll (38 + i)).record i

/-! ## Section 0x0002 -/

/-- A quad as QUAD_ALLOCATE has it (R370). -/
def Quad.record (q : Quad) (n : Nat) : Bytes := le 1 n ++ le 1 q.protocol ++ le 1 q.mode ++ le 1 q.fec ++ le 4 q.vco

/-- A lane as LANE_CONFIGURE has it (R373). -/
def Lane.record (l : Lane) (n : Nat) : Bytes :=
  le 2 n ++ le 1 (b2n l.rxEn) ++ le 1 (b2n l.txEn) ++ le 1 l.rxIface ++ le 1 l.txIface ++ le 1 (b2n l.rxFixed)
    ++ le 1 l.rxRaster ++ le 1 l.rxRate ++ le 1 l.eqMode ++ l.rxLinks.flatMap (le 2) ++ l.txLinks.flatMap (le 2)
    ++ le 1 l.ctleSet ++ le 1 l.flags ++ le 1 (ofSigned 8 l.pre) ++ le 1 (ofSigned 8 l.post) ++ le 1 l.swing ++ zeros 5

/-- Section 0x0002: quads, lanes, receive flows, transmit flows; stream-key handles are not standing (R106). -/
def State.section2 (s : State) : Bytes :=
  (List.range 36).flatMap (fun q => (s.quad q).record q) ++ (List.range 144).flatMap (fun n => (s.lane n).record n)
    ++ (List.range 512).flatMap (fun n => rawRecord 152 (le 2 n) (if (s.rx n).cfg.isEmpty then [] else (s.rx n).standing.cfg))
    ++ (List.range 512).flatMap fun n =>
      rawRecord 152 (le 2 n ++ le 1 1) (if (s.tx n).cfg.isEmpty then [] else (s.tx n).standing.cfg)

/-! ## Section 0x0003 -/

/-- Identifiers of a class. -/
def classIds (c n : Nat) : List Nat := (List.range n).map (c * 4096 + ·)

/-- The destinations whose settings are standing (R106, R154). -/
def standingDests : List Nat :=
  classIds 0 144 ++ classIds 1 512 ++ classIds 2 32 ++ classIds 3 64 ++ classIds 5 2 ++ classIds 6 256

/-- A route as ROUTE_SET has it (R171). -/
def Dest.routeRecord (x : Dest) (d : Nat) : Bytes :=
  le 2 d ++ le 2 x.source ++ le 1 (b2n x.lane) ++ le 1 (b2n x.noFollow) ++ zeros 2

/-- The settings as DESTINATION_CONFIGURE has them (R158). -/
def Dest.record (x : Dest) (d : Nat) : Bytes :=
  le 2 d ++ le 1 (if cls d ≤ 1 then x.tg else 0xFF) ++ le 1 (b2n x.passLoss) ++ le 4 x.fine ++ le 1 x.tally ++ zeros 3

/-- A synchroniser's settings as SYNC_CONFIGURE has them (R147). -/
def SyncSet.record (x : SyncSet) (k : Nat) : Bytes :=
  le 2 (k / 8) ++ le 1 (k % 8) ++ le 1 x.loss ++ le 4 (ofSigned 32 x.offset) ++ le 2 x.guard ++ le 2 x.freeze ++ zeros 4

/-- A generator as TEST_GENERATOR_SET has it (R157). -/
def Generator.record (x : Generator) (n : Nat) : Bytes :=
  le 1 n ++ le 1 (b2n x.enabled) ++ le 1 x.tg ++ le 1 x.raster ++ le 1 x.rate ++ le 1 x.pattern ++ x.colour.flatMap (le 2) ++ zeros 4

/-- Section 0x0003: routes, locks, settings, synchronisers that differ from the default, generators. -/
def State.section3 (s : State) : Bytes :=
  standingDests.flatMap (fun d => (s.dest d).routeRecord d)
    ++ standingDests.flatMap (fun d => le 2 d ++ le 1 (b2n (s.dest d).locked) ++ zeros 5)
    ++ (s.signals.settings.filter fun e => e.2 != {}).flatMap (fun e => e.2.record e.1)
    ++ (standingDests.filter fun d => cls d != 6).flatMap (fun d => (s.dest d).record d)
    ++ (List.range 8).flatMap fun n => (s.gen n).record n

/-! ## Sections 0x0004 to 0x0006 -/

/-- Section 0x0004. -/
def State.section4 (s : State) : Bytes := (s.routing.rules.filter fun e => standingDest e.1).flatMap fun e => padTo 48 e.2.cfg

/-- The tables of a bank as PIPE_LUT_LOAD has them (R194): arguments and request data. -/
def Bank.record (b : Bank) (n : Nat) : Bytes :=
  le 2 n ++ le 1 7 ++ zeros 5 ++ padTo 24576 b.lutA ++ padTo 32 b.matrix ++ padTo 24576 b.lutB

/-- Section 0x0005. -/
def State.section5 (s : State) : Bytes :=
  (List.range 32).flatMap (fun n => rawRecord 48 (le 2 n) (s.pipe n).cfg)
    ++ (List.range 32).flatMap (fun n => le 2 n ++ le 1 (s.pipe n).gang ++ zeros 5)
    ++ (List.range 32).flatMap fun n => (s.pipe n).bank.record n

/-- A clone group as CLONE_GROUP_SET has it (R238). -/
def Canvas.cloneRecord (x : Canvas) (n : Nat) : Bytes :=
  le 2 n ++ le 1 x.members.length ++ zeros 1 ++ le 4 x.cloneFine
    ++ padTo 64 (x.members.flatMap fun m => le 2 m.1 ++ le 1 (b2n m.2.1) ++ zeros 1)

/-- The panel sequences as PANEL_SEQUENCE_SET has them (R246). -/
def Panel.seqRecords (x : Panel) (n : Nat) : Bytes :=
  (List.range 3).flatMap fun k =>
    let q := x.seqs.getD k []
    le 1 n ++ le 1 k ++ le 2 q.length ++ zeros 4 ++ padTo (4 * ceilDiv q.length 4) q

/-- Section 0x0006. -/
def State.section6 (s : State) : Bytes :=
  (List.range 16).flatMap (fun n => rawRecord 24 (le 2 n) (s.canvas n).cfg)
    ++ (List.range 2).flatMap (fun n => rawRecord 24 (le 1 n) (s.panel n).cfg)
    ++ (List.range 16).flatMap (fun n => (s.canvas n).cloneRecord n)
    ++ (List.range 16).flatMap (fun n => le 2 n ++ le 2 (s.canvas n).budget ++ zeros 4)
    ++ (List.range 2).flatMap (fun n => rawRecord 56 (le 1 n) (s.panel n).content)
    ++ (List.range 2).flatMap fun n => (s.panel n).seqRecords n

/-! ## Sections 0x0007 to 0x000A -/

/-- A cross-point as an entry of AUDIO_ROUTE_SET has it (R329). -/
def Cross.record (x : Cross) (k : Nat) : Bytes :=
  le 2 (k / 256) ++ le 1 (if k / 4 % 64 = 0 then 64 else k / 4 % 64) ++ le 1 (k % 4) ++ le 2 x.source ++ le 1 x.chan
    ++ le 1 (b2n x.mute) ++ le 2 (ofSigned 16 x.gain) ++ zeros 6

/-- A destination endpoint as AUDIO_DESTINATION_SET has it (R333). -/
def State.audioDestRecord (s : State) (d : Nat) (x : AudioDest) : Bytes :=
  let k := (s.tx (idx d)).kind
  let own := cls d == 7 || cls d == 8 || (cls d == 1 && (k == 1 || k == 2))
  let flows := if cls d == 1 && k == 0 then (List.range 16).flatMap fun i => le 2 (x.follow.getD i 0xFFFF) else zeros 32
  le 2 d ++ le 1 (if own then x.tg else 0xFF) ++ le 1 x.mode ++ le 1 x.timeout ++ zeros 3 ++ le 4 x.delay ++ zeros 4 ++ flows

/-- A source endpoint as AUDIO_SOURCE_SET has it (R340). -/
def AudioSource.record (x : AudioSource) (e : Nat) : Bytes :=
  le 2 e ++ le 1 x.asrcMode ++ le 1 x.align ++ le 2 x.playout ++ zeros 2 ++ le 8 x.exact ++ zeros 8

/-- Section 0x0007. -/
def State.section7 (s : State) : Bytes :=
  s.audio.crosses.flatMap (fun e => e.2.record e.1)
    ++ (List.range 16).flatMap (fun n => rawRecord 16 (le 1 n) (s.tdm n).cfg)
    ++ (List.range 32).flatMap (fun k => rawRecord 48 (le 1 (k % 16) ++ le 1 (k / 16)) (s.audioRing k).cfg)
    ++ s.audio.dests.flatMap (fun e => s.audioDestRecord e.1 e.2)
    ++ s.audio.sources.flatMap (fun e => e.2.record e.1)
    ++ (le 1 s.audio.rate ++ zeros 7)
    ++ (List.range 8).flatMap fun o => le 1 o ++ le 1 (tabGet s.audio.mclk o {}).multiple ++ zeros 6

/-- Section 0x0008. -/
def State.section8 (s : State) : Bytes :=
  padTo 24 s.cascade.cfg ++ (List.range 256).flatMap fun e => le 2 e ++ le 1 (s.exportGroup e) ++ zeros 5

/-- Section 0x0009: fences by policy and by command, and the four policies. -/
def State.section9 (s : State) : Bytes :=
  (s.health.standing.fences).flatMap (fun f => le 1 f.cls ++ zeros 1 ++ le 2 f.idx ++ zeros 4)
    ++ [1, 2, 3, 4].flatMap fun k => le 1 k ++ zeros 3 ++ le 4 (s.policy k).threshold ++ le 4 (s.policy k).window ++ zeros 4

/-- Section 0x000A. -/
def State.sectionA (s : State) : Bytes :=
  (List.range 144).flatMap fun d => le 2 d ++ le 1 (s.dest d).nightlight ++ zeros 5

/-! ## Sections 0x0010 to 0x0020 -/

/-- Section 0x0010: each surface as its handle and its SURFACE_ALLOCATE, and the committed records of each canvas under the
canvas and their count, as LAYER_COMMIT has them. -/
def State.section10 (s : State) : Bytes :=
  s.pictures.surfaces.flatMap (fun e => le 4 e.1 ++ zeros 4 ++ le 2 e.2.width ++ le 2 e.2.height ++ le 1 e.2.format
      ++ le 1 e.2.layout ++ le 1 (if e.2.layout = 2 then 1 else 0) ++ zeros 1 ++ le 4 e.2.stride ++ zeros 4)
    ++ s.pictures.canvases.flatMap fun e =>
      let l := e.2.layers.filterMap fun x => x.2.cfg
      if l.isEmpty then [] else le 2 e.1 ++ le 1 l.length ++ zeros 5 ++ l.flatMap (padTo 64)

/-- A host ring as its command has it (R282, R309). -/
def HostRing.record (r : HostRing) (n : Nat) : Bytes :=
  le 2 n ++ zeros 6 ++ le 8 r.base ++ le 4 r.size ++ zeros 4 ++ le 8 r.prodAddr ++ le 8 r.consAddr

/-- Section 0x0011: channels with their packetiser and host rings, and stream keys by handle. -/
def State.section11 (s : State) : Bytes :=
  s.coding.encs.flatMap (fun e => padTo 48 e.2.cfg ++ rawRecord 32 (le 2 e.1) e.2.pack ++ e.2.ring.record e.1)
    ++ s.coding.decs.flatMap (fun e => padTo 48 e.2.cfg ++ e.2.ring.record e.1)
    ++ s.lantern.slots.flatMap fun e => le 4 e.2.handle ++ le 1 (b2n e.2.transmit) ++ zeros 3

/-- Section 0x0020: JSN, HRT of effect and opcode of each scheduled command. -/
def State.section20 (s : State) : Bytes :=
  s.ccp.schedule.flatMap fun e => le 8 e.jsn ++ le 6 e.effect.frame ++ le 2 e.effect.line ++ le 1 e.effect.tg ++ zeros 1
    ++ le 2 e.opcode ++ zeros 4

/-- The body of a section. -/
def State.section_ (s : State) (t : Nat) : Bytes :=
  match t with
  | 0x01 => s.section1
  | 0x02 => s.section2
  | 0x03 => s.section3
  | 0x04 => s.section4
  | 0x05 => s.section5
  | 0x06 => s.section6
  | 0x07 => s.section7
  | 0x08 => s.section8
  | 0x09 => s.section9
  | 0x0A => s.sectionA
  | 0x10 => s.section10
  | 0x11 => s.section11
  | 0x12 => s.capacityReport
  | 0x20 => s.section20
  | _ => []

/-! ## The snapshot -/

/-- A section: its header, and its body padded to a multiple of 8 bytes (R109). -/
def sectionBytes (t : Nat) (body : Bytes) : Bytes :=
  le 2 t ++ zeros 2 ++ le 4 body.length ++ padTo (8 * ceilDiv body.length 8) body

/-- Sections of a list of types, in order. -/
def State.sections (s : State) (ts : List Nat) : Bytes := ts.flatMap fun t => sectionBytes t (s.section_ t)

/-- The sections of the standing digest (R109, R110). -/
def standingTypes : List Nat := [1, 2, 3, 4, 5, 6, 7, 8, 9, 10]

/-- The sections of the full digest (R109, R110). -/
def fullTypes : List Nat := standingTypes ++ [0x10, 0x11]

/-- The standing digest (R110). -/
def State.standingDigest (s : State) : BitVec 384 := Config.sha384 (s.sections standingTypes)

/-- The full digest (R110). -/
def State.fullDigest (s : State) : BitVec 384 := Config.sha384 (s.sections fullTypes)

/-- The snapshot: its header of 256 bytes and its sections (R108, R109). -/
def State.snapshot (s : State) (major minor : Nat) : Bytes :=
  let body := s.sections (fullTypes ++ [0x12, 0x20])
  le 2 1 ++ le 1 major ++ le 1 minor ++ le 4 14 ++ le 8 s.journal.reflected ++ le 8 s.journal.standingJsn
    ++ le 6 (s.time.dt / 1000000000) ++ le 4 (s.time.dt % 1000000000) ++ zeros 2 ++ le 4 (256 + body.length)
    ++ digestBytes s.standingDigest ++ digestBytes s.fullDigest ++ zeros 120 ++ body

/-- STATE_SNAPSHOT (R108). -/
def stateSnapshot : Cmd where
  opcode := 0x0C81
  dma := .required
  run c s :=
    let v := match s.sessionOf c.key with
      | some x => (x.major, x.minor)
      | none => (c.req.major.toNat, c.req.minor.toNat)
    { s.done with out := s.snapshot v.1 v.2 }

/-- STATE_SNAPSHOT. -/
def execStateSnapshot (r : Request) (s : State) : Host.Outcome State Fault Refusal := .next (stateSnapshot.serve r s)

end Sys2Proof.Machine
end

