-- ==== Sys2Proof/Machine/JournalCommands.lean ====
section
/-! DEFINITION. Reading the journal (R104). -/

namespace Sys2Proof.Machine

/-- The newest closed page's index; all ones while the chain has none (R104). -/
def Journal.closedPage (j : Journal) : Nat :=
  match j.pages with
  | p :: _ => p.index
  | [] => 2 ^ 64 - 1

/-- JOURNAL_HEAD (R104): its response of 104 bytes. -/
def State.journalHead (s : State) : Bytes :=
  let j := s.journal
  le 4 j.epoch ++ le 4 j.chain ++ le 8 j.oldest ++ le 8 j.newest ++ le 8 j.closedPage ++ digestBytes j.headHash
    ++ le 8 j.sealSeq ++ le 8 j.reflected ++ le 8 j.standingJsn

/-- JOURNAL_HEAD (R104). -/
def journalHead : Cmd where
  opcode := 0x0C82
  run _ s := s.done s.journalHead

/-- JOURNAL_HEAD. -/
def execJournalHead (r : Request) (s : State) : Host.Outcome State Fault Refusal := .next (journalHead.serve r s)

/-- Bytes 0 to 135 of a seal record, which its signature covers (R101). -/
def Seal.signed (x : Seal) : Bytes :=
  le 8 x.seq ++ le 8 x.page ++ le 8 x.lastJsn ++ le 6 (x.dt / 1000000000) ++ le 4 (x.dt % 1000000000) ++ zeros 2 ++ le 4 x.epoch
    ++ digestBytes x.hash ++ digestBytes (Config.attestHash x.key.1 x.key.2)

/-- A seal record, with its extension slot of 5,120 bytes when it has one (R101, R104). -/
def Seal.bytes (x : Seal) : Bytes :=
  x.signed ++ (le 96 x.sign.toNat).reverse ++ le 4 (b2n x.dual) ++ zeros 20
    ++ (if x.dual then padTo 5120 (Config.mldsaSign x.key.1 x.key.2 x.signed) else [])

/-- A page as JOURNAL_READ returns it: index, entries, flags (R104). -/
structure ReadPage where
  index : Nat
  entries : List Entry
  isOpen : Bool
  damaged : Bool
  /-- H of the page before it (R100). -/
  before : BitVec 384

/-- The pages of the chain that are held, ascending, the open one last (R104). -/
def Journal.readPages (j : Journal) : List ReadPage :=
  let step (a : List ReadPage × BitVec 384) (p : Page) : List ReadPage × BitVec 384 :=
    (a.1 ++ [{ index := p.index, entries := p.entries, isOpen := false, damaged := p.damaged, before := a.2 }], p.hash)
  let oldest := j.pages.reverse
  let first : BitVec 384 := match oldest with
    | p :: _ => if p.index = 0 then j.genesis else j.pageBefore
    | [] => j.genesis
  let r := oldest.foldl step ([], first)
  if j.open_.isEmpty then r.1
  else r.1 ++ [{ index := j.page, entries := j.open_.reverse, isOpen := true, damaged := false, before := r.2 }]

/-- A page record of JOURNAL_READ (R104). -/
def ReadPage.bytes (p : ReadPage) : Bytes :=
  le 8 p.index ++ le 2 p.entries.length ++ le 2 (b2n p.isOpen + 2 * b2n p.damaged) ++ zeros 20
    ++ padTo 16384 (p.entries.flatMap Entry.bytes)

/-- The held seals of the chain whose page is among some pages, ascending (R104). -/
def Journal.sealsOf (j : Journal) (ps : List ReadPage) : List Seal :=
  j.seals.reverse.filter fun x => x.epoch == j.epoch && x.chain == j.chain && ps.any fun p => p.index == x.page

/-- Bytes of pages and their seals with the read header (R104). -/
def readSize (ps : List ReadPage) (ss : List Seal) : Nat := 64 + 16416 * ps.length + (ss.map fun x => if x.dual then 5376 else 256).sum

/-- As many whole pages, with their seals, as fit (R104). -/
def Journal.fitPages (j : Journal) (ps : List ReadPage) (room : Nat) : Nat → List ReadPage
  | 0 => []
  | n + 1 => if readSize (ps.take (n + 1)) (j.sealsOf (ps.take (n + 1))) ≤ room then ps.take (n + 1) else j.fitPages ps room n

/-- JOURNAL_READ's answer for some pages (R104). -/
def State.readAnswer (s : State) (ps : List ReadPage) (before : BitVec 384) : Answer :=
  let j := s.journal
  let ss := j.sealsOf ps
  let size := if s.lantern.fuses.dual then 5376 else 256
  let head := le 4 j.epoch ++ le 4 j.chain ++ le 2 ps.length ++ le 2 ss.length ++ le 2 size ++ zeros 2 ++ digestBytes before
  { s.done (le 2 ps.length ++ le 2 ss.length ++ zeros 4) with
    out := head ++ ps.flatMap ReadPage.bytes ++ ss.flatMap Seal.bytes }

/-- JOURNAL_READ (R104). A reader whose start JSN is the one after the newest entry before this command's own is up to date. -/
def journalRead : Cmd where
  opcode := 0x0C80
  dma := .required
  shape := exactly 16 [(10, 6)]
  args c s :=
    let j := u64 c.args 0
    decide (1 ≤ u16 c.args 8 ∧ u16 c.args 8 ≤ 1024 ∧ u16 c.req.payload 0 = 0 ∧ j ≠ 0 ∧ j ≤ s.journal.nextJsn)
  run c s :=
    let start := u64 c.args 0
    let j := s.journal
    if start = c.jsn then s.readAnswer [] j.headHash
    else if start < j.chainFirst ∨ start < j.oldest then s.deny stJournalGap
    else
      let ps := (j.readPages.dropWhile fun p => !p.entries.any fun e => decide (start ≤ e.jsn)).take (u16 c.args 8)
      let ps := j.fitPages ps c.room ps.length
      s.readAnswer ps (match ps with
        | p :: _ => p.before
        | [] => j.headHash)

/-- JOURNAL_READ. -/
def execJournalRead (r : Request) (s : State) : Host.Outcome State Fault Refusal := .next (journalRead.serve r s)

end Sys2Proof.Machine
end

