-- ==== Sys2Proof/Machine/NvStore.lean ====
section
/-! DEFINITION. The commands and events of the non-volatile store (R484 to R493). -/

namespace Sys2Proof.Machine

/-! ## The flip (R481, R483, R485) -/

/-- The directory flags of a commit (R483). -/
def Commit.flags (c : Commit) : Nat := b2n c.powerFail + 2 * b2n c.long

/-- The records after a commit: its entries, and the repairs of conflicts (R481) for records that it does not write. -/
def Store.writeAll (t : Store) (c : Commit) : Tab Rec :=
  let recs := c.entries.foldl (fun m e => tabPut m e.id ((tabGet m e.id {}).write t.committed e.body)) t.recs
  let repair (m : Tab Rec) (id : Nat) : Tab Rec :=
    if c.entries.any fun e => e.id == id then m
    else
      let r := tabGet m id {}
      match r.a with
      | none => m
      | some x =>
        let y : Copy := { x with seq := (x.seq + 1) % 2 ^ 32, commit := t.committed + 1 }
        tabPut m id { r with a := some y, b := some y, writes := r.writes + 2 }
  t.conflicted.foldl repair recs

/-- The log after a commit's records (R489). -/
def Store.writeLog (t : Store) (logs : List EventRec) : List (Nat × EventRec) :=
  let new := (List.range logs.length).map fun i => (t.logHead + i, logs[i]?)
  let ok := new.filterMap fun e => e.2.map fun x => (e.1, x)
  (ok.reverse ++ t.events).take 1920

/-- Writes made to each area by a commit (R492, R493): record slots, seal anchor, directory, log, counters. -/
def Commit.wear (c : Commit) : List Nat :=
  [(c.entries.filter fun e => e.id != 3).length, (c.entries.filter fun e => e.id == 3).length, 1, 2 * c.logs.length, 0]

/-- Writes to one word of each area so far (R492). -/
def Store.wordWrites (t : Store) : List Nat :=
  [((t.recs.filter fun e => e.1 != 3).map fun e => e.2.writes / 2).foldl max 0, (t.rec_ 3).writes / 2,
    t.wear.getD 2 0 / 128, t.wear.getD 3 0 / 3840, t.wear.getD 4 0]

/-- Writes to one word of each area in 20 years at the worst-case rates (R492). -/
def wearBudget : List Nat := [6311520000, 315576000, 98617500, 420768000, 1000000]

/-- NV_WEAR_WARNING of the areas that have passed 80 % of their share (R492), each once. -/
def State.warnWear (s : State) : State :=
  (List.range 5).foldl (fun s k =>
    if !s.store.warned.contains k && decide (4 * wearBudget.getD k 0 < 5 * s.store.wordWrites.getD k 0) then
      (s.mapStore fun t => { t with warned := k :: t.warned }).raise .nvWearWarning (srcStore k) k
    else s) s

/-- The standing JSN that a commit records (R106). -/
def Commit.marker (c : Commit) : Option Nat :=
  c.entries.findSome? fun e => match e.body with
    | .marker j => some j
    | _ => none

/-- The response of a command that waited for a commit: NV_COMMIT's is the commit number (R493), a Lantern command's its service
header (R430). -/
def State.committedPayload (s : State) (opcode : Nat) : Bytes :=
  if opcode = 0x0901 then le 8 s.store.committed else le 1 1 ++ le 1 s.lantern.state ++ zeros 2

/-- Commands that wait for a commit (R439, R493): the first 8 bytes of their job are the unit that they wait for. -/
def nvWaits (opcode : Nat) : Bool := opcode == 0x0901 || opcode == 0x0A07 || opcode == 0x0A0E

/-- The commands that waited for what has been committed complete. -/
def State.nvComplete (s : State) : State :=
  (s.ccp.jobs.filter fun j => nvWaits j.opcode && decide (u64 j.args 0 ≤ s.store.done)).foldl (fun s j =>
    s.complete j stOk (s.committedPayload j.opcode) false) s

/-- After a flip, or when a wait ends: the queue loads, and a commit that a command waits for starts (R484). -/
def State.nvResume (s : State) : State :=
  let s := (s.mapStore fun t => { t with waiting := false }).nvLoad (s.store.queue.length + 1)
  if s.ccp.jobs.any fun j => j.opcode == 0x0901 then s.nvStart else s

/-- NV_FLIP (R485): phase 1 is complete and the directory entry is written, then the repairs. -/
def nvFlip (s : State) : State :=
  match s.store.commit with
  | none => s
  | some c =>
    let t := s.store
    let n := t.committed + 1
    let entry : DirEntry :=
      { number := n, logHead := (t.logHead + c.logs.length) % 2 ^ 32, records := c.entries.length, flags := c.flags
        dt := s.time.dt / 1000000000 }
    let t' : Store := { t with
      recs := t.writeAll c, directory := (entry :: t.directory).take 128, committed := n, logHead := entry.logHead
      events := t.writeLog c.logs, done := c.serial, commit := none, lastFlip := some s.time.dt, conflicted := []
      commits := (t.commits + 1) % 2 ^ 64, powerFlips := (t.powerFlips + b2n c.powerFail) % 2 ^ 64
      wear := List.zipWith (· + ·) t.wear c.wear }
    let s := { s with
      store := t', journal := { s.journal with standingJsn := c.marker.getD s.journal.standingJsn } }
    s.warnWear.nvComplete.nvResume

/-- NV_FLIP. -/
def execNvFlip (s : State) : Host.Outcome State Fault Refusal := .next (nvFlip s)

/-- NV_GATHER_AGE_EXPIRY (R484): the oldest entry of the buffer has reached 100 ms. -/
def nvGatherAge (s : State) : State :=
  match s.store.oldest with
  | none => s
  | some t => if t + 100000000 ≤ s.time.dt then s.nvStart else s

/-- NV_GATHER_AGE_EXPIRY. -/
def execNvGatherAgeExpiry (s : State) : Host.Outcome State Fault Refusal := .next (nvGatherAge s)

/-- NV_SPACING_EXPIRY (R484): the spacing after a flip is over and a waiting commit starts. -/
def nvSpacing (s : State) : State :=
  if !s.store.waiting || s.store.powerLow || !s.nvSpaced || s.store.commit.isSome then s
  else if s.store.buffer.isEmpty then s.nvResume
  else (s.mapStore fun t => { t with waiting := false }).nvStart

/-- NV_SPACING_EXPIRY. -/
def execNvSpacingExpiry (s : State) : Host.Outcome State Fault Refusal := .next (nvSpacing s)

/-! ## Power failure (R490, R491) -/

/-- POWER_FAIL_N goes low (R490): a commit in progress, or one of the buffer begun at once, is flagged POWER_FAIL; an open long
batch is abandoned (R486); MRAM scans end with ERROR (R499). -/
def powerFail (s : State) : State :=
  if s.store.powerLow then s
  else
    let s := (s.mapStore fun t => { t with powerLow := true }).cutScans 1
    let s := match s.store.commit with
      | some c =>
        if c.long then
          let u : NvUnit := { serial := c.serial, entries := c.entries }
          s.mapStore fun t => { t with commit := none, queue := u :: t.queue, waiting := true }
        else s.mapStore fun t => { t with commit := some { c with powerFail := true } }
      | none =>
        if s.store.buffer.isEmpty then s
        else
          let b := s.store.buffer
          (s.mapStore fun t => { t with buffer := [], oldest := none, waiting := false }).nvBegin b s.store.gathered true false
    s.raise .powerFailAsserted srcDevice

/-- POWER_FAIL_N_ASSERT. -/
def execPowerFailNAssert (s : State) : Host.Outcome State Fault Refusal := .next (powerFail s)

/-- POWER_FAIL_N has been high for 10 ms (R491): gathering resumes with nothing lost. -/
def powerGood (s : State) : State :=
  if !s.store.powerLow then s
  else
    let s := s.mapStore fun t => { t with powerLow := false }
    if s.store.commit.isSome then s
    else if s.store.waiting && !s.store.buffer.isEmpty then (s.mapStore fun t => { t with waiting := false }).nvStart
    else s.nvResume

/-- POWER_FAIL_N_RELEASE. -/
def execPowerFailNRelease (s : State) : Host.Outcome State Fault Refusal := .next (powerGood s)

/-! ## Counters (R487, R488) -/

/-- The four 16-bit cells of a counter, cell 0 first (R487). -/
def counterCells (v : Nat) : List Nat := [bits v 15 0, bits v 31 16, bits v 47 32, bits v 63 48]

/-- The MRAM word of a cell (R487): its value, its bitwise inverse, zero. -/
def cellWord (v : Nat) : Nat := v + (65535 - v) * 65536

/-- MRAM words written by a change of a counter (R488): cell 0 alone, or the intent and every cell that changes. -/
def counterWrites (old new : Nat) : Nat :=
  let changed := (List.zip (counterCells old) (counterCells new)).filter fun p => p.1 != p.2
  if bits old 63 16 = bits new 63 16 then changed.length else 5 + changed.length

/-- A counter is raised (R488): it changes only upward. -/
def State.raiseCounter (s : State) (k v : Nat) : State :=
  let old := s.store.counters.getD k 0
  if v ≤ old then s
  else s.mapStore fun t => { t with
    counters := t.counters.set k v, wear := t.wear.set 4 (t.wear.getD 4 0 + counterWrites old v) }

/-! ## Commands (R493) -/

/-- Every change accepted so far has been committed. -/
def Store.clean (t : Store) : Bool := t.buffer.isEmpty && t.queue.isEmpty && t.commit.isNone

/-- NV_COMMIT (R493): never an empty commit. -/
def nvCommit : Cmd where
  opcode := 0x0901
  shape := exactly 8 [(0, 8)]
  run c s :=
    if s.store.clean then s.done (le 8 s.store.committed)
    else
      let a := s.pend c 0x0901 (le 8 s.store.serial)
      { a with state := a.state.nvStart }

/-- NV_COMMIT. -/
def execNvCommit (r : Request) (s : State) : Host.Outcome State Fault Refusal := .next (nvCommit.serve r s)

/-- What NV_STATUS returns (R493). -/
def nvValues (s : State) : List Int :=
  let t := s.store
  ([t.committed, t.logHead, sizeOf_ t.buffer, t.queue.length] ++ t.counters
    ++ [t.commits, t.powerFlips, t.conflicts, t.lost, t.logDropped] ++ t.wear : List Nat).map Int.ofNat

/-- NV_STATUS (R493). -/
def nvStatus : Cmd where
  opcode := 0x0982
  run _ s := s.done (Config.layout 0x0982 (nvValues s ++ [(Config.standingBytes s.journal.standingJsn : Int)]))

/-- NV_STATUS. -/
def execNvStatus (r : Request) (s : State) : Host.Outcome State Fault Refusal := .next (nvStatus.serve r s)

/-- NV_LOG_READ (R493): start index (u64), count (u16) and 6 reserved bytes (log entry 42); the valid records in index
order. -/
def nvLogRead : Cmd where
  opcode := 0x0983
  dma := .required
  shape := exactly 16 [(10, 6)]
  args c _ := decide (1 ≤ u16 c.args 8 ∧ u16 c.args 8 ≤ 1920)
  run c s :=
    let from_ := u64 c.args 0
    let l := (s.store.events.reverse.filter fun e => decide (from_ ≤ e.1)).take (u16 c.args 8)
    { s.done with out := l.flatMap fun e => e.2.bytes }

/-- NV_LOG_READ. -/
def execNvLogRead (r : Request) (s : State) : Host.Outcome State Fault Refusal := .next (nvLogRead.serve r s)

end Sys2Proof.Machine
end

