-- ==== Sys2Proof/Machine/Lantern.lean ====
section
/-! DEFINITION. The Lantern (R427 to R456): roles, keys and fuses, attestation, stream keys, self-tests, zeroisation, the error
state, and sealing of the journal (R101, R102). -/

namespace Sys2Proof.Machine

/-- Change the Lantern. -/
def State.mapLantern (s : State) (f : Lantern → Lantern) : State := { s with lantern := f s.lantern }

/-! ## Packages (R441, R442) -/

/-- The conditions of R442 on a package without its components and its version, under the fuses. -/
def Package.headerOk (p : Package) (f : Fuses) : Bool :=
  p.magic == 0x54464931 && p.format == 1 && decide (p.authority ≤ 3) && !bit f.revoked p.authority
    && f.authorities[p.authority]? == some p.keyHash && decide (1 ≤ p.signatures % 4)
    && (!bit p.signatures 0 || p.p384Ok) && (!bit p.signatures 1 || p.mldsaOk) && (!f.dual || decide (p.signatures % 4 = 3))

/-- The version test of R442. -/
def Package.versionOk (p : Package) (f : Fuses) (counter : Nat) : Bool := decide (max f.version counter ≤ p.version)

/-- A package verifies (R442). -/
def Package.verifies (p : Package) (f : Fuses) (counter : Nat) : Bool :=
  p.headerOk f && decide (p.hashOk.length = 4) && p.hashOk.all id && p.versionOk f counter

/-- The MRAM security-version counter (R442, R487). -/
def State.versionCounter (s : State) : Nat := s.store.counters.getD 2 0

/-- A package verifies now. -/
def State.verifies (s : State) (p : Package) : Bool := p.verifies s.lantern.fuses s.versionCounter

/-! ## Service header and answers -/

/-- The service header (R430). -/
def State.serviceHeader (s : State) : Bytes := le 1 1 ++ le 1 s.lantern.state ++ zeros 2

/-- SECURITY_ERROR, counted (R456). -/
def State.securityError (s : State) : Answer :=
  let s := s.mapLantern fun l => { l with refusals := (l.refusals + 1) % 2 ^ 64 }
  { status := stSecurity, payload := s.serviceHeader, state := s }

/-- OK with a payload after the service header (R430). -/
def State.lanternDone (s : State) (payload : Bytes := []) (out : Bytes := []) : Answer :=
  { s.done (s.serviceHeader ++ payload) with out }

/-- Another status of a family 0x0A command (R430). -/
def State.lanternDeny (s : State) (status : Nat) : Answer := { s.deny status with payload := s.serviceHeader }

/-- A service of the OPERATIONAL state (R430, R455). -/
def State.service_ (s : State) (a : Answer) : Answer := if s.lantern.state = 1 then a else s.securityError

/-- A service that a decommissioned Lantern no longer has (R452). -/
def State.identity (s : State) (a : Answer) : Answer := s.service_ (if s.lantern.fuses.decommissioned then s.securityError else a)

/-! ## Keys held in records (R434) -/

/-- The body that a record will have once every waiting change is committed. -/
def Store.latest (t : Store) (id : Nat) : Option Body :=
  let waiting := (t.commit.toList.flatMap fun c => c.entries) ++ t.buffer ++ t.queue.flatMap fun u => u.entries
  match (waiting.reverse.find? fun e => e.id == id) with
  | some e => some e.body
  | none => t.body id

/-- The current copy of a Lantern record whose HMAC is correct (R434). -/
def State.lanternRecord (s : State) (id : Nat) : Option Body :=
  ((s.store.rec_ id).current s.store.committed).bind fun c => if c.hmacOk then some c.body else none

/-- The keys of a User slot (R434). -/
def State.userKey (s : State) (slot : Nat) : Option (Bytes × Bytes) :=
  match s.lanternRecord (0x10 + slot) with
  | some (.userKey k) => k
  | _ => none

/-- The key of a peer slot (R434). -/
def State.peerKey (s : State) (slot : Nat) : Option Bytes :=
  match s.lanternRecord (0x18 + slot / 32) with
  | some (.peers l) => (l.find? fun e => e.1 == slot).map (·.2)
  | _ => none

/-- A 96-byte signature or key as a number, first byte most significant. -/
def sigOf (b : Bytes) : BitVec 768 := BitVec.ofNat 768 (ule b.reverse 0 96)

/-- The 96 bytes of a signature or key. -/
def sigBytes (x : BitVec 768) : Bytes := (le 96 x.toNat).reverse

/-! ## Challenge and response (R432, R433) -/

/-- The labels of R432 and R448, eight bytes each: LNT-CO1, LNT-US1, LNT-SK1 and a zero byte. -/
def labelCo : Bytes := [0x4C, 0x4E, 0x54, 0x2D, 0x43, 0x4F, 0x31, 0]
def labelUs : Bytes := [0x4C, 0x4E, 0x54, 0x2D, 0x55, 0x53, 0x31, 0]
def labelSk : Bytes := [0x4C, 0x4E, 0x54, 0x2D, 0x53, 0x4B, 0x31, 0]

/-- A new nonce for a session replaces its old one (R432). -/
def State.challenge (s : State) (session : Nat) (officer : Bool) : Answer :=
  let v := Config.drbg s.lantern.drawn
  let n : Nonce := { session, officer, value := v, since := s.time.dt }
  let s := s.mapLantern fun l => { l with
    nonces := n :: l.nonces.filter fun x => x.session != session, drawn := l.drawn + 1 }
  s.lanternDone (digestBytes v)

/-- CO_CHALLENGE (R432). -/
def coChallenge : Cmd where
  opcode := 0x0A01
  run c s := s.identity (s.challenge c.session true)

/-- CO_CHALLENGE. -/
def execCoChallenge (r : Request) (s : State) : Host.Outcome State Fault Refusal := .next (coChallenge.serve r s)

/-- USER_CHALLENGE (R432). -/
def userChallenge : Cmd where
  opcode := 0x0A08
  run c s := s.identity (s.challenge c.session false)

/-- USER_CHALLENGE. -/
def execUserChallenge (r : Request) (s : State) : Host.Outcome State Fault Refusal := .next (userChallenge.serve r s)

/-- The message that a response signs (R432). -/
def challengeMessage (officer : Bool) (nonce : BitVec 384) (session : Nat) : Bytes :=
  (if officer then labelCo else labelUs) ++ digestBytes nonce ++ digestBytes Config.devidHash ++ le 4 session

/-- The two signatures of a response over a message verify; the second one only with DUAL_SIGNATURE (R432). -/
def State.responseSigned (s : State) (m : Bytes) (key mkey sig msig : Bytes) : Bool :=
  Config.ecdsaVerify key (Config.sha384 m) (sigOf sig) && (!s.lantern.fuses.dual || Config.mldsaVerify mkey m msig)

/-- A Crypto Officer response is valid: the slot is not revoked and holds the hash of the keys, and the signatures verify
(R432, R434). -/
def State.officerValid (s : State) (m args data : Bytes) : Bool :=
  let k := u8 args 0
  let f := s.lantern.fuses
  let keys := slice data 0 2688
  !bit f.officerRevoked k && (f.officers[k]?).getD none == some (Config.sha384 keys)
    && s.responseSigned m (slice keys 0 96) (slice keys 96 2592) (slice args 8 96) (slice data 2688 4627)

/-- A User response is valid: the slot holds keys and the signatures verify (R432, R434). -/
def State.userValid (s : State) (m args data : Bytes) : Bool :=
  match s.userKey (u8 args 0) with
  | none => false
  | some k => s.responseSigned m k.1 k.2 (slice args 8 96) (slice data 0 4627)

/-- The responses of a role are locked out (R433). -/
def Lantern.locked (l : Lantern) (r dt : Nat) : Bool :=
  match l.lockout.getD r none with
  | some t => decide (dt < t)
  | none => false

/-- Grant a role to a session (R432). -/
def State.grant (s : State) (session : Nat) (officer : Bool) : State :=
  { s with ccp := { s.ccp with sessions := s.ccp.sessions.map fun x =>
      if x.id = session then (if officer then { x with crypto := true } else { x with user := true }) else x } }

/-- A failed response: the fifth in a row locks the role out for 10 minutes and the count begins again (R433). -/
def State.authFail (s : State) (r : Nat) : State :=
  let n := s.lantern.failures.getD r 0 + 1
  let s := s.mapLantern fun l => { l with authFailures := (l.authFailures + 1) % 2 ^ 64 }
  if n < 5 then s.mapLantern fun l => { l with failures := l.failures.set r n }
  else
    (s.mapLantern fun l => { l with
      failures := l.failures.set r 0, lockout := l.lockout.set r (some (s.time.dt + 600 * 1000000000)) }).raise
        .lanternAuthLockout srcLantern r

/-- A response (R432, R433): the nonce of the session is spent. -/
def State.respond_ (s : State) (session : Nat) (officer : Bool) (valid : Bytes → Bool) : Answer :=
  let r := b2n (!officer)
  if s.lantern.locked r s.time.dt then s.securityError
  else
    let n := s.lantern.nonces.find? fun x => x.session == session && x.officer == officer
    let ok := match n with
      | none => false
      | some x => decide (s.time.dt ≤ x.since + 60 * 1000000000) && valid (challengeMessage officer x.value session)
    let s := s.mapLantern fun l => { l with
      nonces := l.nonces.filter fun x => !(x.session == session && x.officer == officer) }
    if ok then
      ((s.grant session officer).mapLantern fun l => { l with failures := l.failures.set r 0 }).lanternDone
    else (s.authFail r).securityError

/-- CO_RESPOND (R432). -/
def coRespond : Cmd where
  opcode := 0x0A02
  dma := .required
  shape := exactly 104 [(1, 7)]
  args c s := decide (u8 c.args 0 ≤ 1) && decide (c.data.length = 2688 + (if s.lantern.fuses.dual then 4627 else 0))
  run c s := s.identity (s.respond_ c.session true fun m => s.officerValid m c.args c.data)

/-- CO_RESPOND. -/
def execCoRespond (r : Request) (s : State) : Host.Outcome State Fault Refusal := .next (coRespond.serve r s)

/-- USER_RESPOND (R432): the DMA flag has a meaning only with DUAL_SIGNATURE. -/
def userRespond (dual : Bool) : Cmd where
  opcode := 0x0A09
  dma := if dual then .required else .ignored
  shape := exactly 104 [(1, 7)]
  args c _ := decide (u8 c.args 0 ≤ 7) && (!dual || decide (c.data.length = 4627))
  run c s := s.identity (s.respond_ c.session false fun m => s.userValid m c.args c.data)

/-- USER_RESPOND. -/
def execUserRespond (r : Request) (s : State) : Host.Outcome State Fault Refusal :=
  .next ((userRespond s.lantern.fuses.dual).serve r s)

/-- AUTH_LOCKOUT_EXPIRY (R433): the 10 minutes of a role are over. -/
def authLockoutExpiry (officer : Bool) (s : State) : State :=
  let r := b2n (!officer)
  match s.lantern.lockout.getD r none with
  | none => s
  | some t => if t ≤ s.time.dt then s.mapLantern fun l => { l with lockout := l.lockout.set r none } else s

/-- AUTH_LOCKOUT_EXPIRY. -/
def execAuthLockoutExpiry (officer : Bool) (s : State) : Host.Outcome State Fault Refusal := .next (authLockoutExpiry officer s)

/-! ## Fuses (R434, R437 to R439) -/

/-- The key pair of a payload: P-384 and then ML-DSA-87 public key. -/
def keyPair (p : Bytes) : Bytes := slice p 8 2688

/-- What a burn makes of the fuses (R434, R438). -/
def Fuses.burn (f : Fuses) (opcode : Nat) (p : Bytes) : Fuses :=
  if opcode = 0x0A0A then { f with officers := f.officers.set 0 (some (Config.sha384 (keyPair p))), provisioned := true }
  else
    let k := u8 p 1
    match u8 p 0 with
    | 1 => { f with dual := true }
    | 2 => { f with debugDisable := true }
    | 3 => { f with revoked := f.revoked ||| 2 ^ k }
    | 4 => { f with officerRevoked := f.officerRevoked ||| 2 ^ k }
    | 5 => { f with officers := f.officers.set 1 (some (Config.sha384 (keyPair p))) }
    | 6 => { f with version := max f.version k }
    | _ => f

/-- Opcodes that burn fuses. -/
def burns (opcode : Nat) : Bool := opcode == 0x0A0A || opcode == 0x0A0C

/-- The fuses once the burns in progress are done. -/
def State.fusesThen (s : State) : Fuses :=
  (s.ccp.jobs.filter fun j => burns j.opcode).foldl (fun f j => f.burn j.opcode j.args) s.lantern.fuses

/-- CO_PROVISION (R434, R439). -/
def coProvision : Cmd where
  opcode := 0x0A0A
  shape := exactly 2696 [(0, 8)]
  args c _ := Config.onCurve (slice c.args 8 96)
  run c s := s.service_ (if s.fusesThen.provisioned then s.securityError else s.pend c 0x0A0A c.args)

/-- CO_PROVISION. -/
def execCoProvision (r : Request) (s : State) : Host.Outcome State Fault Refusal := .next (coProvision.serve r s)

/-- The last slot of a set that is not revoked (R438). -/
def lastLeft (valid : List Nat) (revoked k : Nat) : Bool := (valid.filter fun i => !bit revoked i) == [k]

/-- The arguments of FUSE_POLICY_SET (R438, R439). -/
def fuseValid (p : Bytes) (s : State) : Bool :=
  let f := s.fusesThen
  let k := u8 p 1
  let held := [0, 1].filter fun i => ((f.officers[i]?).getD none).isSome
  match u8 p 0 with
  | 1 => k == 0
  | 2 => k == 0
  | 3 => decide (k ≤ 3) && !lastLeft [0, 1, 2, 3] f.revoked k
  | 4 => decide (k ≤ 1) && !lastLeft held f.officerRevoked k
  | 5 => k == 0 && Config.onCurve (slice p 8 96) && ((f.officers[1]?).getD none).isNone
  | 6 => decide (1 ≤ k ∧ k ≤ 64 ∧ f.version < k) && decide (k ≤ (s.lantern.running.map (·.version)).getD 0)
  | _ => false

/-- FUSE_POLICY_SET (R438, R439). -/
def fusePolicySet : Cmd where
  opcode := 0x0A0C
  role := .crypto
  shape p := exactly (if u8 p 0 = 5 then 2696 else 8) [(2, 6)] p
  args c s := fuseValid c.args s
  run c s := s.service_ (s.pend c 0x0A0C c.args)

/-- FUSE_POLICY_SET. -/
def execFusePolicySet (r : Request) (s : State) : Host.Outcome State Fault Refusal := .next (fusePolicySet.serve r s)

/-- A burn has read back correctly (R438). -/
def State.burned (s : State) (j : Job) : State :=
  let s := s.mapLantern fun l => { l with fuses := l.fuses.burn j.opcode j.args }
  s.complete j stOk s.serviceHeader false

/-! ## Registered keys and the register lock (R434, R436, R439) -/

/-- USER_KEY_SET (R439): it completes when its record is committed. -/
def userKeySet : Cmd where
  opcode := 0x0A07
  role := .crypto
  shape := exactly 2696 [(2, 6)]
  args c _ := decide (u8 c.args 0 ≤ 7 ∧ u8 c.args 1 ≤ 1)
    && (if u8 c.args 1 = 1 then Config.onCurve (slice c.args 8 96) else zeroAt c.args 8 2688)
  run c s :=
    let k := if u8 c.args 1 = 1 then some (slice c.args 8 96, slice c.args 104 2592) else none
    let a := s.gather [gatheredOf 0 (0x10 + u8 c.args 0) (.userKey k)]
    s.service_ (a.pend c 0x0A07 (le 8 a.store.serial))

/-- USER_KEY_SET. -/
def execUserKeySet (r : Request) (s : State) : Host.Outcome State Fault Refusal := .next (userKeySet.serve r s)

/-- PEER_KEY_SET (R439): it completes when its record is committed. -/
def peerKeySet : Cmd where
  opcode := 0x0A0E
  role := .crypto
  shape := exactly 104 [(2, 6)]
  args c _ := decide (u8 c.args 0 ≤ 63 ∧ u8 c.args 1 ≤ 1)
    && (if u8 c.args 1 = 1 then Config.onCurve (slice c.args 8 96) else zeroAt c.args 8 96)
  run c s :=
    let k := u8 c.args 0
    let old : Tab Bytes := match s.store.latest (0x18 + k / 32) with
      | some (.peers l) => l
      | _ => []
    let new := if u8 c.args 1 = 1 then tabPut old k (slice c.args 8 96) else tabDrop old k
    let a := s.gather [gatheredOf 0 (0x18 + k / 32) (.peers new)]
    s.service_ (a.pend c 0x0A0E (le 8 a.store.serial))

/-- PEER_KEY_SET. -/
def execPeerKeySet (r : Request) (s : State) : Host.Outcome State Fault Refusal := .next (peerKeySet.serve r s)

/-- REGISTER_LOCK (R436): at acceptance. -/
def registerLock : Cmd where
  opcode := 0x0A06
  role := .crypto
  shape := exactly 8 [(1, 7)]
  args c _ := decide (u8 c.args 0 ≤ 1)
  run c s :=
    let on := u8 c.args 0 == 1
    let a := (s.mapRegs fun r => { r with lock := on }).gather [gatheredOf 0 0x1A (.lock on)]
    s.service_ a.lanternDone

/-- REGISTER_LOCK. -/
def execRegisterLock (r : Request) (s : State) : Host.Outcome State Fault Refusal := .next (registerLock.serve r s)

/-! ## Identity and attestation (R446, R447) -/

/-- DEVID_CERT_READ (R446): the certificates in DER, which the spec does not lay out (log entry 17). -/
def devidCertRead : Cmd where
  opcode := 0x0A81
  dma := .required
  run _ s :=
    let l := s.lantern
    let k := l.attest.getD (0, 0)
    s.identity (s.lanternDone [] (Config.layout 0x0A81
      [(k.1 : Int), k.2, b2n l.fuses.dual, b2n l.fuses.debugDisable, l.fuses.revoked, l.fuses.officerRevoked, l.fuses.version]))

/-- DEVID_CERT_READ. -/
def execDevidCertRead (r : Request) (s : State) : Host.Outcome State Fault Refusal := .next (devidCertRead.serve r s)

/-- The fuse state word (R447). -/
def State.fuseWord (s : State) : Nat :=
  let f := s.lantern.fuses
  b2n f.provisioned + 2 * b2n f.dual + 4 * b2n f.debugDisable + 8 * b2n f.decommissioned + 16 * f.revoked
    + 256 * f.officerRevoked + 1024 * (s.lantern.running.map (·.authority)).getD 0

/-- The code of a feature (R447). -/
def Feature.code : Feature → Nat
  | .e => 0
  | .x => 1
  | .a => 2

/-- Bytes 0 to 583 of the attestation report (R447). -/
def State.report (s : State) (nonce : Bytes) : Bytes :=
  let l := s.lantern
  let p := l.running
  let k := l.attest.getD (0, 0)
  let newest := s.journal.seals.head?
  le 2 1 ++ le 1 (if l.fuses.dual then 3 else 1) ++ le 1 l.state ++ le 1 s.part.feature.code ++ le 1 s.part.grade
    ++ le 1 (16 * s.part.steppingLetter + s.part.steppingDigit) ++ zeros 1 ++ padTo 48 nonce
    ++ le 6 (s.time.dt / 1000000000) ++ le 4 (s.time.dt % 1000000000) ++ zeros 2 ++ le 4 (s.store.counters.getD 0 0)
    ++ digestBytes Config.devidHash ++ le 32 (s.capability) ++ le 8 s.fuseWord ++ le 2 l.fuses.version
    ++ le 2 s.versionCounter ++ le 2 ((p.map (·.version)).getD 0) ++ zeros 2 ++ le 8 ((p.map (·.build)).getD 0)
    ++ padTo 192 ((p.map (·.measured)).getD [] |>.flatMap digestBytes) ++ digestBytes ((p.map (·.header)).getD 0)
    ++ digestBytes s.standingDigest ++ le 8 s.journal.standingQueued ++ digestBytes s.journal.lastSealHash
    ++ le 8 ((newest.map (·.page)).getD 0) ++ le 8 s.journal.lastSealJsn ++ digestBytes (Config.attestHash k.1 k.2)

/-- ATTEST (R447): in the response payload, or by DMA when the ML-DSA-87 extension is present. -/
def attest (dual : Bool) : Cmd where
  opcode := 0x0A03
  dma := if dual then .required else .ignored
  shape := exactly 48 []
  run c s :=
    let b := s.report c.args
    let k := s.lantern.attest.getD (0, 0)
    let signed := b ++ sigBytes (Config.ecdsaSign k.1 k.2 (Config.sha384 b))
    s.identity (if dual then s.lanternDone [] (signed ++ Config.mldsaSign k.1 k.2 b) else s.lanternDone signed)

/-- ATTEST. -/
def execAttest (r : Request) (s : State) : Host.Outcome State Fault Refusal := .next ((attest s.lantern.fuses.dual).serve r s)

/-! ## Stream keys (R448, R449) -/

/-- Two free key slots. -/
def Lantern.freeSlots (l : Lantern) : List Nat := ((List.range 1024).filter fun i => !tabHas l.slots i).take 2

/-- The OFFER phase (R448). -/
def State.offer (s : State) (p : Bytes) : Answer :=
  if 64 ≤ s.lantern.exchanges.length then s.lanternDeny stNoCapacity
  else
    let l := s.lantern
    let own := sigBytes (Config.ephemeral l.drawn)
    let context := slice p 8 48
    let x : Exchange := { id := l.nextExchange, context, side := u8 p 3, own, since := s.time.dt }
    let k := l.attest.getD (0, 0)
    let sign := Config.ecdsaSign k.1 k.2 (Config.sha384 (labelSk ++ context ++ own))
    (s.mapLantern fun l => { l with
      exchanges := l.exchanges ++ [x], nextExchange := (l.nextExchange + 1) % 2 ^ 32, drawn := l.drawn + 1 }).lanternDone
        (le 4 x.id ++ own ++ sigBytes sign)

/-- The ACCEPT phase (R448): two key slots, a transmit and a receive handle. -/
def State.accept_ (s : State) (p : Bytes) : Answer :=
  let l := s.lantern
  let context := slice p 8 48
  let peer := slice p 56 96
  match l.exchanges.find? fun x => x.id == u32 p 4 with
  | none => s.securityError
  | some x =>
    let signed := Config.sha384 (labelSk ++ context ++ peer ++ x.own)
    let ok := match s.peerKey (u8 p 2) with
      | none => false
      | some k => Config.ecdsaVerify k signed (sigOf (slice p 152 96))
    if x.since + 30 * 1000000000 < s.time.dt || !Config.onCurve peer || !ok then s.securityError
    else match l.freeSlots with
      | [a, b] =>
        let h := l.nextHandle
        let k := l.attest.getD (0, 0)
        let sign := Config.ecdsaSign k.1 k.2 (Config.sha384 (labelSk ++ context ++ x.own ++ peer))
        let f (l : Lantern) : Lantern := { l with
          exchanges := l.exchanges.filter fun y => y.id != x.id, nextHandle := (h + 2) % 2 ^ 32
          slots := tabPut (tabPut l.slots a { handle := h, transmit := true }) b { handle := (h + 1) % 2 ^ 32, transmit := false } }
        (s.mapLantern f).lanternDone (le 4 h ++ le 4 (h + 1) ++ sigBytes sign)
      | _ => s.lanternDeny stNoCapacity

/-- STREAM_KEY_ESTABLISH (R448). -/
def streamKeyEstablish : Cmd where
  opcode := 0x0A04
  role := .user
  shape := exactly 256 [(248, 8)]
  args c _ :=
    let p := c.args
    decide (u8 p 0 ≤ 1 ∧ u8 p 1 = 1 ∧ u8 p 3 ≤ 1) && (if u8 p 0 = 0 then u32 p 4 == 0 else decide (u8 p 2 ≤ 63))
  run c s := s.identity (if u8 c.args 0 = 0 then s.offer c.args else s.accept_ c.args)

/-- STREAM_KEY_ESTABLISH. -/
def execStreamKeyEstablish (r : Request) (s : State) : Host.Outcome State Fault Refusal := .next (streamKeyEstablish.serve r s)

/-- The slot of a handle is zeroised (R449). -/
def Lantern.dropHandle (l : Lantern) (h : Nat) : Lantern := { l with slots := l.slots.filter fun e => e.2.handle != h }

/-- STREAM_KEY_WITHDRAW (R449). -/
def streamKeyWithdraw : Cmd where
  opcode := 0x0A0B
  role := .user
  shape := exactly 8 [(4, 4)]
  args c s := s.lantern.slots.any fun e => e.2.handle == u32 c.args 0
  run c s := s.service_ (s.mapLantern fun l => l.dropHandle (u32 c.args 0)).lanternDone

/-- STREAM_KEY_WITHDRAW. -/
def execStreamKeyWithdraw (r : Request) (s : State) : Host.Outcome State Fault Refusal := .next (streamKeyWithdraw.serve r s)

/-- EXCHANGE_EXPIRY (R448): 30 s after its OFFER. -/
def exchangeExpiry (id : Nat) (s : State) : State :=
  s.mapLantern fun l => { l with
    exchanges := l.exchanges.filter fun x => !(x.id == id && decide (x.since + 30 * 1000000000 ≤ s.time.dt)) }

/-- EXCHANGE_EXPIRY. -/
def execExchangeExpiry (id : Nat) (s : State) : Host.Outcome State Fault Refusal := .next (exchangeExpiry id s)

/-- A key slot has protected 2^31 packets (R449). -/
def streamKeyRekeyDue (slot : Nat) (s : State) : State :=
  match s.lantern.slots.find? fun e => e.1 == slot with
  | none => s
  | some e =>
    if e.2.packets < 2 ^ 31 then
      (s.mapLantern fun l => { l with slots := tabPut l.slots slot { e.2 with packets := 2 ^ 31 } }).raise .streamKeyRekeyDue
        srcLantern e.2.handle
    else s

/-- STREAM_KEY_REKEY_DUE. -/
def execStreamKeyRekeyDue (slot : Nat) (s : State) : Host.Outcome State Fault Refusal := .next (streamKeyRekeyDue slot s)

/-- A key slot has protected 2^32 packets: the Lantern withdraws it (R449). -/
def streamKeyExpired (slot : Nat) (s : State) : State :=
  match s.lantern.slots.find? fun e => e.1 == slot with
  | none => s
  | some e =>
    if 2 ^ 31 ≤ e.2.packets then
      (s.mapLantern fun l => { l with slots := tabDrop l.slots slot }).raise .streamKeyExpired srcLantern e.2.handle
    else s

/-- STREAM_KEY_EXPIRED. -/
def execStreamKeyExpired (slot : Nat) (s : State) : Host.Outcome State Fault Refusal := .next (streamKeyExpired slot s)

/-- A receive flow given a new handle stops accepting packets under the old key after 1 s (R449). -/
def receiveKeyOverlapEnd (n : Nat) (s : State) : State :=
  if (s.rx n).oldKey.isSome then s.setRx n { s.rx n with oldKey := none } else s

/-- RECEIVE_KEY_OVERLAP_END. -/
def execReceiveKeyOverlapEnd (n : Nat) (s : State) : Host.Outcome State Fault Refusal := .next (receiveKeyOverlapEnd n s)

/-! ## Zeroisation and the error state (R452 to R455) -/

/-- Every role ends (R431). -/
def State.endRoles (s : State) : State :=
  { s with ccp := { s.ccp with sessions := s.ccp.sessions.map fun x => { x with crypto := false, user := false } } }

/-- Jobs of family 0x0A. -/
def lanternJobs (l : List Job) : List Job := l.filter fun j => j.opcode / 256 == 0x0A

/-- Fuse burns in progress complete (R454). -/
def State.finishBurns (s : State) : State := (s.ccp.jobs.filter fun j => burns j.opcode).foldl State.burned s

/-- Every family 0x0A command that is not complete returns SECURITY_ERROR (R454). -/
def State.failJobs (s : State) : State :=
  (lanternJobs s.ccp.jobs).foldl (fun s j =>
    (s.mapLantern fun l => { l with refusals := (l.refusals + 1) % 2 ^ 64 }).complete j stSecurity s.serviceHeader false) s

/-- The volatile CSPs are overwritten: key slots and exchanges are gone (R452, R455). -/
def Lantern.wipe (l : Lantern) : Lantern := { l with slots := [], exchanges := [], testing := false }

/-- Zeroisation (R452 to R454): mode 0 VOLATILE, 1 DECOMMISSION; cause 0 command, 1 ball, 2 environment. -/
def State.zeroise (s : State) (mode cause : Nat) : State :=
  let s := s.finishBurns
  let s := (s.mapLantern fun l => { l.wipe with state := 2, zeroisations := (l.zeroisations + 1) % 2 ^ 64 }).failJobs.endRoles
  let s := if mode = 1 then
      let ones : BitVec 384 := BitVec.allOnes 384
      let t := s.mapLantern fun l => { l with
        fuses := { l.fuses with officers := [some ones, some ones], decommissioned := true }, attest := none }
      t.raise .journalUnsealed srcLantern
    else s
  (s.raise .lanternZeroised srcLantern).logAction 0x000B (le 1 mode ++ le 1 cause)

/-- ZEROIZE (R452): it completes when the Lantern is OPERATIONAL again. -/
def zeroize : Cmd where
  opcode := 0x0A05
  role := .crypto
  shape := exactly 8 [(1, 7)]
  args c _ := decide (u8 c.args 0 ≤ 1)
  run c s := s.service_ ((s.zeroise (u8 c.args 0) 0).pend c 0x0A05 c.args)

/-- ZEROIZE. -/
def execZeroize (r : Request) (s : State) : Host.Outcome State Fault Refusal := .next (zeroize.serve r s)

/-- ZEROIZE_N has been low for 1 µs (R453); in the error state and in the self-tests nothing is left to zeroise. -/
def zeroizeLow (s : State) : State :=
  let low := s.mapLantern fun l => { l with ballLow := true }
  if s.lantern.state = 1 ∨ s.lantern.state = 2 ∧ !s.lantern.ballLow then low.zeroise 0 1 else low

/-- ZEROIZE_N_LOW. -/
def execZeroizeNLow (s : State) : Host.Outcome State Fault Refusal := .next (zeroizeLow s)

/-- A low pulse from 100 ns to 1 µs (R453). -/
def zeroizeGlitch (s : State) : State :=
  (s.mapLantern fun l => { l with glitches := (l.glitches + 1) % 2 ^ 64 }).raise .zeroizeGlitch srcLantern

/-- ZEROIZE_GLITCH. -/
def execZeroizeGlitch (s : State) : Host.Outcome State Fault Refusal := .next (zeroizeGlitch s)

/-- The CSPs are overwritten and the ball is high (R452, R453): the attestation keys are derived again, the Lantern is
OPERATIONAL, and a waiting ZEROIZE completes. -/
def zeroisationComplete (s : State) : State :=
  if s.lantern.state = 2 then
    let s := s.mapLantern fun l => { l with state := 1, ballLow := false }
    (s.ccp.jobs.filter fun j => j.opcode == 0x0A05).foldl (fun s j => s.complete j stOk s.serviceHeader false) s
  else if s.lantern.state = 0 then s.mapLantern fun l => { l with ballLow := false }
  else s

/-- Stage 1 has not been verified yet in this start (R455). -/
def State.beforeStage1 (s : State) : Bool := s.boot.porstN && decide (s.boot.stage ≤ 3)

/-- Entry to ERROR (R455): causes 1 self-test, 2 entropy, 3 environment, 4 fuse read-back, 5 processor or memory. -/
def State.lanternFail (s : State) (cause : Nat) : State :=
  if s.lantern.state = 3 then s
  else
    let s := if cause = 4 then s.raise .lanternFuseFault srcLantern else s.finishBurns
    let selfTest := s.lantern.state == 0
    let s := (s.mapLantern fun l => { l.wipe with state := 3, cause }).failJobs.endRoles
    let s := (s.raise .lanternError srcLantern cause).vector 19
    let s := s.raise .journalUnsealed srcLantern
    if s.beforeStage1 then
      { s with boot := { s.boot with
        stage := 0x11, fault := if s.boot.fault = 0 then (if selfTest then 3 else 4) else s.boot.fault } }
    else s

/-- LANTERN_ERROR (R455): one of its five causes. -/
def lanternError (cause : Nat) (s : State) : State :=
  if s.boot.porstN ∧ 1 ≤ cause ∧ cause ≤ 5 then s.lanternFail cause else s

/-- LANTERN_ERROR. -/
def execLanternError (cause : Nat) (s : State) : Host.Outcome State Fault Refusal := .next (lanternError cause s)

/-- ENTROPY_HEALTH_TEST (R450, R455): the continuous tests of an entropy sample. -/
def execEntropyHealthTest (pass : Bool) (s : State) : Host.Outcome State Fault Refusal :=
  .next (if pass then s else s.lanternFail 2)

/-- ENVIRONMENTAL_FAILURE (R429, R453): zeroisation, then ERROR. -/
def environmentalFailure (s : State) : State := if s.lantern.state = 3 then s else (s.zeroise 0 2).lanternFail 3

/-- ENVIRONMENTAL_FAILURE. -/
def execEnvironmentalFailure (s : State) : Host.Outcome State Fault Refusal := .next (environmentalFailure s)

/-! ## Self-test on demand and status (R451, R456) -/

/-- SELF_TEST_RUN (R451). -/
def selfTestRun : Cmd where
  opcode := 0x0A0D
  role := .crypto
  run c s := s.service_ ((s.mapLantern fun l => { l with testing := true }).pend c 0x0A0D [])

/-- SELF_TEST_RUN. -/
def execSelfTestRun (r : Request) (s : State) : Host.Outcome State Fault Refusal := .next (selfTestRun.serve r s)

/-- The tests of SELF_TEST_RUN have passed, or one has failed (R450, R451). -/
def State.selfTested (s : State) (pass : Bool) : State :=
  if !pass then s.lanternFail 1
  else
    let s := s.mapLantern fun l => { l with testing := false, lastTest := some s.time.dt }
    (s.ccp.jobs.filter fun j => j.opcode == 0x0A0D).foldl (fun s j => s.complete j stOk s.serviceHeader false) s

/-- What LANTERN_STATUS returns (R456), in a layout the spec does not give (log entry 17). -/
def State.lanternValues (s : State) : List Int :=
  let l := s.lantern
  ([l.state, l.cause, s.fuseWord, l.fuses.version, s.versionCounter, (l.running.map (·.version)).getD 0]
    ++ (s.ccp.sessions.flatMap fun x => [x.id, b2n x.crypto + 2 * b2n x.user])
    ++ [l.slots.length, l.exchanges.length, l.lastTest.getD 0, b2n (l.locked 0 s.time.dt), b2n (l.locked 1 s.time.dt), l.authFailures,
      l.zeroisations, l.glitches, l.sealed_, l.skipped, l.refusals] : List Nat).map Int.ofNat

/-- LANTERN_STATUS (R456): served in every state. -/
def lanternStatus : Cmd where
  opcode := 0x0A80
  run _ s := s.lanternDone (Config.layout 0x0A80 s.lanternValues)

/-- LANTERN_STATUS. -/
def execLanternStatus (r : Request) (s : State) : Host.Outcome State Fault Refusal := .next (lanternStatus.serve r s)

/-! ## Seals (R101, R102, R445) -/

/-- The security-version counter follows the commit version of a package that has reached full function (R445). -/
def State.raiseVersion (s : State) : State :=
  match s.lantern.running with
  | some p => if s.boot.stage = 7 ∧ !s.journal.swapping then s.raiseCounter 2 p.commit else s
  | none => s

/-- The newest closed page is sealed, and its hash and last JSN go to the seal anchor (R101, R102). -/
def State.sealPage (s : State) (p : Page) : State :=
  let j := s.journal
  let key := s.lantern.attest.getD (0, 0)
  let last := (p.entries.map (·.jsn)).foldl max 0
  let x : Seal := { seq := j.sealSeq + 1, page := p.index, lastJsn := last, dt := s.time.dt, epoch := j.epoch, hash := p.hash,
                    sign := 0, dual := s.lantern.fuses.dual, chain := j.chain, key }
  let x := { x with sign := Config.ecdsaSign key.1 key.2 (Config.sha384 x.signed) }
  let s := { s with journal := { j with
    seals := (x :: j.seals).take 16384, sealSeq := x.seq, lastSealHash := p.hash, lastSealJsn := last } }
  (s.mapLantern fun l => { l with sealed_ := (l.sealed_ + 1) % 2 ^ 64 }).gather
    [gatheredOf 0 0x0003 (.anchor j.epoch j.chain x.seq p.index last p.hash)]

/-- SEAL_TICK (R101, R453): the open page closes when it holds an entry, and the newest closed page is sealed; a seal that falls
due while ZEROISING is skipped. -/
def sealTick (s : State) : State :=
  if s.journal.epoch = 0 then s
  else if s.lantern.state = 2 then s.mapLantern fun l => { l with skipped := (l.skipped + 1) % 2 ^ 64 }
  else if s.lantern.state ≠ 1 ∨ s.lantern.fuses.decommissioned then s
  else
    let s := s.raiseVersion
    let s := if s.journal.open_.isEmpty then s else { s with journal := s.journal.closePage }
    match s.journal.pages with
    | p :: _ => s.sealPage p
    | [] => s

/-- SEAL_TICK. -/
def execSealTick (s : State) : Host.Outcome State Fault Refusal := .next (sealTick s)

end Sys2Proof.Machine
end

