-- ==== Sys2Proof/Machine/MemoryRows.lean ====
section
/-! DEFINITION. The rows of the memory system (R457 to R475): the aperture, quality of service, refresh, ECC and scrub, the
SRAM banks and MEMORY_STATUS. -/

namespace Sys2Proof.Machine

/-- Change the memory system. -/
def State.mapMemory (s : State) (f : Memory → Memory) : State := { s with memory := f s.memory }

/-! ## APERTURE_SET and MEMORY_QOS_SET -/

/-- A window base that APERTURE_SET takes (R471): a device address that is a multiple of 1 MiB. -/
def State.apertureBaseOk (s : State) (a : Nat) : Bool := decide (a % 1048576 = 0 ∧ a < s.hbmEnd)

/-- APERTURE_SET (R471): the base of the BAR4 window, at acceptance. -/
def apertureSet : Cmd where
  opcode := 0x0902
  shape := exactly 8 []
  args c s := s.apertureBaseOk (u64 c.args 0)
  run c s := (s.mapMemory fun m => { m with aperture := u64 c.args 0 }).done

/-- APERTURE_SET. -/
def execApertureSet (r : Request) (s : State) : Host.Outcome State Fault Refusal := .next (apertureSet.serve r s)

/-- A cap of a BULK port, in GB/s (R462). -/
def Memory.setCap (m : Memory) (port cap : Nat) : Memory := { m with caps := m.caps.set (port - 44) cap }

/-- MEMORY_QOS_SET (R462): a cap and the scrub period, at acceptance, not standing. -/
def memoryQosSet : Cmd where
  opcode := 0x0905
  shape := exactly 8 [(1, 1), (6, 2)]
  args c _ :=
    let port := u8 c.args 0
    (port == 0xFF || decide (44 ≤ port ∧ port ≤ 47 ∧ 1 ≤ u16 c.args 2 ∧ u16 c.args 2 ≤ 32))
      && decide (u16 c.args 4 ≤ 168)
  run c s :=
    let s := if u8 c.args 0 = 0xFF then s else s.mapMemory fun m => m.setCap (u8 c.args 0) (u16 c.args 2)
    let s := if u16 c.args 4 = 0 then s else s.mapMemory fun m => { m with scrubPeriod := u16 c.args 4 }
    s.done

/-- MEMORY_QOS_SET. -/
def execMemoryQosSet (r : Request) (s : State) : Host.Outcome State Fault Refusal := .next (memoryQosSet.serve r s)

/-! ## Refresh (R463 to R465) -/

/-- Change every bank of a stack. -/
def Stack.mapBanks (x : Stack) (f : RefBank → RefBank) : Stack :=
  { x with rest := f x.rest, banks := x.banks.map fun e => (e.1, f e.2) }

/-- A bank of a stack. -/
def Stack.bank (x : Stack) (b : Nat) : RefBank := tabGet x.banks b x.rest

/-- A refresh interval ends: each bank owes one refresh more (R463). -/
def hbmRefreshInterval (h : Nat) (s : State) : State :=
  let x := s.stack h
  if x.mapped then s.setStack h (x.mapBanks fun b => { b with owed := b.owed + 1 }) else s

/-- HBM_REFRESH_INTERVAL. -/
def execHbmRefreshInterval (h : Nat) (s : State) : Host.Outcome State Fault Refusal := .next (hbmRefreshInterval h s)

/-- A bank after a refresh of it has completed: a bank in CATCH-UP leaves it at 2 or fewer (R465). -/
def RefBank.refreshed (b : RefBank) : RefBank :=
  { owed := b.owed - 1, catchUp := b.catchUp && decide (2 < b.owed - 1) }

/-- A per-bank refresh ends (R463, R465): the owed count falls; one that a bank in CATCH-UP with 12 or more owed presented
at rank 1 is counted and raised as REFRESH_FORCED. -/
def perBankRefreshComplete (h bank : Nat) (s : State) : State :=
  let x := s.stack h
  let b := x.bank bank
  if !x.mapped || b.owed == 0 then s
  else
    let forced := b.catchUp && decide (12 ≤ b.owed)
    let s := s.setStack h { x with banks := tabPut x.banks bank b.refreshed, forced := x.forced + b2n forced }
    if forced then s.raise .refreshForced (srcHbm h) bank else s

/-- PER_BANK_REFRESH_COMPLETE. -/
def execPerBankRefreshComplete (h bank : Nat) (s : State) : Host.Outcome State Fault Refusal :=
  .next (perBankRefreshComplete h bank s)

/-- A bank when the rate doubles (R465). -/
def RefBank.double (b : RefBank) : RefBank := { owed := 2 * b.owed, catchUp := decide (4 < 2 * b.owed) }

/-- A bank when the rate returns to normal (R465). -/
def RefBank.halve (b : RefBank) : RefBank := { owed := (b.owed + 1) / 2, catchUp := false }

/-- A controller reads its stack's temperature (R463): the rate doubles at 85 °C, and returns below 82 °C. -/
def hbmTempRead (h : Nat) (temp : Int) (s : State) : State :=
  let x := { s.stack h with temp }
  if !x.mapped then s
  else if !x.doubled && decide (85 ≤ temp) then
    let y := { x.mapBanks RefBank.double with doubled := true }
    let s := s.setStack h y
    if y.rest.catchUp || y.banks.any (fun e => e.2.catchUp) then s.raise .refreshCatchup (srcHbm h) else s
  else if x.doubled && decide (temp < 82) then s.setStack h { x.mapBanks RefBank.halve with doubled := false }
  else s.setStack h x

/-- HBM_TEMP_READ. -/
def execHbmTempRead (h : Nat) (temp : Int) (s : State) : Host.Outcome State Fault Refusal := .next (hbmTempRead h temp s)

/-! ## Ports (R460 to R462) -/

/-- A requestor port's use. -/
def State.port (s : State) (p : Nat) : PortUse := tabGet s.memory.ports p {}

/-- Change a requestor port's use. -/
def State.mapPort (s : State) (p : Nat) (f : PortUse → PortUse) : State :=
  s.mapMemory fun m => { m with ports := tabPut m.ports p (f (s.port p)) }

/-- A BULK port that has reached its cap presents no candidate until its window of 10 µs ends (R462): 1 GB/s is 10,000
bytes a window. -/
def State.capReached (s : State) (p : Nat) : Bool :=
  decide (44 ≤ p ∧ p ≤ 47 ∧ s.memory.caps.getD (p - 44) 0 * 10000 ≤ (s.port p).window)

/-- The next window of a BULK port begins (R462). -/
def bulkCapWindow (p : Nat) (s : State) : State :=
  if 44 ≤ p ∧ p ≤ 47 then s.mapPort p fun u => { u with window := 0 } else s

/-- BULK_CAP_WINDOW. -/
def execBulkCapWindow (p : Nat) (s : State) : Host.Outcome State Fault Refusal := .next (bulkCapWindow p s)

/-- How long a request of an age stood at each urgency (R461, R475). -/
def urgencyTimes (p age : Nat) : List Nat :=
  let t := portTarget p
  let upTo (q : Nat) : Nat := min age (q * t / 4)
  [upTo 1, upTo 2 - upTo 1, upTo 3 - upTo 2, age - upTo 3]

/-- A request of n bytes has been served at an age. -/
def PortUse.served (u : PortUse) (p n age : Nat) (write : Bool) : PortUse :=
  { u with
    read := u.read + (if write then 0 else n), written := u.written + (if write then n else 0)
    age := max u.age age, window := u.window + n
    urgency := List.zipWith (· + ·) u.urgency (urgencyTimes p age) }

/-! ## ECC and scrub (R466, R467) -/

/-- The stack of a device address. -/
def State.stackOf (s : State) (a : Nat) : Nat :=
  s.mapStacks.getD (decodeAddress s.mapStacks.length a).1 0

/-- A single-bit error is corrected and written back (R466). -/
def State.corrected (s : State) (a : Nat) : State :=
  let h := s.stackOf a
  let x := s.stack h
  ((s.setStack h { x with corrected := x.corrected + 1 }).raise .hbmEccCorrected (srcHbm h) (a / 256)).policyHit 3 h 1

/-- A word that cannot be corrected (R466): the event names its granule; 16 within a second fence the stack (R468). -/
def State.uncorrectable (s : State) (a : Nat) : State :=
  let h := s.stackOf a
  let x := s.stack h
  let recent := (x.recent.filter fun t => decide (s.time.dt < t + 1000000000)) ++ [s.time.dt]
  let s := s.setStack h { x with uncorrectable := x.uncorrectable + 1, recent }
  let s := (s.mapMemory fun m => { m with lastBad := some a }).raise .hbmEccUncorrectable (srcHbm h) (a / 256)
  if 16 ≤ recent.length then s.hardFault 4 h else s

/-- A late egress line of a destination is sent as black and counted with its number (R126). -/
def State.egressLate (s : State) (d line : Nat) : State :=
  s.setDest d { s.dest d with late := (s.dest d).late + 1, lateLine := line }

/-- A late line of a canvas's fetch or of its scan-out is finished as background, counted and raised (R237, R239). -/
def State.canvasLate (s : State) (c line : Nat) (scan : Bool) : State :=
  let x := s.canvas c
  if scan then (s.setCanvas c { x with scanLate := x.scanLate + 1 }).raiseAt .scanoutLateLine (srcCanvas c) x.tg line
  else (s.setCanvas c { x with lateLines := x.lateLines + 1 }).raiseAt .canvasLateLine (srcCanvas c) x.tg line

/-- What the reader of a poisoned word does (R466). -/
def State.poisoned (s : State) (a master : Nat) : Reader → State
  | .other => s
  | .egress d line => s.egressLate d line
  | .canvas c line scan => s.canvasLate c line scan
  | .pipe n =>
    let x := s.pipe n
    s.setPipe n { x with count := { x.count with captureLate := x.count.captureLate + 1 } }
  | .encInput n number du =>
    match s.enc n with
    | none => s
    | some e => s.setEnc n (e.mapPic number fun p => p.mapDu du fun d => { d with ready := false })
  | .encRef n =>
    match s.enc n with
    | none => s
    | some e => s.setEnc n { e with force := true }
  | .decRef n ctus =>
    match s.dec n with
    | none => s
    | some d => s.setDec n (d.mapHead fun p => { p with concealed := p.concealed + ctus })
  | .dejitter n ctus =>
    let s := s.decError n 1
    match s.dec n with
    | none => s
    | some d => s.setDec n (d.mapHead fun p => { p with concealed := p.concealed + ctus })
  | .packetiser n number du =>
    match s.enc n with
    | none => s
    | some e =>
      let f (d : Du) : Du :=
        { d with floored := ctuColumns e.codec e.raster * duCtuRows e.codec e.raster e.rateCode }
      s.setEnc n { (e.mapPic number fun p => p.mapDu du f) with nFloorDus := e.nFloorDus + 1 }
  | .audio e samples =>
    let x := s.audioSource e
    s.setAudioSource e { x with underrun := x.underrun + samples }
  | .journal page =>
    let f (p : Page) : Page := if p.index = page then { p with damaged := true } else p
    { s with journal := { s.journal with pages := s.journal.pages.map f } }
  | .pcie => s
  | .cvu n => if (s.cvu n).busy then s.scanEnd n 3 else s
  | .cpc => s.logFault a master 1 false

/-- HBM_READ_COMPLETE (R461, R466): a read of a port is served at an age, its errors corrected or its poisoned words
handled by the reader. A BULK port at its cap presents no candidate. -/
def hbmReadComplete (p addr len age : Nat) (corrected poisoned : List Nat) (reader : Reader) (s : State) : State :=
  if s.capReached p ∨ 48 ≤ p ∨ s.hbmEnd < addr + len then s
  else
    let s := s.mapPort p fun u => u.served p len age false
    let s := corrected.foldl (fun s a => s.corrected a) s
    poisoned.foldl (fun s a => (s.poisoned a 0 reader).uncorrectable a) s

/-- HBM_READ_COMPLETE. -/
def execHbmReadComplete (p addr len age : Nat) (corrected poisoned : List Nat) (reader : Reader) (s : State) :
    Host.Outcome State Fault Refusal := .next (hbmReadComplete p addr len age corrected poisoned reader s)

/-- Granules of the device address space. -/
def State.granules (s : State) : Nat := s.hbmEnd / 256

/-- A word that the scrub has corrected (R467): the third correction within 24 h records it for repair, 64 at most
(R477). -/
def State.weakWord (s : State) (a : Nat) : State :=
  let w := a / 8
  let keep := s.memory.weak.filter fun e => decide (s.time.dt ≤ e.2 + 86400 * 1000000000)
  let now := keep ++ [(w, s.time.dt)]
  let n := s.mapStacks.length
  let d := decodeAddress n (w * 8)
  let entry := (s.stackOf a, d.2.1, d.2.2)
  let record := decide (3 ≤ (now.filter fun e => e.1 == w).length) && !s.memory.repair.contains entry
    && decide (s.memory.repair.length < 64)
  s.mapMemory fun m => { m with weak := now, repair := if record then m.repair ++ [entry] else m.repair }

/-- SCRUB_READ (R467): the next granule of the pass; a pass ends after the last. -/
def scrubRead (corrected poisoned : List Nat) (s : State) : State :=
  if s.mapStacks.isEmpty then s
  else
    let next := if s.memory.scrubAt + 1 < s.granules then s.memory.scrubAt + 1 else 0
    let s := s.mapMemory fun m => { m with scrubAt := next }
    let s := corrected.foldl (fun s a => (s.corrected a).weakWord a) s
    poisoned.foldl (fun s a => s.uncorrectable a) s

/-- SCRUB_READ. -/
def execScrubRead (corrected poisoned : List Nat) (s : State) : Host.Outcome State Fault Refusal :=
  .next (scrubRead corrected poisoned s)

/-! ## SRAM banks (R473, R474) -/

/-- SRAM_BANK_WAKE (R473): a bank is awake and the accesses that it stalled proceed, each counted. -/
def sramBankWake (b stalled : Nat) (s : State) : State :=
  if s.memory.waking.contains b ∨ s.memory.retention.contains b then
    s.mapMemory fun m => { m with
      waking := m.waking.filter (· != b), retention := m.retention.filter (· != b)
      wakeStalls := (m.wakeStalls + stalled) % 2 ^ 64 }
  else s

/-- SRAM_BANK_WAKE. -/
def execSramBankWake (b stalled : Nat) (s : State) : Host.Outcome State Fault Refusal := .next (sramBankWake b stalled s)

/-- SRAM_ECC_UNCORRECTABLE (R474): a panel port fills the tiles that hold the word again; flattened images are rebuilt;
any other bank answers its master with an error that the fault log records. -/
def sramEccUncorrectable (b master addr : Nat) (write : Bool) (tiles : List Nat) (s : State) : State :=
  if 48 ≤ b then s
  else
    let e (m : Memory) : Memory := { m with sramErrors := tabPut m.sramErrors b (tabGet m.sramErrors b 0 + 1) }
    let s := s.mapMemory e
    let s :=
      if 8 ≤ b ∧ b ≤ 15 then
        let p := s.panel ((b - 8) / 4)
        s.setPanel ((b - 8) / 4) { p with dirty := p.dirty ++ tiles.filter fun t => !p.dirty.contains t }
      else if 16 ≤ b ∧ b ≤ 27 then
        let f (_ : Nat) (c : Canvas) : Canvas := if c.flat = .none then c else { c with flat := .building }
        { s with pictures := { s.pictures with canvases := tabMap f s.pictures.canvases } }
      else s.logFault addr master 1 write
    s.raise .sramEccUncorrectable srcDevice b

/-- SRAM_ECC_UNCORRECTABLE. -/
def execSramEccUncorrectable (b master addr : Nat) (write : Bool) (tiles : List Nat) (s : State) :
    Host.Outcome State Fault Refusal := .next (sramEccUncorrectable b master addr write tiles s)

/-! ## The aperture (R471) -/

/-- What a host write of one byte at a device address finds (R220, R471): 0 an IDLE surface, 1 a surface in use,
2 another address. -/
def State.apertureByte (s : State) (a : Nat) : Nat :=
  match s.surfaceAt a with
  | none => 2
  | some e => if e.2.state = .idle then 0 else 1

/-- Write the bytes that lie in IDLE surfaces, whose READY flags are cleared (R220). -/
def State.apertureBytes (s : State) (a : Nat) : Bytes → State
  | [] => s
  | b :: r =>
    let s := match s.surfaceAt a with
      | some e => if e.2.state = SurfState.idle then (s.writeHbm a [b]).setSurface e.1 { e.2 with ready := false } else s
      | none => s
    s.apertureBytes (a + 1) r

/-- APERTURE_WRITE (R220, R471): bytes in an IDLE surface are written; a surface in use drops them, counts the write and
raises SURFACE_WRITE_BLOCKED with the first address; at other addresses the write is dropped and counted, and one past the
device address space is a decode error (R458). -/
def apertureWrite (offset : Nat) (data : Bytes) (s : State) : State :=
  if s.capReached 44 ∨ 268435456 < offset + data.length ∨ !s.boot.pcieUp then s
  else
    let a := s.memory.aperture + offset
    let kinds := (List.range data.length).map fun i => s.apertureByte (a + i)
    let first := (List.range data.length).find? fun i => s.apertureByte (a + i) == 1
    let s' := (s.mapPort 44 fun u => u.served 44 data.length 0 true).apertureBytes a data
    let s' := match first with
      | none => s'
      | some i => match s'.surfaceAt (a + i) with
        | none => s'
        | some e => (s'.setSurface e.1 { e.2 with blocked := e.2.blocked + 1 }).raise .surfaceWriteBlocked (srcSurface e.1)
            ((a + i) % 2 ^ 32)
    let s' := if kinds.contains 2 then s'.mapMemory fun m => { m with blocked := (m.blocked + 1) % 2 ^ 64 } else s'
    if s.hbmEnd < a + data.length then s'.logFault offset 4 1 true else s'

/-- APERTURE_WRITE. -/
def execApertureWrite (offset : Nat) (data : Bytes) (s : State) : Host.Outcome State Fault Refusal :=
  .next (apertureWrite offset data s)

/-- APERTURE_READ (R471): surface bytes, whatever the surface's state; zero at other addresses. -/
def apertureRead (offset n : Nat) (s : State) : State :=
  if s.capReached 44 ∨ 268435456 < offset + n ∨ !s.boot.pcieUp then s
  else
    let a := s.memory.aperture + offset
    let at_ (i : Nat) : BitVec 8 := if (s.surfaceAt (a + i)).isSome then memGet s.memory.hbm (a + i) else 0
    let s' := (s.mapPort 44 fun u => u.served 44 n 0 false).returns ((List.range n).map at_)
    if s.hbmEnd < a + n then s'.logFault offset 4 1 false else s'

/-- APERTURE_READ. -/
def execApertureRead (offset n : Nat) (s : State) : Host.Outcome State Fault Refusal := .next (apertureRead offset n s)

/-! ## MEMORY_STATUS -/

/-- The state of an SRAM bank (R475). -/
def Memory.bankState (m : Memory) (b : Nat) : Nat := if m.waking.contains b then 2 else if m.retention.contains b then 1 else 0

/-- What MEMORY_STATUS returns (R475). -/
def memoryValues (s : State) : List Int :=
  let m := s.memory
  let stack (h : Nat) : List Int :=
    let x := s.stack h
    [b2n (s.present 4 h), b2n (s.fenced 4 h), x.temp, b2n x.doubled,
      ((x.banks.filter fun e => e.2.catchUp).length : Int), b2n x.rest.catchUp, x.corrected, x.uncorrectable, x.forced]
  let port (p : Nat) : List Int :=
    let u := s.port p
    ([u.read, u.written, u.age] ++ u.urgency : List Nat).map Int.ofNat
  ([(s.mapStacks.length : Int), (s.hbmEnd : Int)] : List Int) ++ (List.range 4).flatMap stack ++ (List.range 48).flatMap port
    ++ m.caps.map Int.ofNat ++ [(m.scrubPeriod : Int), m.scrubAt]
    ++ (List.range 48).flatMap (fun b => [(m.bankState b : Int), ((tabGet m.sramErrors b 0 : Nat) : Int)])
    ++ [(m.rmw : Int), m.rebuildFrames, m.blocked, m.wakeStalls]

/-- MEMORY_STATUS (R475). -/
def memoryStatus : Cmd where
  opcode := 0x0980
  run _ s := s.done (Config.layout 0x0980 (memoryValues s))

/-- MEMORY_STATUS. -/
def execMemoryStatus (r : Request) (s : State) : Host.Outcome State Fault Refusal := .next (memoryStatus.serve r s)

end Sys2Proof.Machine
end

