-- ==== Sys2Proof/Machine/Startup.lean ====
section
/-! DEFINITION. Start-up (R407 to R424): reset, the Nightlight map and its passes, PCIe, the boot chain, firmware start,
adoption, and restarts. -/

namespace Sys2Proof.Machine

/-- Change the start-up record. -/
def State.mapBoot (s : State) (f : Boot → Boot) : State := { s with boot := f s.boot }

/-- The first fault code of a start is kept (R418). -/
def Boot.note (b : Boot) (fault : Nat) : Boot := if b.fault = 0 then { b with fault } else b

/-! ## Reset (R424, R540) -/

/-- What MRAM keeps over a reset (R476), and the level of POWER_FAIL_N. -/
def Store.kept (t : Store) : Store :=
  { recs := t.recs, directory := t.directory, committed := t.committed, logHead := t.logHead, events := t.events
    counters := t.counters, wear := t.wear, powerLow := t.powerLow }

/-- The module in reset: what is left is the part, its fuses, MRAM, the external flash, the levels of its pins, and the
model's own queue and count of free values. -/
def State.cleared (s : State) : State :=
  { State.reset with
    part := s.part, pending := s.pending, freeCount := s.freeCount, store := s.store.kept
    lantern := { fuses := s.lantern.fuses, ballLow := s.lantern.ballLow }
    flash := { slots := s.flash.slots, active := s.flash.active }
    boot := { perstN := s.boot.perstN, railBad := s.boot.railBad } }

/-- A reset: a commit in progress is finished first (R560). -/
def State.resetNow (s : State) : State := (if s.store.commit.isSome then nvFlip s else s).cleared

/-- PORST_N is low for at least 10 µs (R424). -/
def porstAssert (s : State) : State := s.resetNow

/-- PORST_N_ASSERT. -/
def execPorstNAssert (s : State) : Host.Outcome State Fault Refusal := .next (porstAssert s)

/-- PORST_N rises (R407): times count from here. -/
def porstRelease (s : State) : State :=
  if s.boot.porstN then s else s.mapBoot fun b => { b with porstN := true, uptime := 0 }

/-- PORST_N_RELEASE. -/
def execPorstNRelease (s : State) : Host.Outcome State Fault Refusal := .next (porstRelease s)

/-- A rail other than VDD_AON leaves its tolerance for more than 10 µs while PORST_N is high: a reset (R559). -/
def railOut (s : State) : State :=
  if !s.boot.porstN then s else s.resetNow.mapBoot fun b => { b with porstN := true, railBad := true }

/-- RAIL_OUT_OF_TOLERANCE. -/
def execRailOutOfTolerance (s : State) : Host.Outcome State Fault Refusal := .next (railOut s)

/-- Every rail has been good for 1 ms with PORST_N high: the module starts (R559). -/
def railGood (s : State) : State :=
  if s.boot.porstN && s.boot.railBad then s.mapBoot fun b => { b with railBad := false, uptime := 0 } else s

/-- RAIL_GOOD_RESTART. -/
def execRailGoodRestart (s : State) : Host.Outcome State Fault Refusal := .next (railGood s)

/-! ## The Nightlight map (R409, R410) -/

/-- The sequencer accepts a map (R410). -/
def NlMap.valid (m : NlMap) : Bool :=
  m.crcOk && m.magic == 0x4E4C4D31 && m.version == 1 && m.length == 32 + 8 * m.quads.length + 16 * m.passes.length

/-- The family of a quad's record. -/
def NlMap.family (m : NlMap) (q : Nat) : Option Nat := (m.quads.find? fun e => e.1 == q).map (·.2)

/-- The lanes that a pass record names. -/
def PassRec.lanes (p : PassRec) : List Nat := [p.dest, p.primary] ++ (if p.backup = 0xFFFF then [] else [p.backup])

/-- The sequencer uses a pass record (R410). -/
def State.passUsable (s : State) (m : NlMap) (earlier : List Nat) (p : PassRec) : Bool :=
  let fam := m.family (p.dest / 4)
  p.lanes.all (fun n => s.present 1 n && m.family (n / 4) == fam) && fam.isSome && !earlier.contains p.dest
    && p.reserved == 0 && decide (p.flags < 8)

/-- A pass of a record (R413). -/
def PassRec.start (p : PassRec) : Pass :=
  { record := p, onBackup := false, lock1 := false, lock2 := false, switched := false, live := false, adopt := 0, follow := 0 }

/-- The passes that the sequencer brings up, in the order of the map (R410). -/
def State.mapPasses (s : State) (m : NlMap) : List Pass :=
  let step (a : List Pass × List Nat) (p : PassRec) : List Pass × List Nat :=
    (if s.passUsable m a.2 p then a.1 ++ [p.start] else a.1, p.dest :: a.2)
  (m.passes.foldl step ([], [])).1

/-- Lanes and quads as the sequencer sets them for its passes (R413). -/
def State.lightPass (s : State) (p : PassRec) : State :=
  let rx (flag seed : Nat) (l : Lane) : Lane :=
    { l with rxEn := true, rxIface := p.iface, state := .waitSignal, seed := some seed
             flags := (l.flags / 2 * 2) + b2n (bit p.flags flag) }
  let s := s.setLane p.primary (rx 1 p.seed1 (s.lane p.primary))
  let s := if p.backup = 0xFFFF then s else s.setLane p.backup (rx 2 p.seed2 (s.lane p.backup))
  let l := s.lane p.dest
  s.setLane p.dest { l with
    txEn := true, txIface := p.iface, swing := p.swing, pre := p.pre, post := p.post
    flags := l.flags % 2 + 2 * b2n (bit p.flags 0) + 4 * (l.flags / 4) }

/-- The quads of the map are allocated to SDI, and their QPLLs and SYSPLL lock (R407, R413). -/
def State.lightQuads (s : State) (m : NlMap) : State :=
  let s := s.setPll 0 { s.pll 0 with state := 2 }
  m.quads.foldl (fun s e => (s.setQuad e.1 { protocol := 1, mode := e.2 }).setPll (2 + e.1) { s.pll (2 + e.1) with state := 2 }) s

/-- Mark a copy of a record as MRAM reads it: its CRC is wrong (R480). -/
def Rec.spoil (r : Rec) (slotB : Bool) : Rec :=
  let f (c : Copy) : Copy := { c with ok := false }
  if slotB then { r with b := r.b.map f } else { r with a := r.a.map f }

/-- MRAM is readable (R407, R410): some copies read with a wrong CRC. The sequencer takes the current copy of the map and
brings up its passes. -/
def mramReadable (bad : List (Nat × Bool)) (s : State) : State :=
  if !s.boot.porstN || s.boot.railBad || s.boot.stage != 0 then s
  else
    let mark (t : Tab Rec) (e : Nat × Bool) : Tab Rec :=
      if tabHas t e.1 then tabPut t e.1 ((tabGet t e.1 {}).spoil e.2) else t
    let s := s.mapStore fun t => { t with recs := bad.foldl mark t.recs }
    match s.store.body 0x0002 with
    | some (.map m) =>
      if m.valid then
        let ps := s.mapPasses m
        let skip := decide (ps.length < m.passes.length)
        let s := (ps.foldl (fun s p => s.lightPass p.record) (s.lightQuads m)).mapBoot fun b => { b with
          stage := 2, map := some m, mapValid := true, passes := ps, skipped := skip }
        if skip then s.mapBoot fun b => b.note 2 else s
      else s.mapBoot fun b => ({ b with stage := 2, map := some m } : Boot).note 1
    | _ => s.mapBoot fun b => ({ b with stage := 2 } : Boot).note 1

/-- MRAM_READABLE. -/
def execMramReadable (bad : List (Nat × Bool)) (s : State) : Host.Outcome State Fault Refusal := .next (mramReadable bad s)

/-! ## Passes (R413, R414) -/

/-- Change the pass of a destination. -/
def State.mapPass (s : State) (d : Nat) (f : Pass → Pass) : State :=
  s.mapBoot fun b => { b with passes := b.passes.map fun p => if p.record.dest = d then f p else p }

/-- The pass of a destination. -/
def State.pass (s : State) (d : Nat) : Option Pass := s.boot.passes.find? fun p => p.record.dest == d

/-- The source lane that a pass uses. -/
def Pass.source (p : Pass) : Nat := if p.onBackup then p.record.backup else p.record.primary

/-- The selected source of a pass is locked. -/
def Pass.locked (p : Pass) : Bool := if p.onBackup then p.lock2 else p.lock1

/-- Passes currently live under Nightlight (R418 ID_BOOT_NL_LIVE). -/
def State.livePasses (s : State) : Nat := (s.boot.passes.filter fun p => p.live && p.locked).length

/-- A source of a pass locks (R413): the primary makes a new pass live. -/
def nightlightSourceLock (d : Nat) (backup : Bool) (s : State) : State :=
  match s.pass d with
  | none => s
  | some p =>
    let n := if backup then p.record.backup else p.record.primary
    if n = 0xFFFF then s
    else
      let f (l : Lane) : Lane := { l with
        state := .up, signal := true, cdrLock := true, frameLock := true, detIface := p.record.iface
        detFamily := (s.quad (n / 4)).mode, ctle := if backup then p.record.seed2 else p.record.seed1 }
      (s.setLane n (f (s.lane n))).mapPass d fun p =>
        if backup then { p with lock2 := true } else { p with lock1 := true, live := true }

/-- NIGHTLIGHT_SOURCE_LOCK. -/
def execNightlightSourceLock (d : Nat) (backup : Bool) (s : State) : Host.Outcome State Fault Refusal :=
  .next (nightlightSourceLock d backup s)

/-- The primary has not locked within 20 ms: a locked backup is chosen (R414). -/
def nightlightPrimaryTimeout (d : Nat) (s : State) : State :=
  match s.pass d with
  | none => s
  | some p => if p.live || p.lock1 || !p.lock2 then s else s.mapPass d fun p => { p with onBackup := true, live := true }

/-- NIGHTLIGHT_PRIMARY_TIMEOUT. -/
def execNightlightPrimaryTimeout (d : Nat) (s : State) : Host.Outcome State Fault Refusal := .next (nightlightPrimaryTimeout d s)

/-- The selected source of a pass has lost lock (R414): at most once, and never back, the pass switches to the other source when
that is locked; a hot cut. -/
def nightlightSourceSwitch (d : Nat) (s : State) : State :=
  match s.pass d with
  | none => s
  | some p =>
    if !p.live || !p.locked || s.fwRunning then s
    else
      let other := if p.onBackup then p.lock1 else p.lock2
      s.mapPass d fun p =>
        let p := if p.onBackup then { p with lock2 := false } else { p with lock1 := false }
        if other && !p.switched then { p with onBackup := !p.onBackup, switched := true } else p

/-- NIGHTLIGHT_SOURCE_SWITCH. -/
def execNightlightSourceSwitch (d : Nat) (s : State) : Host.Outcome State Fault Refusal := .next (nightlightSourceSwitch d s)

/-! ## PCIe (R415, R90, R560) -/

/-- The PCIe link reaches L0 (R415). -/
def pcieLinkUp (s : State) : State :=
  if !s.boot.porstN || s.boot.stage < 2 then s
  else s.mapBoot fun b => { b with perstN := true, pcieUp := true, stage := if b.stage = 2 then 3 else b.stage }

/-- PCIE_LINK_UP. -/
def execPcieLinkUp (s : State) : Host.Outcome State Fault Refusal := .next (pcieLinkUp s)

/-- A ring's control registers at reset, its counters kept (R540). -/
def Ring.controlReset (r : Ring) (k : Nat) : Ring :=
  { Ring.reset k with
    watermark := r.watermark, mask := r.mask, trace := r.trace, written := r.written, replaced := r.replaced
    dropped := r.dropped, held := r.held, signals := r.signals }

/-- A function-level reset (R90, R540): its sessions close, its mailboxes are at reset, its rings are disabled and its MSI-X
state is clear. Work that was accepted goes on. -/
def State.functionReset (s : State) (v : View) : State :=
  let own (k : Nat) : Bool := (v == .pf0) == decide (k < 16)
  let mine (r : Nat) : Bool := (v == .pf0) == decide (r ≤ 2)
  { s with
    ccp := { s.ccp with
      sessions := s.ccp.sessions.filter fun x => x.view != v
      mailboxes := s.ccp.mailboxes.filter fun e => !own e.1 }
    events := { s.events with
      rings := tabMap (fun k r => if mine k then r.controlReset k else r) s.events.rings
      msix := s.events.msix.filter fun e => (v == .pf0) != decide (e.1 < 64) } }

/-- FUNCTION_LEVEL_RESET (R90). -/
def execFunctionLevelReset (v : View) (s : State) : Host.Outcome State Fault Refusal := .next (s.functionReset v)

/-- PCIE_PERST_N is asserted (R560): the endpoint and both functions are reset. -/
def perstAssert (s : State) : State :=
  ((s.functionReset .pf0).functionReset .pf1).mapBoot fun b => { b with perstN := false, pcieUp := false }

/-- PCIE_PERST_N_ASSERT. -/
def execPciePerstNAssert (s : State) : Host.Outcome State Fault Refusal := .next (perstAssert s)

/-! ## The boot chain (R417, R441 to R443) -/

/-- A component of an image: its entry of the table and its bytes (R441). -/
def imageComponent (b : Bytes) (type : Nat) : Option (BitVec 384 × BitVec 384) :=
  let at_ := (List.range 8).find? fun i => u8 b (32 + 64 * i) == type
  at_.map fun i =>
    let o := 32 + 64 * i
    (Config.sha384 (slice b (u32 b (o + 4)) (u32 b (o + 8))), digestOf (slice b (o + 16) 48))

/-- What an image says (R441). -/
def Package.parse (b : Bytes) : Package :=
  let comps := [1, 2, 3, 4].map (imageComponent b)
  { magic := u32 b 0, format := u16 b 4, version := u16 b 8, commit := u16 b 10, authority := u8 b 12, signatures := u8 b 13
    build := u64 b 24, keyHash := Config.sha384 (slice b 544 2688)
    p384Ok := Config.ecdsaVerify (slice b 544 96) (Config.sha384 (slice b 0 3232)) (sigOf (slice b 3232 96))
    mldsaOk := Config.mldsaVerify (slice b 640 2592) (slice b 0 3232) (slice b 3328 4627)
    measured := comps.map fun c => (c.map (·.1)).getD 0
    hashOk := comps.map fun c => match c with
      | some x => x.1 == x.2
      | none => false
    header := Config.sha384 (slice b 0 3232), majors := Config.majorsOf (u64 b 24) }

/-- The header and stage 1 of a package verify (R443). -/
def State.stage1Ok (s : State) (p : Package) : Bool :=
  p.headerOk s.lantern.fuses && p.hashOk.headD false && p.versionOk s.lantern.fuses s.versionCounter

/-- The fault of a slot that fails (R443): IMAGE_ROLLBACK when only the version test failed. -/
def State.slotFault (s : State) (slot : Nat) (p : Option Package) : Nat :=
  let other := if slot = 0 then 5 else 6
  match p with
  | none => other
  | some p => if p.headerOk s.lantern.fuses && p.hashOk.all id && !p.versionOk s.lantern.fuses s.versionCounter then 7 else other

/-- Try a slot: its stage 1 starts, or its fault is noted (R443). -/
def State.trySlot (s : State) (slot : Nat) : State × Bool :=
  let p := (s.flash.slots[slot]?).getD none
  let s := { s with flash := { s.flash with tried := slot :: s.flash.tried } }
  if (p.map s.stage1Ok).getD false then ({ s with flash := { s.flash with trying := some slot } }, true)
  else (s.mapBoot fun b => b.note (s.slotFault slot p), false)

/-- Try the slots that have not been tried, the active one first; when none verifies, wait for an image (R417, R443). -/
def State.trySlots (s : State) (stage : Nat) : State :=
  let order := [s.flash.active, 1 - s.flash.active].filter fun k => !s.flash.tried.contains k
  let r := order.foldl (fun (a : State × Bool) k => if a.2 then a else a.1.trySlot k) (s, false)
  if r.2 then r.1.mapBoot fun b => { b with stage } else r.1.mapBoot fun b => { b with stage := 0x10 }

/-- LANTERN_SELF_TEST_DONE (R443, R450): the power-up tests, after which stage 1 is verified, or those of SELF_TEST_RUN. With
ZEROIZE_N low the Lantern is ZEROISING and the start waits (R560). -/
def lanternSelfTestDone (pass : Bool) (s : State) : State :=
  if s.lantern.state = 0 then
    if !s.boot.porstN || s.boot.stage != 3 then s
    else if !pass then s.lanternFail 1
    else
      let s := s.mapLantern fun l => { l with state := if l.ballLow then 2 else 1, lastTest := some s.time.dt }
      if s.lantern.state = 1 then s.trySlots 4 else s
  else if s.lantern.testing then s.selfTested pass
  else s

/-- LANTERN_SELF_TEST_DONE. -/
def execLanternSelfTestDone (pass : Bool) (s : State) : Host.Outcome State Fault Refusal := .next (lanternSelfTestDone pass s)

/-- ZEROISATION_COMPLETE (R453, R560): a start that waited for the ball goes on. -/
def zeroisationDone (s : State) : State :=
  let waited := s.lantern.state = 2 ∧ s.boot.stage = 3
  let s := zeroisationComplete s
  if waited then s.trySlots 4 else s

/-- ZEROISATION_COMPLETE. -/
def execZeroisationComplete (s : State) : Host.Outcome State Fault Refusal := .next (zeroisationDone s)

/-- The package that this start runs: of the slot being tried, or the image that was pushed. -/
def State.bootPackage (s : State) : Option Package :=
  match s.flash.trying with
  | none => none
  | some k => if k ≤ 1 then (s.flash.slots[k]?).getD none else s.flash.loaded.map (·.2)

/-- Stage 1 finds that a later component of its own package fails (R443): the Lantern starts the other slot. -/
def componentVerifyFailed (s : State) : State :=
  if s.boot.stage ≠ 4 ∧ s.boot.stage ≠ 5 then s
  else match s.flash.trying, s.bootPackage with
    | some k, some p =>
      if p.hashOk.all id then s
      else
        let s := s.mapBoot fun b => b.note (s.slotFault k (some p))
        ({ s with flash := { s.flash with trying := none } } : State).trySlots s.boot.stage
    | _, _ => s

/-- COMPONENT_VERIFY_FAILED. -/
def execComponentVerifyFailed (s : State) : Host.Outcome State Fault Refusal := .next (componentVerifyFailed s)

/-- The stacks that the standing configuration keeps out of the address map: those fenced by command or policy, but for
those that an UNIT_UNFENCE returns at this start (R468, R531). -/
def State.stacksOut (s : State) : List Nat :=
  match s.store.body 0x1000 with
  | some (.standing x) =>
    ((x.health.fences.filter fun f => f.cls == 4).map (·.idx)).filter fun h => !x.health.unfencing.contains h
  | _ => []

/-- HBM training ends (R419): the stacks that failed are fenced, the others enter the address map, and with none left the
stage is HBM_HALT. -/
def hbmTrained (failed : List Nat) (s : State) : State :=
  if s.boot.stage ≠ 4 then s
  else
    let here := (List.range 4).filter fun h => s.present 4 h && !s.stacksOut.contains h
    let fail := here.filter failed.contains
    let s := here.foldl (fun s h => s.setStack h { s.stack h with mapped := !failed.contains h }) s
    let fence (s : State) (h : Nat) : State :=
      let s := { s with health := { s.health with fences := s.health.fences ++ [(⟨4, h, 0⟩ : Fence)] } }
      ((s.raise .hbmStackFenced (srcHbm h)).raise .fenceApplied (srcHbm h) 0).mapBoot fun b => b.note 8
    let s := fail.foldl fence s
    s.mapBoot fun b => { b with stage := if s.mapStacks.isEmpty then 0x12 else 5, hbmTrained := true }

/-- HBM_TRAINED. -/
def execHbmTrained (failed : List Nat) (s : State) : Host.Outcome State Fault Refusal := .next (hbmTrained failed s)

/-- The answer of the boot mailbox to an image (R416): verified whole, it runs from step 5 of R407. -/
def State.pushImage (s : State) (k : Nat) (r : Request) : State :=
  let b := padTo (dmaRequestLen r.payload) r.dma.data
  let p := Package.parse b
  let inline_ := r.payload.drop (8 + 16 * (u16 r.payload 0 + u16 r.payload 2))
  if r.major != 0 || r.minor != 0 then s.refuse k r.view stBadVersion
  else if !(requestIsDma r && dmaValid r.payload && inline_.isEmpty && r.reserved == 0 && flagsValid r.flags.toNat
      && r.atFrame == 0 && r.atLine == 0 && r.group == 0) then s.refuse k r.view stBadArgument
  else if r.dma.readFails then (s.raise .ccpDmaFault (srcMailbox k)).refuse k r.view stInternalFault
  else if !s.verifies p then s.refuse k r.view stSecurity
  else
    let s := { s with
      flash := { s.flash with trying := some 2, loaded := some (2, p) }
      boot := { s.boot with stage := if s.boot.hbmTrained then 5 else 4 } }
    s.respond k { s.mailbox k with state := .done, jsn := 0, status := stOk, result := stOk, effect := none, payload := [] }

/-- BOOT_IMAGE_PUSH where firmware serves the mailbox: it is accepted at WAIT_IMAGE only (R416; log entry 49). -/
def bootImagePushRun : Cmd where
  opcode := 0x0D03
  dma := .required
  args _ _ := false
  run _ s := s.deny stBadArgument

/-- BOOT_IMAGE_PUSH (R416). -/
def bootImagePush (r : Request) (s : State) : State :=
  let k := mbKey r.view r.mailbox
  let m := s.mailbox k
  match s.service r.view r.mailbox with
  | .boot =>
    if s.boot.stage ≠ 0x10 ∨ r.view = .pf1 ∨ r.mailbox ≠ 0 then bootImagePushRun.serve r s
    else if m.state = .submitted ∧ m.request = some (0x0D03, r) then s.pushImage k r
    else if m.state = .submitted ∨ m.state = .accepted then s.busyRing k
    else (s.submit k 0x0D03 r).pushImage k r
  | _ => bootImagePushRun.serve r s

/-- BOOT_IMAGE_PUSH. -/
def execBootImagePush (r : Request) (s : State) : Host.Outcome State Fault Refusal := .next (bootImagePush r s)

end Sys2Proof.Machine
end

