-- ==== Sys2Proof/Machine/FirmwareStart.lean ====
section
/-! DEFINITION. From firmware start to full function (R419 to R423): the counters and records of MRAM as firmware finds them,
the standing configuration restored, the audit of the Nightlight map, the adoption of the passes, and DEVICE_RESTART. -/

namespace Sys2Proof.Machine

/-! ## Counters and records (R482, R487, R488) -/

/-- A counter with a cell taken as 0xFFFF (R488). -/
def spoiltCounter (v cell : Nat) : Nat :=
  let m := 2 ^ (16 * cell)
  v / (m * 65536) * (m * 65536) + 0xFFFF * m + v % m

/-- A cell of a counter whose inverse does not match is taken as 0xFFFF (R488). -/
def State.counterFault (s : State) (k cell : Nat) : State :=
  if 8 ≤ k ∨ 4 ≤ cell then s
  else
    let v := spoiltCounter (s.store.counters.getD k 0) cell
    (s.mapStore fun t => { t with counters := t.counters.set k v }).raise .nvCounterFault (srcStore k) k

/-- The records that firmware looks for (R477); the standing configuration is one (log entry 42). -/
def recordIds : List Nat :=
  [1, 2, 3, 4] ++ (List.range 8).map (0x10 + ·) ++ [0x18, 0x19, 0x1A] ++ [0x1000]

/-- The IDs that one record of the model stands for. -/
def recordNames (id : Nat) : List Nat := if id = 0x1000 then (List.range 103).map (0x1000 + ·) else [id]

/-- NV_RECORD_LOST of every record without a valid copy (R482). -/
def State.tellLost (s : State) : State :=
  let lost := recordIds.filter fun id => (s.store.body id).isNone
  (lost.flatMap recordNames).foldl (fun s id =>
    (s.mapStore fun t => { t with lost := (t.lost + 1) % 2 ^ 64 }).raise .nvRecordLost (srcStore id) id) s

/-- NV_RECORD_CONFLICT of every record whose valid copies share a sequence and differ (R481). -/
def State.tellConflicts (s : State) : State :=
  let ids := recordIds.filter fun id => (s.store.rec_ id).conflict s.store.committed
  ids.foldl (fun s id =>
    (s.mapStore fun t => { t with
      conflicted := t.conflicted ++ [id], conflicts := (t.conflicts + 1) % 2 ^ 64 }).raise .nvRecordConflict (srcStore id) id) s

/-- The current copy of a Lantern record fails its HMAC (R434, R436). -/
def State.spoilHmac (s : State) (id : Nat) : State :=
  let f (c : Copy) : Copy := { c with hmacOk := false }
  let g (r : Rec) : Rec := match r.currentA s.store.committed with
    | some true => { r with a := r.a.map f }
    | some false => { r with b := r.b.map f }
    | none => r
  if 0x10 ≤ id ∧ id ≤ 0x1A ∧ (s.store.body id).isSome then
    (s.mapStore fun t => { t with recs := tabPut t.recs id (g (t.rec_ id)) }).raise .lanternRecordInvalid srcLantern id
  else s

/-- The register lock at start (R436): that of its record; locked when its HMAC fails; a lost record is empty. -/
def State.lockAtStart (s : State) : Bool :=
  match (s.store.rec_ 0x1A).current s.store.committed with
  | none => false
  | some c => !c.hmacOk || (match c.body with
    | .lock on => on
    | _ => false)

/-! ## The journal at start (R95, R100, R102) -/

/-- A new epoch begins with its JOURNAL_START, whose genesis block links it to the last seal in MRAM. -/
def State.startJournal (s : State) : State :=
  let anchor := match s.store.body 0x0003 with
    | some (.anchor _ _ _ _ j h) => (j, h)
    | _ => (0, 0)
  let standing := match s.store.body 0x0001 with
    | some (.marker j) => j
    | _ => 0
  let j : Journal :=
    { epoch := s.store.counters.getD 1 0 % 2 ^ 24, lastSealJsn := anchor.1, lastSealHash := anchor.2
      standingJsn := standing, standingQueued := standing }
  { s with journal := j.startChain 0 s.time.dt }

/-! ## The standing configuration (R106) -/

/-- A timing group as restored: TG0 goes on, another enabled group starts once its RSYN is locked (R42). -/
def Tg.restored (old : Tg) (g : Nat) (t : Tg) : Tg :=
  if g = 0 then
    { old with raster := t.raster, rate := t.rate, phaseOffset := t.phaseOffset, dusk := t.dusk, jump := t.jump
               pos := if old.raster = t.raster ∧ old.rate = t.rate then old.pos else ⟨old.pos.frame, 1, 0⟩ }
  else { t with enabled := false, starting := t.enabled, state := .disabled }

/-- House time as restored. -/
def State.restoreTime (s : State) (x : Time) : State :=
  let acquire (c : Cand) : Cand := { c with state := .acquiring }
  let t := s.time
  s.setTime { t with
    cands := x.cands.map acquire, revertHold := x.revertHold, polarity := x.polarity, ptpDomain := x.ptpDomain
    refState := if x.cands.isEmpty then t.refState else .acquiring
    groups := x.groups.map fun e : Nat × Tg => (e.1, (tabGet t.groups e.1 (Tg.reset e.1)).restored e.1 e.2) }

/-- The PLLs as restored: SYSPLL, FPLL, the QPLLs of allocated quads, RSYN0 and the ASYNs are locked; the RSYN of a group that
starts acquires. -/
def State.restoreClocks (s : State) (x : Clocks) (quads : Tab Quad) : State :=
  let set (st : Nat) (s : State) (p : Nat) : State :=
    let y : Pll := tabGet x.plls p (Pll.reset p)
    s.setPll p { y with state := st }
  let s := x.plls.foldl (fun s e => s.setPll e.1 { e.2 with state := (s.pll e.1).state }) s
  let s := { s with clocks := { s.clocks with amclk := x.amclk } }
  let used := (quads.filter fun e => e.2.protocol != 0).map fun e => 2 + e.1
  let groups := (List.range 8).filter fun g => g != 0 && (s.tg g).starting
  (groups.map (38 + ·)).foldl (set 1) (([0, 1] ++ used ++ [38, 46, 47, 48, 49]).foldl (set 2) s)

/-- A lane that a pass uses keeps what runs; its settings are those restored. -/
def Lane.keepPass (l x : Lane) : Lane :=
  { l with rxEn := l.rxEn || x.rxEn, txEn := l.txEn || x.txEn, rxIface := x.rxIface, txIface := x.txIface, rxFixed := x.rxFixed
           rxRaster := x.rxRaster, rxRate := x.rxRate, eqMode := x.eqMode, rxLinks := x.rxLinks, txLinks := x.txLinks
           ctleSet := x.ctleSet, flags := x.flags, pre := x.pre, post := x.post, swing := x.swing }

/-- The lanes of the passes. -/
def State.passLanes (s : State) : List Nat := s.boot.passes.flatMap fun p => p.record.lanes

/-- Quads and lanes as restored: the lanes of passes go on, the others train. -/
def State.restoreLanes (s : State) (x : Lanes) : State :=
  let held := s.passLanes
  let s := x.quads.foldl (fun s e => s.setQuad e.1 e.2) s
  let s := x.lanes.foldl (fun s e => s.setLane e.1 (if held.contains e.1 then (s.lane e.1).keepPass e.2 else e.2)) s
  let s := { s with lanes := { s.lanes with links := x.links } }
  s.restartLanes ((x.lanes.map (·.1)).filter fun n => !held.contains n)

/-- Inputs and flows as restored: a source begins in the input state it has at reset, a transmit flow waits for a frame. -/
def State.restoreSignals (s : State) (x : Signals) : State :=
  let input (n : Nat) (i : Input) : Input :=
    { Input.reset n with filterMode := i.filterMode, filter := i.filter, events := i.events }
  let tx (_ : Nat) (f : Flow) : Flow := { f with waiting := f.enabled }
  { s with signals := { s.signals with
      inputs := tabMap input x.inputs, rx := x.rx, tx := tabMap tx x.tx, settings := x.settings, ports := x.ports
      utcOffset := x.utcOffset } }

/-- A MOTION conversion as restored takes a core, or falls back (R201, R202). -/
def State.restoreMotion (s : State) (n : Nat) : State :=
  let p := s.pipe n
  if !(p.enabled && p.method == 2) then s
  else match s.motionCore n p.cfg s.time.dt with
    | some k => (s.setPipe n { p with core := some k }).settleCores p.tg
    | none => s.pipeFallBack n 2

/-- Pipes, canvases and panel ports as restored. -/
def State.restorePictures (s : State) (x : Standing) : State :=
  let s := { s with
    conversion := x.conversion
    pictures := { s.pictures with canvases := x.pictures.canvases }
    panels := x.panels }
  let s := (s.conversion.pipes.map (·.1)).foldl State.restoreMotion s.flattenBanks
  (s.panels.ports.filter fun e => e.2.enabled).foldl (fun s e => s.enablePanel e.1 e.2.cfg) s

/-- The audio router as restored: TDM ports and rings start at the next block, MCLK outputs after their time low. -/
def State.restoreAudio (s : State) (x : Audio) : State :=
  let tdm (_ : Nat) (t : Tdm) : Tdm := { next := if t.cfg.isEmpty then none else some t.cfg }
  let ring (_ : Nat) (r : AudioRing) : AudioRing := { next := if r.cfg.isEmpty then none else some r.cfg }
  let mclk (_ : Nat) (m : Mclk) : Mclk := { next := some m.multiple }
  { s with audio := { x with tdm := tabMap tdm x.tdm, rings := tabMap ring x.rings, mclk := tabMap mclk x.mclk } }

/-- The fences of the standing configuration stand again, but for those of stacks that return at this start (R468, R531). -/
def State.restoreHealth (s : State) (x : Health) : State :=
  let keep := x.fences.filter fun f => !(f.cls == 4 && x.unfencing.contains f.idx) && !s.health.fencedSelf f.cls f.idx
  { s with health := { s.health with fences := s.health.fences ++ keep, policies := x.policies } }

/-- The standing configuration is restored (R420). -/
def State.restore (s : State) (x : Standing) : State :=
  let s := (s.restoreHealth x.health).restoreTime x.time
  let s := (s.restoreClocks x.clocks x.lanes.quads).restoreLanes x.lanes
  let s := (s.restoreSignals x.signals).restorePictures x
  let s := { s with routing := x.routing }
  let s := s.restoreAudio x.audio
  let s := if x.cascade.cfg.isEmpty then s else applyCascade x.cascade.cfg s
  let s := s.mapCascade fun c => { c with exports_ := x.cascade.exports_ }
  let s := if s.fencedCount = 0 then s else s.raise .deviceDimmed srcDevice s.fencedCount
  s.refreshSyncs

/-! ## The audit of the map (R420) -/

/-- The state by which firmware derives the map at start: a source lane that is not up is taken to carry the interface that the
used map recorded for it, or else the one it is configured for (log entry 49). -/
def State.auditView (s : State) (m : NlMap) : State :=
  let told (n : Nat) : Option Nat := (m.passes.find? fun p => p.primary == n || p.backup == n).map (·.iface)
  let f (n : Nat) (l : Lane) : Lane :=
    if l.state = Train.up then l
    else { l with detIface := (told n).getD l.rxIface, detFamily := (s.quad (n / 4)).mode }
  { s with lanes := { s.lanes with lanes := tabMap f s.lanes.lanes } }

/-- A pass record without its equaliser seeds. -/
def PassRec.plain (p : PassRec) : PassRec := { p with seed1 := 0, seed2 := 0 }

/-- The audit (R420): NIGHTLIGHT_MAP_MISMATCH for each destination whose records differ, and the derived map is committed. -/
def State.auditMap (s : State) : State :=
  let used : NlMap := if s.boot.mapValid then s.boot.map.getD {} else {}
  let m := (s.auditView used).deriveMap s.journal.standingQueued
  let a := used.passes.map PassRec.plain
  let b := m.passes.map PassRec.plain
  let odd := ((a.filter fun p => !b.contains p) ++ (b.filter fun p => !a.contains p)).map (·.dest)
  if odd.isEmpty then s
  else
    let s := odd.eraseDups.foldl (fun s d => s.raise .nightlightMapMismatch (srcDestination d)) s
    s.gather [gatheredOf s.journal.standingQueued 0x0002 (.map m)]

/-! ## FIRMWARE_START (R407 step 5, R420) -/

/-- The package that firmware starts from is recorded (R443, R446, R547). -/
def State.runPackage (s : State) (p : Package) : State :=
  let key := if s.lantern.fuses.decommissioned then none else some (p.version, p.authority)
  (s.mapLantern fun l => { l with running := some p, attest := key }).mapBoot fun b =>
    { b with fwBuild := p.build, fwSvn := p.version, majors := p.majors }

/-- CPC firmware starts: counters, journal, records and the standing configuration; the operands say which Lantern records
fail their HMAC and which counter cells their inverse. -/
def firmwareStart (badHmac : List Nat) (badCells : List (Nat × Nat)) (s : State) : State :=
  match s.boot.stage, s.bootPackage with
  | 5, some p =>
    if !p.hashOk.all id then s
    else
      let s := (s.mapBoot fun b => { b with stage := 6 }).runPackage p
      let s := badCells.foldl (fun s e => s.counterFault e.1 e.2) s
      let s := s.raiseCounter 0 (s.store.counters.getD 0 0 + 1)
      let s := (s.raiseCounter 1 (s.store.counters.getD 1 0 + 1)).startJournal
      let s := (badHmac.eraseDups.foldl State.spoilHmac s.tellLost).tellConflicts
      let s := { s with regs := { s.regs with lock := s.lockAtStart } }
      let repair := match s.store.body 0x0004 with
        | some (.repair l) => l
        | _ => []
      let s := { s with memory := { s.memory with repair } }
      let s := match s.store.body 0x1000 with
        | some (.standing x) => s.restore x
        | _ => s.restoreClocks {} []
      s.auditMap
  | _, _ => s

/-- FIRMWARE_START. -/
def execFirmwareStart (badHmac : List Nat) (badCells : List (Nat × Nat)) (s : State) : Host.Outcome State Fault Refusal :=
  .next (firmwareStart badHmac badCells s)

/-! ## FULL_FUNCTION (R407 step 6) -/

/-- Full function: the device state is RUNNING or DIMMED, and the security-version counter follows the running package
(R445). -/
def fullFunction (s : State) : State :=
  if s.boot.stage ≠ 6 then s
  else ((s.mapBoot fun b => { b with stage := 7 }).raiseVersion).refreshSyncs.tellTallies

/-- FULL_FUNCTION. -/
def execFullFunction (s : State) : Host.Outcome State Fault Refusal := .next (fullFunction s)

/-! ## Adoption (R421, R422) -/

/-- How a destination's pass is adopted (R421): 0 lane path kept, 1 clean adoption to the stream path, 2 hot cut. -/
def State.adoptKind (s : State) (p : Pass) : Nat :=
  let x := s.dest p.record.dest
  if x.source ≠ p.source then 2 else if x.lane then 0 else 1

/-- The synchroniser of a destination's source has selected a complete frame (R150, R421). -/
def State.syncSelected (s : State) (d : Nat) : Bool :=
  let x := s.dest d
  !s.inLoss x.source && (tabGet s.signals.syncs (x.source * 8 + x.tg) {}).pos.isSome

/-- Lines that a JUMP adds to the last frame of the follow raster, and the join: within one luma sample period the destination
joins at once (R422). -/
def State.beginFollow (s : State) (d : Nat) (lines : Int) (within : Bool) : State :=
  if within then s.endPass d
  else s.mapPass d fun p => { p with adopt := 1, follow := lines }

/-- A live pass is adopted (R421): the operands give the wrapped error of its follow raster in lines, and whether it is at most
one luma sample period. The clean adoption waits until the source's synchroniser has selected a complete frame. -/
def nightlightAdopt (d : Nat) (lines : Int) (within : Bool) (s : State) : State :=
  match s.pass d with
  | none => s
  | some p =>
    let k := s.adoptKind p
    let x := s.dest d
    if s.boot.stage ≠ 7 || !p.live || p.adopt != 0 || (k == 1 && !s.syncSelected d) then s
    else
      let s := s.logAction 0x0008 (le 2 d ++ le 2 x.source ++ le 1 k ++ zeros 3)
      let s := s.raise .nightlightAdopted (srcDestination d) k
      match k with
      | 0 => s.endPass d
      | 1 => s.beginFollow d lines within
      | _ => (s.putRoute d x.source x.lane x.noFollow).refreshSyncs

/-- NIGHTLIGHT_ADOPT. -/
def execNightlightAdopt (d : Nat) (lines : Int) (within : Bool) (s : State) : Host.Outcome State Fault Refusal :=
  .next (nightlightAdopt d lines within s)

/-- The follow raster moves by one line at a frame of the group under SLEW, or at once under JUMP (R53, R54, R422). -/
def State.followFrame (s : State) (g : Nat) : State :=
  let jump := (s.tg g).jump
  let move (n : Int) : Int := if jump then 0 else if 0 < n then n - 1 else if n < 0 then n + 1 else 0
  s.mapBoot fun b => { b with passes := b.passes.map fun p =>
    if p.adopt = 1 ∧ s.destGroup p.record.dest = g then { p with follow := move p.follow } else p }

/-- The follow raster has reached the phase of the group (R422): the destination joins. -/
def adoptionJoin (d : Nat) (s : State) : State :=
  match s.pass d with
  | none => s
  | some p => if p.adopt = 1 ∧ p.follow = 0 then s.endPass d else s

/-- ADOPTION_JOIN. -/
def execAdoptionJoin (d : Nat) (s : State) : Host.Outcome State Fault Refusal := .next (adoptionJoin d s)

/-! ## DEVICE_RESTART (R424) -/

/-- DEVICE_RESTART: the OUTCOME, the commit and DONE; the restart follows at the next idle step (log entry 49). -/
def deviceRestart : Cmd where
  opcode := 0x0B04
  shape := exactly 8 [(1, 7)]
  args c _ := decide (u8 c.args 0 ≤ 1)
  run c s := (s.mapBoot fun b => { b with restart := some (u8 c.args 0) }).done

/-- DEVICE_RESTART. -/
def execDeviceRestart (r : Request) (s : State) : Host.Outcome State Fault Refusal := .next (deviceRestart.serve r s)

/-- Everything that waits for a commit is committed at once (R424 step 2). -/
def State.commitAll (s : State) : State :=
  let t := s.store
  let waiting := (t.commit.toList.flatMap fun c => c.entries) ++ t.buffer ++ t.queue.flatMap fun u => u.entries
  if waiting.isEmpty || t.powerLow then s
  else
    let s := s.mapStore fun t => { t with commit := none, buffer := [], oldest := none, queue := [], waiting := false }
    nvFlip (s.nvBegin (mergeEntries [] waiting) t.serial false false)

/-- The current map's passes are made live (R424, R425): those of the committed map, whose sources carry signal as they did. -/
def State.passesLive (s : State) : List Pass :=
  match s.store.body 0x0002 with
  | some (.map m) => m.passes.map fun p =>
    let l1 := (s.lane p.primary).state == Train.up
    let l2 := p.backup != 0xFFFF && (s.lane p.backup).state == Train.up
    { p.start with lock1 := l1, lock2 := l2, onBackup := !l1 && l2, live := l1 || l2 }
  | _ => []

/-- The restart of a DEVICE_RESTART (R424): FULL as after PORST_N, KEEP_NIGHTLIGHT with the lanes and the lane crosspoint held
out of the reset and the current map's passes live. -/
def State.restartNow (s : State) (mode : Nat) : State :=
  let s := s.commitAll
  let t := s.resetNow
  if mode = 0 then t.mapBoot fun b => { b with porstN := true, warm := true }
  else
    let pll := s.clocks.plls.filter fun e => e.1 == 0 || (decide (2 ≤ e.1) && decide (e.1 ≤ 37))
    let t := { t with lanes := s.lanes, clocks := { t.clocks with plls := pll } }
    let map := match s.store.body 0x0002 with
      | some (.map m) => some m
      | _ => none
    t.mapBoot fun b => { b with
      porstN := true, warm := true, stage := 2, map, mapValid := map.isSome, passes := s.passesLive }

/-- What the block does when no command waits: a restart that was asked for, or a nanosecond of its clocks (log entry 4);
nothing after a thermal trip (R534). -/
def State.idle (s : State) : State :=
  if s.health.tripped then s
  else match s.boot.restart with
  | some m => s.restartNow m
  | none => s.tick

end Sys2Proof.Machine
end

