-- ==== Sys2Proof/Machine/Rings.lean ====
section
/-! DEFINITION. The event rings' own rows: enabling and disabling (R549), the consumer index (R549),
moderation (R94), coalescing windows (R520), summaries and held CRITICAL records (R522). -/

namespace Sys2Proof.Machine

/-- A ring of the state; 4 is the boot buffer (R524). -/
def State.ring (s : State) (r : Nat) : Ring :=
  if r = 4 then s.events.boot else tabGet s.events.rings r (Ring.reset r)

/-- Store a ring. -/
def State.setRing (s : State) (r : Nat) (x : Ring) : State :=
  if r = 4 then { s with events := { s.events with boot := x } }
  else { s with events := { s.events with rings := tabPut s.events.rings r x } }

/-- Which function owns a ring: PF0 the rings 0 to 2, PF1 ring 3 (R91); writes of the other function
are ignored (R541). -/
def ownsRing (v : View) (r : Nat) : Bool :=
  match v with
  | .pf0 => decide (r ≤ 2)
  | .pf1 => r == 3

/-- The settings of a ring meet R91. -/
def Ring.settingsOk (r : Ring) : Bool :=
  decide (6 ≤ r.sizeLog ∧ r.sizeLog ≤ 16 ∧ r.base % 4096 = 0 ∧ r.writeback % 4096 = 0)

/-- Send one record of the boot buffer to the rings, flagged FROM_BOOT_BUFFER (R524). -/
def Events.fromBoot (ev : Events) (e : EventRec) : Events :=
  (ev.route .pf0 e).foldl (fun ev r => ev.toRing r { e with flags := e.flags ||| 8 }) ev

/-- Empty the boot buffer into the rings, in order (R419, R524): its records, its held records, and
what its summaries still count. -/
def Events.flushBoot (ev : Events) : Events :=
  let b := ev.boot
  let es := keepLast b.fill b.records ++ b.queue ++ b.slots
  let ev := { ev with toBoot := false, boot := { b with
    consumer := b.producer, records := [], queue := [], slots := [], summaries := [], holding := false } }
  let ev := es.foldl Events.fromBoot ev
  let r := tabGet ev.rings 1 (Ring.reset 1)
  { ev with rings := tabPut ev.rings 1 { r with
      summaries := b.summaries.foldl (fun l x => addSummary l x.cls x.severity x.dropped x.count)
        r.summaries } }

/-- A write of 1 to EVR_ENABLE (R549): the settings are checked; then the producer takes the
consumer's value and the ring starts, and the boot buffer empties. -/
def evrEnable (v : View) (r : Nat) (s : State) : State :=
  let x := s.ring r
  if !ownsRing v r || x.enabled then s
  else if x.settingsOk then
    let s := s.setRing r { x with enabled := true, producer := x.consumer, backIndex := x.consumer }
    if s.events.toBoot then { s with events := s.events.flushBoot } else s
  else s.setRing r { x with configError := true }

/-- EVR_ENABLE. -/
def execEvrEnable (v : View) (r : Nat) (s : State) : Host.Outcome State Fault Refusal :=
  .next (evrEnable v r s)

/-- Clearing EVR_ENABLE (R549). -/
def evrDisable (v : View) (r : Nat) (s : State) : State :=
  if ownsRing v r then s.setRing r { s.ring r with enabled := false } else s

/-- EVR_DISABLE. -/
def execEvrDisable (v : View) (r : Nat) (s : State) : Host.Outcome State Fault Refusal :=
  .next (evrDisable v r s)

/-- A consumer value is valid: not above the producer, nor below the producer less the size (R549). -/
def Ring.consumerOk (r : Ring) (value : Nat) : Bool :=
  decide (value < 2 ^ 32 ∧ (r.producer + 2 ^ 32 - value) % 2 ^ 32 ≤ r.size)

/-- A write of the consumer index (R549). -/
def evrConsumer (v : View) (r value : Nat) (s : State) : State :=
  let x := s.ring r
  if !ownsRing v r then s
  else if x.consumerOk value then s.setRing r { x with consumer := value }
  else s.setRing r { x with consumerInvalid := true }

/-- EVR_CONSUMER_WRITE. -/
def execEvrConsumerWrite (v : View) (r value : Nat) (s : State) : Host.Outcome State Fault Refusal :=
  .next (evrConsumer v r value s)

/-- A write of EVR_MODERATION (R94): out of range it is ignored as a whole and sets
EVR_CONFIG_ERROR. -/
def evrModeration (v : View) (r count holdoff : Nat) (s : State) : State :=
  let x := s.ring r
  if !ownsRing v r then s
  else if 1 ≤ count ∧ count ≤ 1024 ∧ holdoff ≤ 1000 then
    s.setRing r { x with modCount := count, holdoff }
  else s.setRing r { x with configError := true }

/-- EVR_MODERATION_WRITE. -/
def execEvrModerationWrite (v : View) (r count holdoff : Nat) (s : State) :
    Host.Outcome State Fault Refusal := .next (evrModeration v r count holdoff s)

/-- The holdoff since the first unsignalled record has passed: the vector is sent (R94). -/
def holdoffExpiry (r : Nat) (s : State) : State :=
  let x := s.ring r
  if r < 4 ∧ 0 < x.unsignalled ∧ 0 < x.holdoff then
    let s := s.setRing r { x with unsignalled := 0, signals := x.signals + 1 }
    { s with events := { s.events with msix := msixSignal s.events.msix (ringVector r) } }
  else s

/-- MODERATION_HOLDOFF_EXPIRY. -/
def execModerationHoldoffExpiry (r : Nat) (s : State) : Host.Outcome State Fault Refusal :=
  .next (holdoffExpiry r s)

/-- A DMA write to a ring or its write-back address fails: EVR_ENABLE is cleared and EVR_DMA_FAULT set,
and the record is handled as for a full ring (R549). -/
def State.ringFault (s : State) (r : Option Nat) : State :=
  match r with
  | none => s
  | some r =>
    let x := s.ring r
    if r < 4 ∧ x.enabled then s.setRing r { x with enabled := false, dmaFault := true } else s

/-- The record a closed window writes (R520). -/
def Window.record (w : Window) : EventRec :=
  { w.last with count := min 65535 w.count, flags := 2 + (if 65535 < w.count then 4 else 0) }

/-- A coalescing window of 100 ms closes: with further occurrences, one coalesced record is written (R520). -/
def windowClose (n : EventName) (src : Src) (failRing : Option Nat) (s : State) : State :=
  match s.events.windows.find? fun w => w.name == n && w.src == src with
  | none => s
  | some w =>
    if s.time.dt < w.opened + 100000000 then s
    else
      let ev := { s.events with
        windows := s.events.windows.filter fun x => !(x.name == n && x.src == src) }
      let s := { s with events := ev }
      if w.count = 0 then s
      else
        let s := s.ringFault failRing
        { s with events := s.events.send .pf0 w.record }

/-- COALESCE_WINDOW_CLOSE. -/
def execCoalesceWindowClose (n : EventName) (src : Src) (failRing : Option Nat) (s : State) :
    Host.Outcome State Fault Refusal := .next (windowClose n src failRing s)

/-- The EVENT_SUMMARY record of a count (R522). -/
def Summary.record (x : Summary) (dt : Nat) : EventRec :=
  { name := .eventSummary, severity := x.severity, src := ⟨x.cls, 0xFFFF⟩, count := min 65535 x.count, dt
    frame := 0, line := 0, tg := 0xFF, flags := 1, detail := x.count % 2 ^ 32 }

/-- Write the summaries of a ring that its admission lets through; the others keep accumulating. A
summary of dropped records waits until the fill is below 15/16 (R522). -/
def Ring.writeSummaries (r : Ring) (dt : Nat) : List Summary → Ring × Nat
  | [] => (r, 0)
  | x :: xs =>
    let ok := r.verdict x.severity == .written && (!x.dropped || decide (r.fill * 16 < r.size * 15))
    if ok then
      let y := (r.write (x.record dt)).writeSummaries dt xs
      (y.1, y.2 + 1)
    else
      let y := r.writeSummaries dt xs
      ({ y.1 with summaries := x :: y.1.summaries }, y.2)

/-- Summaries of a ring are written (R522). -/
def eventSummary (r : Nat) (failRing : Bool) (s : State) : State :=
  let s := if failRing then s.ringFault (some r) else s
  let x := s.ring r
  let y := ({ x with summaries := [] }).writeSummaries s.time.dt x.summaries
  let s := s.setRing r y.1
  { s with events := { s.events with
    summariesWritten := s.events.summariesWritten + y.2
    msix := if r < 4 ∧ x.signals < y.1.signals then msixSignal s.events.msix (ringVector r)
      else s.events.msix } }

/-- EVENT_SUMMARY. -/
def execEventSummary (r : Nat) (failRing : Bool) (s : State) : Host.Outcome State Fault Refusal :=
  .next (eventSummary r failRing s)

/-- The coalescing slot of the lowest code (R522). -/
def lowestSlot : List EventRec → Option EventRec
  | [] => none
  | e :: r =>
    match lowestSlot r with
    | none => some e
    | some f => if f.name.code f.name.family < e.name.code e.name.family then some f else some e

/-- The oldest held CRITICAL record is written as space frees: the queue first, then the coalescing
slots in ascending code order (R522). -/
def heldWrite (r : Nat) (failRing : Bool) (s : State) : State :=
  let s := if failRing then s.ringFault (some r) else s
  let x := s.ring r
  if x.verdict 0 ≠ .written then s
  else
    let y : Ring := match x.queue with
      | e :: q => ({ x with queue := q }).write e
      | [] =>
        match lowestSlot x.slots with
        | none => x
        | some e => ({ x with slots := x.slots.filter fun f => f.name != e.name }).write e
    let y := { y with holding := !(y.queue.isEmpty && y.slots.isEmpty) }
    let s := s.setRing r y
    if r < 4 ∧ x.signals < y.signals then
      { s with events := { s.events with msix := msixSignal s.events.msix (ringVector r) } }
    else s

/-- HELD_CRITICAL_WRITE. -/
def execHeldCriticalWrite (r : Nat) (failRing : Bool) (s : State) : Host.Outcome State Fault Refusal :=
  .next (heldWrite r failRing s)

end Sys2Proof.Machine
end

