-- ==== Sys2Proof/Machine/Update.lean ====
section
/-! DEFINITION. Live firmware replacement (R113 to R116): an image loaded and verified, the swap, its end and its failure; and
the background work that CMD_COMPLETE ends (R68). -/

namespace Sys2Proof.Machine

/-! ## FIRMWARE_LOAD -/

/-- Change what firmware update holds. -/
def State.mapFlash (s : State) (f : Flash → Flash) : State := { s with flash := f s.flash }

/-- FIRMWARE_LOAD (R113): target (u8: 0 the inactive slot, 1 none, the image is taken from host memory) and 7 reserved bytes
(log entry 50); the image is its request data. -/
def firmwareLoad : Cmd where
  opcode := 0x0D01
  dma := .required
  shape := exactly 8 [(1, 7)]
  args c _ := decide (u8 c.args 0 ≤ 1)
  run c s := s.pend c 0x0D01 (c.args ++ c.data)

/-- FIRMWARE_LOAD. -/
def execFirmwareLoad (r : Request) (s : State) : Host.Outcome State Fault Refusal := .next (firmwareLoad.serve r s)

/-- The image has been written and the Lantern has verified it under R442, or not. -/
def State.imageLoaded (s : State) (j : Job) : State :=
  let p := Package.parse (j.args.drop 8)
  let slot := if u8 j.args 0 = 0 then 1 - s.flash.active else 2
  let ok := s.lantern.state == 1 && s.verifies p
  let f (x : Flash) : Flash :=
    { x with slots := if slot = 2 then x.slots else x.slots.set slot (some p)
             loaded := if ok then some (slot, p)
               else if (x.loaded.map (·.1)) = some slot then none else x.loaded }
  (s.mapFlash f).complete j (if ok then stOk else stSecurity) [] false

/-! ## CMD_COMPLETE -/

/-- The background work of a command ends (R68): an image is loaded (R113), or fuses read back correctly (R438). The other
commands that answer PENDING end with the row that ends their work. -/
def cmdComplete (jsn : Nat) (s : State) : State :=
  match s.jobOf jsn with
  | none => s
  | some j =>
    if j.opcode = 0x0D01 then s.imageLoaded j
    else if burns j.opcode then s.burned j
    else s

/-- CMD_COMPLETE. -/
def execCmdComplete (jsn : Nat) (s : State) : Host.Outcome State Fault Refusal := .next (cmdComplete jsn s)

/-! ## FIRMWARE_ACTIVATE -/

/-- The verified image that a slot names (R113, R444). -/
def State.verified (s : State) (slot : Nat) : Option Package :=
  match s.flash.loaded with
  | some (k, p) => if k = slot ∧ s.lantern.state = 1 ∧ s.verifies p then some p else none
  | none => none

/-- FIRMWARE_ACTIVATE (R113): slot (u8: 0 or 1 a flash slot, 2 host memory) and 7 reserved bytes (log entry 50); at a Dusk line
of TG0. -/
def firmwareActivate : Cmd where
  opcode := 0x0D02
  timed := true
  shape := exactly 8 [(1, 7)]
  args c _ := decide (u8 c.args 0 ≤ 2)
  run c s :=
    match s.verified (u8 c.args 0) with
    | none => s.deny stSecurity
    | some p =>
      if s.journal.swapJsn.isSome then s.deny stUnitBusy
      else
        let a := s.schedule c 0x0D02 .dusk 0 c.args [] (fun _ => true)
        if openStatus a.status then
          { a with state := { a.state with
              journal := { a.state.journal with swapJsn := some c.jsn }
              flash := { a.state.flash with next := some (u8 c.args 0, p) } } }
        else a

/-- FIRMWARE_ACTIVATE. -/
def execFirmwareActivate (r : Request) (s : State) : Host.Outcome State Fault Refusal := .next (firmwareActivate.serve r s)

/-- The SRAM banks of a firmware slot (R472). -/
def firmwareBanks (y : Bool) : List Nat := (List.range 8).map ((if y then 32 else 0) + ·)

/-- The swap begins (R114, R116): SWAP_BEGIN, the commit of the gather buffer, the OUTCOME, and from here doorbells are
refused. -/
def State.beginSwap (s : State) (e : Sched) : State :=
  let s := ((s.logDevice 0x0002 []).nvStart).effected e 1 false
  let s := s.wakeBanks (firmwareBanks (!s.flash.sramY))
  { s with
    journal := { s.journal with swapping := true, swapJsn := none }
    flash := { s.flash with previous := s.lantern.running, swapAt := some s.time.dt } }

/-! ## SWAP_END and the watchdog -/

/-- Entries logged by hardware during a swap, in the order of their DT (R115). -/
def mergeLogs : Nat → List Entry → List Entry → List Entry
  | 0, a, b => a ++ b
  | _ + 1, [], b => b
  | _ + 1, a, [] => a
  | n + 1, x :: a, y :: b => if x.dt ≤ y.dt then x :: mergeLogs n a (y :: b) else y :: mergeLogs n (x :: a) b

/-- The firmware that takes over journals the logged decisions and effects, with their own DT (R115). -/
def State.drainLogs (s : State) : State :=
  let j := s.journal
  let l := mergeLogs (j.decisionLog.length + j.effectLog.length) j.decisionLog j.effectLog
  let lost := j.decisionsLost
  let s := { s with journal := { j with decisionLog := [], effectLog := [], decisionsLost := 0 } }
  let s := l.foldl State.log s
  if lost = 0 then s else (s.logDevice 0x000A (le 4 lost)).raise .journalDecisionsLost (srcStore 0xFFFF) lost

/-- The CMD_COMPLETE events owed from before the swap (R89). -/
def State.payOwed (s : State) : State :=
  let owed := s.ccp.owed
  let s := { s with ccp := { s.ccp with owed := [] } }
  owed.foldl (fun s o => match s.ccp.cache.find? fun e => e.jsn == o.1 with
    | some e => s.raiseCmd .cmdComplete e.view o.1 o.2 e.effect
    | none => s) s

/-- The end of a swap, by either image (R115, R116): its entry, and what waited for firmware. -/
def State.closeSwap (s : State) (action : Nat) : State :=
  let s := s.drainLogs.logDevice action []
  let s := { s with
    journal := { s.journal with swapping := false }
    flash := { s.flash with next := none, previous := none, swapAt := none } }
  s.drainWrites.payOwed

/-- SWAP_END (R114 to R116, R445, R446): the new firmware runs from its slot; the operand says whether the state it rebuilt
differs from the standing configuration. -/
def swapEnd (mismatch : Bool) (s : State) : State :=
  match s.journal.swapping, s.flash.next with
  | true, some (slot, p) =>
    let s := if mismatch then s.raise .standingMismatch srcDevice else s
    let s := ((s.runPackage p).closeSwap 0x0003).raiseVersion
    let y := s.flash.sramY
    (s.mapFlash fun f => { f with
      active := if slot ≤ 1 then slot else f.active, loaded := none, sramY := !y }).retainBanks (firmwareBanks y)
  | _, _ => s

/-- SWAP_END. -/
def execSwapEnd (mismatch : Bool) (s : State) : Host.Outcome State Fault Refusal := .next (swapEnd mismatch s)

/-- No SWAP_END within 1.5 s: the previous image writes SWAP_FAILED and resumes (R116). -/
def swapWatchdog (s : State) : State :=
  if s.journal.swapping then
    let y := s.flash.sramY
    ((s.closeSwap 0x0004).raise .fwSwapFailed srcDevice).retainBanks (firmwareBanks (!y))
  else s

/-- SWAP_WATCHDOG_EXPIRY. -/
def execSwapWatchdogExpiry (s : State) : Host.Outcome State Fault Refusal := .next (swapWatchdog s)

/-! ## FIRMWARE_STATUS -/

/-- What FIRMWARE_STATUS gives: the running build and versions, the active slot, the packages of the slots, the verified image
and whether a swap is scheduled. -/
def firmwareValues (s : State) : List Int :=
  let slot (p : Option Package) : List Nat := match p with
    | some p => [1, p.version, p.commit, p.build]
    | none => [0, 0, 0, 0]
  let loaded := match s.flash.loaded with
    | some (k, _) => k + 1
    | none => 0
  ([s.boot.fwBuild, s.boot.fwSvn, s.flash.active] ++ s.flash.slots.flatMap slot
    ++ [loaded, b2n (s.verified (loaded - 1)).isSome, s.journal.swapJsn.getD 0] : List Nat).map Int.ofNat

/-- FIRMWARE_STATUS (R83). -/
def firmwareStatus : Cmd where
  opcode := 0x0D80
  run _ s := s.done (Config.layout 0x0D80 (firmwareValues s))

/-- FIRMWARE_STATUS. -/
def execFirmwareStatus (r : Request) (s : State) : Host.Outcome State Fault Refusal := .next (firmwareStatus.serve r s)

/-! ## The Nightlight commands (R412) -/

/-- NIGHTLIGHT_POLICY_SET (R412): at acceptance, standing. -/
def nightlightPolicySet : Cmd where
  opcode := 0x0904
  shape := exactly 8 [(3, 5)]
  args c s := decide (u16 c.args 0 < 144 ∧ u8 c.args 2 ≤ 1) && s.present 1 (u16 c.args 0)
  run c s :=
    let d := u16 c.args 0
    if s.fenced 1 d then s.deny stUnitFenced
    else (s.setDest d { s.dest d with nightlight := u8 c.args 2 }).done [] true

/-- NIGHTLIGHT_POLICY_SET. -/
def execNightlightPolicySet (r : Request) (s : State) : Host.Outcome State Fault Refusal :=
  .next (nightlightPolicySet.serve r s)

/-- A map with its CRC-32C, over the whole map with the field taken as zero (R409). -/
def NlMap.image (m : NlMap) : Bytes := m.bytes (crc32c (m.bytes 0))

/-- NIGHTLIGHT_MAP_READ (R412): the map as committed, then the map derived now, by DMA where the command asks for it
(log entry 49). -/
def nightlightMapRead : Cmd where
  opcode := 0x0981
  dma := .optional
  run c s :=
    let committed := match s.store.body 0x0002 with
      | some (.map m) => m.image
      | _ => []
    let all := committed ++ (s.deriveMap s.journal.standingQueued).image
    if c.dma then { s.done with out := all } else s.done all

/-- NIGHTLIGHT_MAP_READ. -/
def execNightlightMapRead (r : Request) (s : State) : Host.Outcome State Fault Refusal :=
  .next (nightlightMapRead.serve r s)

end Sys2Proof.Machine
end

