-- ==== Sys2Proof/Machine/Thermal.lean ====
section
/-! DEFINITION. The thermal policy (R425, R426, R533 to R535) and the health commands: EVENT_ROUTE_SET, HEALTH_STATUS and
EVENT_CATALOGUE (R519, R523). -/

namespace Sys2Proof.Machine

/-! ## Steps (R533) -/

/-- Change the health record. -/
def State.mapHealth (s : State) (f : Health → Health) : State := { s with health := f s.health }

/-- Thermal steps in force at a temperature in 0.1 °C (R533). -/
def stepsAt (tj : Int) : Nat := if tj < 1000 then 0 else ((tj - 1000) / 20).toNat + 1

/-- The entry temperature of a step, in 0.1 °C. -/
def stepEntry (n : Nat) : Int := 980 + 20 * n

/-- The DEVICE entry THERMAL_STEP (R97). -/
def State.thermalEntry (s : State) (direction retreat : Nat) : State :=
  s.logAction 0x0007 (le 1 s.health.steps ++ le 1 direction ++ le 1 retreat ++ zeros 1 ++ le 2 (ofSigned 16 s.health.tj)
    ++ zeros 2)

/-- The steps in force change: THERMAL_STEP and its entry (R533). -/
def State.setSteps (s : State) (n direction retreat : Nat) : State :=
  let s := s.mapHealth fun h => { h with steps := n }
  (s.raise .thermalStep srcDevice (n + ofSigned 16 s.health.tj * 256)).thermalEntry direction retreat

/-! ## Retreat (R425, R535) -/

/-- The units that retreat stops: synchronisers, conversion pipes, panel ports and coding cores. -/
def State.stopMedia (s : State) : State :=
  let pipe (_ : Nat) (p : Pipe) : Pipe := { p with stored := [], out := .black, core := none }
  let panel (_ : Nat) (p : Panel) : Panel := { p with pushing := [], pushTiles := [], script := [], resetHigh := false }
  let enc (_ : Nat) (e : Enc) : Enc :=
    if e.closed || e.stopped then e else { e with stopped := true, moving := false, pics := [], nStops := e.nStops + 1 }
  let dec (_ : Nat) (d : Dec) : Dec :=
    if d.state == DecState.stopped then d
    else { d with state := .stopped, moving := false, pics := [], held := 0, nStops := d.nStops + 1 }
  { s with
    signals := { s.signals with syncs := [] }
    conversion := { s.conversion with pipes := tabMap pipe s.conversion.pipes }
    panels := { s.panels with ports := tabMap panel s.panels.ports }
    coding := { s.coding with encs := tabMap enc s.coding.encs, decs := tabMap dec s.coding.decs, modes := [], returning := [] } }

/-- The current map's passes are made live; a destination on the stream path becomes a pass as a hot cut, and existing
lane-path routes stay. -/
def State.retreatPasses (s : State) : State :=
  let ps := s.passesLive.filter fun p => p.live && !(s.dest p.record.dest).lane
  let s := s.mapBoot fun b => { b with passes := ps }
  ps.foldl (fun s p =>
    let d := p.record.dest
    (s.setDest d { s.dest d with hotCut := true }).raiseAt .routeHotCut (srcDestination d) (s.destGroup d)) s

/-- The device enters thermal retreat (R425): an adoption in progress is abandoned, and AUTO_FENCE tests end (R535). -/
def State.retreat (s : State) : State :=
  let s := (s.cutTests.retreatPasses).stopMedia
  let s := s.mapBoot fun b => { b with stage := 0x13, retreat := true }
  s.raise .thermalRetreat srcDevice (ofSigned 16 s.health.tj)

/-- A sample of Tj (R533): steps are entered as it rises, and at 110 °C the device enters retreat. -/
def thermalSample (tj : Int) (s : State) : State :=
  let s := s.mapHealth fun h => { h with tj, tjPeak := max h.tjPeak tj }
  let n := stepsAt tj
  if !s.fwRunning || decide (n ≤ s.health.steps) then s
  else
    let enter := decide (1100 ≤ tj) && s.boot.stage == 7
    let s := s.setSteps n 1 (b2n enter)
    if enter then s.retreat else s

/-- THERMAL_SAMPLE. -/
def execThermalSample (tj : Int) (s : State) : Host.Outcome State Fault Refusal := .next (thermalSample tj s)

/-- Tj has stayed at least 1 °C below the entry temperature of the highest step for 1 s: the step is left (R533). -/
def thermalStepLeft (s : State) : State :=
  let n := s.health.steps
  if !s.fwRunning || n == 0 || decide (stepEntry n - 10 < s.health.tj) then s else s.setSteps (n - 1) 0 0

/-- THERMAL_STEP_LEFT. -/
def execThermalStepLeft (s : State) : Host.Outcome State Fault Refusal := .next (thermalStepLeft s)

/-- Tj has stayed at or below 100 °C for 10 s (R426): the stopped units start again on the standing configuration, and the
passes are adopted. -/
def thermalRetreatExit (s : State) : State :=
  if !s.boot.retreat || s.health.tripped || decide (1000 < s.health.tj) then s
  else
    let s := (s.mapBoot fun b => { b with stage := 7, retreat := false }).thermalEntry 0 2
    let s := (s.conversion.pipes.map (·.1)).foldl State.restoreMotion s
    let s := (s.panels.ports.filter fun e => e.2.enabled).foldl (fun s e => s.enablePanel e.1 e.2.cfg) s
    s.refreshSyncs.tellTallies

/-- THERMAL_RETREAT_EXIT. -/
def execThermalRetreatExit (s : State) : Host.Outcome State Fault Refusal := .next (thermalRetreatExit s)

/-- Tj is at 120 °C or above (R534): hardware raises and stages THERMAL_TRIP, disables every lane transmitter, stops the clock
domains and asserts THERM_TRIP_N. -/
def thermalTrip (tj : Int) (s : State) : State :=
  if s.health.tripped || !s.boot.porstN || decide (tj < 1200) then s
  else
    let s := s.mapHealth fun h => { h with tj, tjPeak := max h.tjPeak tj, trips := h.trips + 1 }
    let s := (s.raise .thermalTrip srcDevice (ofSigned 16 tj)).mapHealth fun h => { h with tripped := true }
    s.mapBoot fun b => { b with passes := [], pcieUp := false }

/-- THERMAL_TRIP. -/
def execThermalTrip (tj : Int) (s : State) : Host.Outcome State Fault Refusal := .next (thermalTrip tj s)

/-! ## EVENT_ROUTE_SET, HEALTH_STATUS, EVENT_CATALOGUE -/

/-- EVENT_ROUTE_SET (R523): at acceptance; routing is not standing. -/
def eventRouteSet : Cmd where
  opcode := 0x0B05
  shape := exactly 8 [(3, 1)]
  args c _ := decide (u8 c.args 0 ≤ 2 ∧ 50 ≤ u8 c.args 1 ∧ u8 c.args 1 ≤ 90 ∧ u8 c.args 2 < 32)
  run c s :=
    let k := u8 c.args 0
    (s.setRing k { s.ring k with watermark := u8 c.args 1, mask := u8 c.args 2, trace := u32 c.args 4 }).done

/-- EVENT_ROUTE_SET. -/
def execEventRouteSet (r : Request) (s : State) : Host.Outcome State Fault Refusal := .next (eventRouteSet.serve r s)

/-- What HEALTH_STATUS gives (R523): the counters of each ring by severity, and the rate-limited records of each source
class. -/
def healthValues (s : State) : List Int :=
  let ring (k : Nat) : List Nat :=
    let r : Ring := s.ring k
    r.written ++ r.replaced ++ r.dropped ++ r.held
  (((List.range 4).flatMap ring) ++ s.events.unrouted
    ++ (List.range 24).map fun c => tabGet s.events.rateLimited c 0).map Int.ofNat

/-- HEALTH_STATUS (R523). -/
def healthStatus : Cmd where
  opcode := 0x0B80
  run _ s := s.done (Config.layout 0x0B80 (healthValues s))

/-- HEALTH_STATUS. -/
def execHealthStatus (r : Request) (s : State) : Host.Outcome State Fault Refusal := .next (healthStatus.serve r s)

/-- The events of the catalogue. -/
def eventNames : List EventName :=
  [.cmdComplete, .cmdEffect, .eventSummary, .fenceApplied, .fenceReleased, .deviceDimmed, .deviceRestored,
   .unitTestFailed, .fencedEffectSkipped, .thermalStep, .thermalRetreat, .thermalTrip, .eventPendingCritical,
   .alignMemberAsync, .aoXoLost, .asrcExhausted, .audioBurstSlip, .audioSyncChanged, .canvasCommitExpired,
   .canvasLateLine, .cascadeIdentityConflict, .cascadePathChanged, .cascadeTimeRole, .cascadeTopology, .ccpDmaFault,
   .ccpDoorbellBusy, .ccpMailboxTimeout, .ccpPrivilegeRefused, .clockLost, .codingChannelStopped, .cvuMismatch,
   .cvuScanDone, .decodeError, .decodeHolding, .decodeRecovered, .dtStepped, .exactRangeExceeded, .flowLegLost,
   .formatChanged, .frameError, .fwSwapFailed, .glint, .hbmEccCorrected, .hbmEccUncorrectable, .hbmStackFenced,
   .headerTaskLate, .inputLoss, .inputRestored, .journalDecisionsLost, .journalUnsealed, .laneDown, .laneFailed,
   .laneHiBer, .laneSkewExceeded, .laneUp, .lanternAuthLockout, .lanternError, .lanternFuseFault,
   .lanternRecordInvalid, .lanternZeroised, .mirrorClear, .mirrorMismatch, .mirrorNoSignal, .nightlightAdopted,
   .nightlightMapMismatch, .nvCounterFault, .nvRecordConflict, .nvRecordLost, .nvWearWarning, .panelTeLost,
   .panelTeRestored, .partnerLost, .pipeCropInvalid, .pipeDelayChanged, .pipeMethodFallback, .pipeMethodRestored,
   .pllFailed, .pllGlideRefused, .pllLockLost, .pllRelocked, .powerFailAsserted, .rateChanged, .rateOutOfRange,
   .rcInputMissing, .rcPictureFloored, .refreshCatchup, .refreshForced, .refLost, .routeHotCut, .scanoutLateLine,
   .sramEccUncorrectable, .standingMismatch, .streamKeyExpired, .streamKeyRekeyDue, .surfaceLost,
   .surfaceWriteBlocked, .sysXoLost, .tallyChanged, .tgJump, .tgRealign, .ttcHeaderInvalid, .ttcTileError,
   .watchFailover, .watchNoCandidate, .watchReturn, .watchSuspended, .zeroizeGlitch]

/-- The code and severity of every event, and the build whose firmware raises them. -/
def catalogueValues (s : State) : List Int :=
  (s.boot.fwBuild :: eventNames.flatMap fun n => [n.code n.family, n.severity]).map Int.ofNat

/-- EVENT_CATALOGUE (R519): for every event its code, name, severity, source class and the meaning of its detail; the spec gives
no layout. -/
def eventCatalogue : Cmd where
  opcode := 0x0B81
  dma := .required
  run _ s := { s.done with out := Config.layout 0x0B81 (catalogueValues s) }

/-- EVENT_CATALOGUE. -/
def execEventCatalogue (r : Request) (s : State) : Host.Outcome State Fault Refusal := .next (eventCatalogue.serve r s)

end Sys2Proof.Machine
end

