-- ==== Sys2Proof/Machine/Time.lean ====
section
/-! DEFINITION. Family 0x02 of the command protocol without the clocks (R41 to R43, R576), and the
happenings of house time: Sync messages (R574), lock, loss and revert hold (R40), 1PPS edges (R33), the
start of an enabled group (R42). -/

namespace Sys2Proof.Machine

/-! ## REFERENCE_SET -/

/-- Candidate entry i of a REFERENCE_SET (R41). -/
def candEntry (p : Bytes) (i : Nat) : Cand :=
  let o := 8 + 8 * i
  { kind := u8 p o, transport := u8 p (o + 1), port := u16 p (o + 2), vlan := u16 p (o + 4)
    raster := u8 p (o + 6), rate := u8 p (o + 7), state := .acquiring, lockedAt := 0, good := 0, bad := 0 }

/-- Two candidates are equal in every field of the entry (R41). -/
def Cand.sameEntry (a b : Cand) : Bool :=
  a.kind == b.kind && a.transport == b.transport && a.port == b.port && a.vlan == b.vlan
    && a.raster == b.raster && a.rate == b.rate

/-- A candidate entry is valid (R41). -/
def candValid (s : State) (c : Cand) : Bool :=
  match c.kind with
  | 1 => decide (c.transport ≤ 1 ∧ c.vlan ≤ 4094) && c.raster == 0 && c.rate == 0
      && s.ethernetPort c.port
  | 2 => c.transport == 0 && c.vlan == 0 && c.raster == 0 && c.rate == 0 && s.present 1 c.port
      && (tabGet s.lanes.quads (c.port / 4) {}).protocol == 1
  | 3 => c.transport == 0 && c.port == 0 && c.vlan == 0 && formatValid c.raster c.rate
  | 4 => c.transport == 0 && c.port == 0 && c.vlan == 0 && c.raster == 0 && c.rate == 0
  | _ => false

/-- No two candidates of a list are equal. -/
def distinctCands : List Cand → Bool
  | [] => true
  | c :: r => !(r.any c.sameEntry) && distinctCands r

/-- The candidates of a REFERENCE_SET. -/
def newCands (p : Bytes) : List Cand := (List.range (u8 p 0)).map (candEntry p)

/-- The arguments of REFERENCE_SET (R41). -/
def referenceValid (p : Bytes) (s : State) : Bool :=
  let n := u8 p 0
  let cs := newCands p
  decide (n ≤ 3 ∧ u8 p 1 < 8 ∧ u16 p 2 ≤ 600 ∧ u8 p 4 ≤ 127)
    && zeroAt p (8 + 8 * n) (24 - 8 * n) && cs.all (candValid s) && distinctCands cs
    && !(cs.any (·.kind == 3) && cs.any (·.kind == 4))

/-- A new list keeps the lock state of the candidates it keeps; a change of PTP domain or of REF
polarity restarts those it bears on (R41). -/
def keepCand (old : List Cand) (ptpRestart refRestart : Bool) (c : Cand) : Cand :=
  if (c.kind == 1 && ptpRestart) || ((c.kind == 3 || c.kind == 4) && refRestart) then c
  else (old.find? fun o => o.sameEntry c).getD c

/-- REFERENCE_SET takes effect (R41): selection is made at once; a phase that only the reference's own
raster tells is a free value (log entry 3). -/
def applyReference (p : Bytes) (s : State) : State :=
  let t := s.time
  let ptpRestart := u8 p 4 != t.ptpDomain
  let refRestart := u8 p 1 != t.polarity
  let cs := (newCands p).map (keepCand t.cands ptpRestart refRestart)
  let sel : Option Nat := match t.selected.bind fun i => t.cands[i]? with
    | none => none
    | some c =>
      let i := cs.findIdx fun x => x.sameEntry c && x.state == .locked
      if i < cs.length then some i else none
  let s := s.setTime { t with
    cands := cs, revertHold := if u16 p 2 = 0 then 10 else u16 p 2, polarity := u8 p 1
    ptpDomain := u8 p 4 }
  let pick := ({ s.time with selected := sel } : Time).choose
  if pick = sel ∧ sel ≠ none then s.setTime { s.time with selected := sel }
  else
    let ext := (List.range 8).map fun g => (Config.freeValue (s.freeCount + g) : Int)
    let rate := match pick.bind fun i => cs[i]? with
      | some c => s.sdiRate c.port
      | none => 0
    ({ s with freeCount := s.freeCount + 8 }).takeSelection pick none rate ext

/-- REFERENCE_SET (R41). -/
def referenceSet : Cmd where
  opcode := 0x0201
  shape := exactly 48 [(5, 3), (32, 16)]
  args c s := referenceValid c.args s
  run c s := (applyReference c.args s).done [] true

/-- REFERENCE_SET. -/
def execReferenceSet (r : Request) (s : State) : Host.Outcome State Fault Refusal :=
  .next (referenceSet.serve r s)

/-! ## TIMING_GROUP_SET -/

/-- The phase offset of a payload is in the range of R37: -1/2 frame (inclusive) to +1/2 frame
(exclusive). -/
def phaseValid (raster rate : Nat) (o : Int) : Bool :=
  let n : Int := totalLines raster * samplesPerLine raster rate
  decide (-n ≤ 2 * o ∧ 2 * o < n)

/-- The arguments of TIMING_GROUP_SET (R42, R44). -/
def timingGroupValid (c : Ctx) (s : State) : Bool :=
  let p := c.args
  let g := u8 p 0
  let en := u8 p 1
  decide (g < 8 ∧ en ≤ 1 ∧ u8 p 9 ≤ 1) && formatValid (u8 p 2) (u8 p 3)
    && phaseValid (u8 p 2) (u8 p 3) (i32 p 4) && duskValid (u8 p 2) (duskOf (u8 p 8))
    && (g != 0 || en == 1)
    && (if en == 1 && (s.tg g).enabled then c.atNames g
        else c.req.atFrame == 0 && c.req.atLine == 0 && c.req.group == 0)

/-- The parameters of a payload on a group. -/
def Tg.withParams (t : Tg) (p : Bytes) : Tg :=
  { t with raster := u8 p 2, rate := u8 p 3, phaseOffset := i32 p 4, dusk := duskOf (u8 p 8)
           jump := u8 p 9 == 1 }

/-- A payload changes nothing of a group but its re-alignment setting. -/
def Tg.sameParams (t : Tg) (p : Bytes) : Bool :=
  t.raster == u8 p 2 && t.rate == u8 p 3 && t.phaseOffset == i32 p 4 && t.dusk == duskOf (u8 p 8)

/-- Disable a group (R42). -/
def State.disableGroup (s : State) (g : Nat) : State :=
  let t := s.tg g
  (s.setTg g { t with enabled := false, starting := false, state := .disabled, pos := ⟨0, 1, 0⟩, frac := 0
                      phaseError := 0, slewLines := 0, lastJump := false, jumpNow := false
                      jumpLines := 0, jumpNext := 0, lineDt := [] })

/-- TIMING_GROUP_SET (R42): re-alignment at acceptance; an enabled group's other settings at the frame
start after the governing Dusk line, when they change; enabling waits for RSYN; disabling is at once. -/
def timingGroupSet : Cmd where
  opcode := 0x0202
  timed := true
  shape := exactly 16 [(10, 6)]
  args := timingGroupValid
  run c s :=
    let p := c.args
    let g := u8 p 0
    let t := s.tg g
    if u8 p 1 = 0 then
      if s.groupBusy g then s.deny stUnitBusy
      else
        let s := s.disableGroup g
        (s.setPll (rsyn g) { s.pll (rsyn g) with state := 0 }).done [] true
    else if t.enabled && t.sameParams p && !s.waitsOn 0x0202 (fun q => u8 q 0 == g) then
      (s.setTg g { t with jump := u8 p 9 == 1 }).done [] true (s.effectNow g)
    else if t.enabled then
      (s.setTg g { t with jump := u8 p 9 == 1 }).schedule c 0x0202 .frameStart g p [] (fun _ => true)
    else
      let s := s.setTg g { t.withParams p with starting := true }
      (s.setPll (rsyn g) { s.pll (rsyn g) with state := 1 }).done [] true

/-- TIMING_GROUP_SET. -/
def execTimingGroupSet (r : Request) (s : State) : Host.Outcome State Fault Refusal :=
  .next (timingGroupSet.serve r s)

/-- The settings of a TIMING_GROUP_SET take effect at a frame start of its enabled group. A change of
format re-enables the group (R35, R38, R39): by Glide it starts its new epoch here, by Eclipse its
TG_ENABLE_START row starts it. A new phase offset re-aligns it (R42, R52). Answers whether the command
has taken effect whole. -/
def applyTimingGroup (e : Sched) (ext : Int) (s : State) : State × Bool :=
  let p := e.args
  let g := u8 p 0
  let t := s.tg g
  let t' := t.withParams p
  if t.raster = t'.raster ∧ t.rate = t'.rate then
    let s := s.setTg g { t' with jump := t.jump }
    let s := if t.phaseOffset = t'.phaseOffset ∨ s.time.refState ≠ .locked then s
      else s.realign g ((s.tg g).wrap (match s.time.selected.bind fun i => s.time.cands[i]? with
        | some c => s.phaseErrorOf c (c.frameRate (s.sdiRate c.port)) (List.replicate 8 ext) g
        | none => 0)) false
    (s, true)
  else
    let s := s.noteDts g t e.jsn
    let near := lineRateNear t t'
    let a := frameFraction t.raster t.rate
    let b := frameFraction t'.raster t'.rate
    let x : Int := a.1 * b.2 * totalLines t.raster
    let y : Int := b.1 * a.2 * totalLines t'.raster
    let s := (s.setTg g { t' with jump := t.jump }).retune (rsyn g) near ((y - x) * 1000000000 / x)
    if s.gated (rsyn g) then
      (s.setTg g { s.tg g with starting := true }, false)
    else ((s.startGroup g).replaceSchedule g, true)

/-- A newly enabled group, or one that an Eclipse retunes, starts at the first frame start at the
called-for phase once its RSYN is locked (R38, R42); a format change then has its OUTCOME, with the
first frame of the new epoch (R35). -/
def tgEnableStart (g : Nat) (s : State) : State :=
  let t := s.tg g
  if g < 8 ∧ t.starting then
    let s := s.setPll (rsyn g) { s.pll (rsyn g) with state := 2, word := 0, left := 0 }
    let s := ((s.startGroup g).reduceOffsets g).replaceSchedule g
    match s.ccp.schedule.find? fun e => e.opcode == 0x0202 && e.begun && e.effect.tg == g with
    | none => s
    | some e =>
      let e' := { e with effect := ⟨g, (s.tg g).pos.frame, 1⟩ }
      let s := { s with ccp := { s.ccp with schedule := s.ccp.schedule.filter fun x => x.jsn != e.jsn } }
      s.effected e' 1 true
  else s

/-- TG_ENABLE_START. -/
def execTgEnableStart (g : Nat) (s : State) : Host.Outcome State Fault Refusal :=
  .next (tgEnableStart g s)

/-! ## DT_SET -/

/-- DT_SET (R43). -/
def dtSet : Cmd where
  opcode := 0x0203
  shape := exactly 16 [(6, 2), (12, 4)]
  args c s := decide (u32 c.args 8 ≤ 999999999) && (s.time.selectedKind != 4 || u32 c.args 8 == 0)
  run c s :=
    match s.time.selectedKind with
    | 1 => s.deny stUnitBusy
    | 4 => (s.setTime { s.time with ppsSeconds := some (u48 c.args 0) }).done
    | _ => (s.stepOrSlew (u48 c.args 0 * 1000000000 + u32 c.args 8 : Nat)).done

/-- DT_SET. -/
def execDtSet (r : Request) (s : State) : Host.Outcome State Fault Refusal := .next (dtSet.serve r s)

/-! ## TIME_STATUS -/

/-- The code of a reference state (R40). -/
def RefState.code : RefState → Nat
  | .freerun => 0
  | .acquiring => 1
  | .locked => 2
  | .holdover => 3

/-- The code of a group state (R40). -/
def TgState.code : TgState → Nat
  | .disabled => 0
  | .freerun => 1
  | .locked => 2
  | .holdover => 3
  | .slewing => 4

/-- The code of a candidate's state (R576). -/
def CandState.code : CandState → Nat
  | .none => 0
  | .acquiring => 1
  | .locked => 2

/-- A candidate record (R576). -/
def candRecord (t : Time) (i : Nat) : Bytes :=
  match t.cands[i]? with
  | none => zeros 8
  | some c => le 1 c.kind ++ le 1 c.state.code ++ le 2 c.port
      ++ le 4 (if c.state = .locked then (t.dt - c.lockedAt) / 1000000000 else 0)

/-- A group record (R576): a disabled group reports DISABLED and zeros. -/
def groupRecord (t : Tg) : Bytes :=
  if !t.enabled then zeros 24
  else le 1 t.state.code ++ le 1 t.raster ++ le 1 t.rate ++ le 1 t.dusk ++ le 1 (b2n t.jump)
    ++ le 1 (b2n t.lastJump) ++ le 2 (totalLines t.raster) ++ le 6 t.pos.frame ++ le 2 t.pos.line
    ++ le 2 t.pos.sample ++ zeros 2 ++ le 4 (ofSigned 32 t.phaseError)

/-- Seconds left of the revert hold: of the highest locked candidate above the selected one (R576). -/
def Time.revertLeft (t : Time) : Nat :=
  match t.selected with
  | none => 0
  | some i =>
    match (t.cands.take i).find? fun c => c.state == .locked with
    | none => 0
    | some c => ceilDiv (c.lockedAt + t.revertHold * 1000000000 - t.dt) 1000000000

/-- The 248 bytes of TIME_STATUS (R576). -/
def timeStatusBytes (s : State) : Bytes :=
  let t := s.time
  le 6 (t.dt / 1000000000) ++ zeros 2 ++ le 4 (t.dt % 1000000000) ++ le 1 t.refState.code
    ++ le 1 (t.selected.getD 0xFF) ++ le 1 (b2n t.traceable + 2 * b2n t.cascadeTime) ++ zeros 1
    ++ le 4 (ofSigned 32 (if t.selectedKind = 1 then t.offset else 0)) ++ le 4 (ofSigned 32 t.servoFreq)
    ++ le 4 t.revertLeft ++ le 4 t.steps ++ (List.range 3).flatMap (candRecord t)
    ++ (List.range 8).flatMap fun g => groupRecord (s.tg g)

/-- TIME_STATUS (R576). -/
def timeStatus : Cmd where
  opcode := 0x0280
  run _ s := s.done (timeStatusBytes s)

/-- TIME_STATUS. -/
def execTimeStatus (r : Request) (s : State) : Host.Outcome State Fault Refusal :=
  .next (timeStatus.serve r s)

/-! ## Happenings -/

/-- The detected rate of the candidate's input. -/
def State.candRate (s : State) (i : Nat) : Nat :=
  match s.time.cands[i]? with
  | some c => s.sdiRate c.port
  | none => 0

/-- A Sync of a PTP candidate (R574): the offset from master is the DT of its arrival less its origin
timestamp, its correction and the mean path delay. While nothing is selected, the first offset steps
or slews DT (R33); the selected candidate's offset slews it and gives the servo's frequency offset, a free value within
±200 ppm (R574; log entry 68). -/
def ptpSync (i : Nat) (origin correction : Int) (s : State) : State :=
  match s.time.cands[i]? with
  | none => s
  | some c =>
    if c.kind ≠ 1 then s
    else
      let off := (s.time.dt : Int) - origin - correction - s.time.pathDelay
      let c := { c with good := if off.natAbs ≤ 1000 then c.good + 1 else 0
                        bad := if 10000 < off.natAbs then c.bad + 1 else 0 }
      let s := s.setTime { s.time with cands := s.time.cands.set i c }
      if s.time.selected = some i then
        let s := s.tookFree.setTime { s.time with offset := off, servoFreq := ((s.free % 400001 : Nat) : Int) - 200000 }
        if off.natAbs ≤ 1000000 then s.setTime { s.time with dtSlew := -off } else s
      else if s.time.selected = none then s.stepOrSlew ((s.time.dt : Int) - off)
      else s

/-- PTP_SYNC_MESSAGE. -/
def execPtpSyncMessage (cand : Nat) (origin correction : Int) (s : State) :
    Host.Outcome State Fault Refusal := .next (ptpSync cand origin correction s)

/-- A delay response of the end-to-end mechanism: the mean path delay that the offset uses (R574). -/
def ptpDelayResponse (i : Nat) (delay : Int) (s : State) : State :=
  match s.time.cands[i]? with
  | none => s
  | some c => if c.kind = 1 then s.setTime { s.time with pathDelay := delay } else s

/-- PTP_DELAY_RESPONSE. -/
def execPtpDelayResponse (cand : Nat) (delay : Int) (s : State) : Host.Outcome State Fault Refusal :=
  .next (ptpDelayResponse cand delay s)

/-- REFERENCE_LOCKED. -/
def execReferenceLocked (cand : Nat) (newTime : Option Nat) (errors : List Int) (s : State) :
    Host.Outcome State Fault Refusal :=
  .next (s.referenceLocked cand newTime (s.candRate cand) errors)

/-- REFERENCE_LOST. -/
def execReferenceLost (cand : Nat) (newTime : Option Nat) (errors : List Int) (s : State) :
    Host.Outcome State Fault Refusal :=
  .next (s.referenceLost cand newTime (s.candRate cand) errors)

/-- REVERT_HOLD_EXPIRY. -/
def execRevertHoldExpiry (cand : Nat) (newTime : Option Nat) (errors : List Int) (s : State) :
    Host.Outcome State Fault Refusal :=
  .next (s.revertExpired cand newTime (s.candRate cand) errors)

/-- A valid 1PPS edge of the selected 1PPS reference (R33, R43): the nanosecond field is forced to 0,
and a commanded value gives the seconds from this edge. -/
def ppsEdge (s : State) : State :=
  if s.time.selectedKind ≠ 4 then s
  else
    let sec := s.time.ppsSeconds.getD ((s.time.dt + 500000000) / 1000000000)
    let new := sec * 1000000000
    let cmd := s.time.ppsSeconds.isSome || s.time.ppsCommanded
    let s' := s.setTime { s.time with ppsSeconds := none, ppsCommanded := cmd }
    let s' := s'.setTime s'.time.withTraceable
    let d := (new : Int) - (s.time.dt : Int)
    if 1000000 < d.natAbs then s'.stepOrSlew new
    else s'.setTime { s'.time with dt := new, dtSlew := 0 }

/-- PPS_EDGE. -/
def execPpsEdge (s : State) : Host.Outcome State Fault Refusal := .next (ppsEdge s)

end Sys2Proof.Machine
end

