-- ==== Sys2Proof/Machine/RegisterMap.lean ====
section
/-! DEFINITION. The register map (R536 to R552): where a register lies in each view, and what it reads. -/

namespace Sys2Proof.Machine

/-! ## Blocks (R546) -/

/-- The register blocks of R546; house time is in two parts, its module registers and those of the groups (R550). -/
inductive Blk where
  | identity
  | mailbox
  | ring
  | houseTime
  | group
  | lane
  | quad
  | sector
  | hbm
  | core
  | canvas
  | audioPort
  | pll
  | cvu
  | mram
  | lantern
  | fabric
  | health
  | panel
  | cascade
  deriving DecidableEq, Repr

/-- PF0 base, stride, instances and registers per instance (R546, R550). -/
def Blk.shape : Blk → Nat × Nat × Nat × Nat
  | .identity => (0x000000, 0x80, 1, 16)
  | .mailbox => (0x010000, 0x40, 20, 8)
  | .ring => (0x020000, 0x80, 4, 16)
  | .houseTime => (0x030000, 0x40, 1, 8)
  | .group => (0x030100, 0x40, 8, 5)
  | .lane => (0x100000, 0x40, 144, 8)
  | .quad => (0x180000, 0x40, 36, 6)
  | .sector => (0x1C0000, 0x100, 4, 24)
  | .hbm => (0x200000, 0x100, 4, 32)
  | .core => (0x240000, 0x80, 8, 16)
  | .canvas => (0x280000, 0x40, 16, 8)
  | .audioPort => (0x2C0000, 0x40, 16, 6)
  | .pll => (0x300000, 0x20, 49, 4)
  | .cvu => (0x340000, 0x80, 8, 12)
  | .mram => (0x380000, 0x100, 1, 24)
  | .lantern => (0x3C0000, 0x100, 1, 32)
  | .fabric => (0x400000, 0x100, 1, 24)
  | .health => (0x440000, 0x200, 1, 48)
  | .panel => (0x480000, 0x80, 2, 12)
  | .cascade => (0x4C0000, 0x80, 4, 10)

/-- Where a block begins in the shaded view: its base shifted right by 4, offsets within the block unchanged (R541). -/
def Blk.shadedBase : Blk → Nat
  | .group => 0x3100
  | b => b.shape.1 / 16

/-- Every block. -/
def blocks : List Blk :=
  [.identity, .mailbox, .ring, .houseTime, .group, .lane, .quad, .sector, .hbm, .core, .canvas, .audioPort, .pll, .cvu,
   .mram, .lantern, .fabric, .health, .panel, .cascade]

/-- A register: its block, instance and index in the instance. -/
structure Reg where
  blk : Blk
  inst : Nat
  idx : Nat
  deriving DecidableEq, Repr

/-- The register of a block at an offset from the block's base. -/
def Blk.at_ (b : Blk) (base off : Nat) : Option Reg :=
  let x := b.shape
  let d := off - base
  if base ≤ off ∧ d / x.2.1 < x.2.2.1 ∧ d % x.2.1 / 8 < x.2.2.2 then some ⟨b, d / x.2.1, d % x.2.1 / 8⟩ else none

/-- The first answer of a search. -/
def firstSome {α β : Type} (f : α → Option β) : List α → Option β
  | [] => none
  | x :: r => match f x with
    | some y => some y
    | none => firstSome f r

/-- The register at a PF0 offset; none where none is assigned (R537). -/
def regPf0 (off : Nat) : Option Reg := firstSome (fun b => b.at_ b.shape.1 off) blocks

/-- The register at a PF1 offset (R541), visible or not; the CVU and MRAM blocks are not there (R546). -/
def regPf1 (off : Nat) : Option Reg :=
  firstSome (fun b => b.at_ b.shadedBase off) (blocks.filter fun b => b != .cvu && b != .mram)

/-- A register is visible in the shaded view (R541, R544, R548 to R552). -/
def Reg.shaded (r : Reg) : Bool :=
  match r.blk with
  | .identity => true
  | .mailbox => decide (16 ≤ r.inst)
  | .ring => r.inst == 3
  | .houseTime => decide (r.idx ≤ 3)
  | .group => decide (1 ≤ r.idx ∧ r.idx ≤ 3)
  | .lane => r.idx == 0 || decide (3 ≤ r.idx ∧ r.idx ≤ 6)
  | .quad => decide (r.idx < 3)
  | .sector => decide (r.idx < 8)
  | .hbm => decide (r.idx < 12)
  | .core => decide (r.idx < 8)
  | .canvas => decide (r.idx < 4)
  | .audioPort => decide (r.idx < 3)
  | .pll => decide (r.idx < 2)
  | .cvu => false
  | .mram => false
  | .lantern => decide (r.idx < 2)
  | .fabric => decide (r.idx < 3)
  | .health => decide (r.idx < 30)
  | .panel => decide (r.idx < 6)
  | .cascade => decide (r.idx < 5)

/-- The PLL of a PLL block instance (R546), numbered as in R518. -/
def pllOfInstance (i : Nat) : Nat := if i = 0 then 0 else i + 1

/-! ## What registers read -/

/-- A value in the bits from `lo`, w bits wide. -/
def fld (w lo v : Nat) : Nat := v % 2 ^ w * 2 ^ lo

/-- A signed value in the bits from `lo`, w bits wide. -/
def sfld (w lo : Nat) (v : Int) : Nat := ofSigned w v * 2 ^ lo

/-- ID_CAPABILITYk (R547): bits 0 to 63 read as zero before step 5 of R407. -/
def State.capabilityWord (s : State) (k : Nat) : Nat :=
  if k = 0 ∧ !s.fwRunning then 0 else s.capability / 2 ^ (64 * k) % 2 ^ 64

/-- The major the device serves that is highest, with its minor (R547). -/
def highestMajor (ms : List (Nat × Nat)) : Nat × Nat := ms.foldl (fun b m => if b.1 < m.1 then m else b) (0, 0)

/-- The identity block (R418, R547): what firmware fills reads zero before step 5. -/
def State.identityReg (s : State) (i : Nat) : Nat :=
  let fw (v : Nat) : Nat := if s.fwRunning then v else 0
  let m := highestMajor s.boot.majors
  match i with
  | 0 => 0x7144 + fld 2 16 s.part.feature.code + fld 2 18 s.part.grade
  | 1 => fld 4 0 s.part.steppingDigit + fld 4 4 s.part.steppingLetter
  | 2 => fld 8 0 s.boot.stage + fld 8 8 s.boot.fault + fld 1 16 (b2n s.boot.mapValid) + fld 1 17 (b2n s.boot.warm)
      + fld 1 18 (b2n s.boot.retreat) + fld 8 24 s.livePasses
  | 3 => s.capabilityWord 0
  | 4 => s.capabilityWord 1
  | 5 => s.capabilityWord 2
  | 6 => s.capabilityWord 3
  | 7 => s.part.serial % 2 ^ 64
  | 8 => s.part.serial / 2 ^ 64 % 2 ^ 64
  | 9 => s.part.macBase % 2 ^ 48
  | 10 => fw s.boot.fwBuild
  | 11 => fw (fld 16 0 s.boot.fwSvn + fld 16 16 s.lantern.fuses.version + fld 16 32 s.versionCounter)
  | 12 => fw (fld 8 0 m.1 + fld 8 8 m.2 + ((List.range 32).map fun k =>
      if s.boot.majors.any fun x => x.1 == k + 1 then 2 ^ (32 + k) else 0).sum)
  | 13 => s.boot.uptime / 40 % 2 ^ 64
  | 14 => fw (s.store.counters.getD 0 0 % 2 ^ 32)
  | 15 => fld 2 0 s.deviceState + fld 8 8 (min 255 s.fencedCount) + fld 1 16 (b2n s.regs.lock)
      + fld 1 17 (b2n (s.lantern.state == 3))
  | _ => 0

/-- The code of a mailbox state (R64). -/
def MbState.code : MbState → Nat
  | .idle => 0
  | .submitted => 1
  | .accepted => 2
  | .done => 3
  | .error => 4

/-- The boot mailbox serves a mailbox (R416, R548). -/
def State.bootServes (s : State) (k : Nat) : Bool := k == 0 && s.boot.pcieUp && !s.fwRunning

/-- The registers of one mailbox (R548). -/
def State.mailboxReg (s : State) (k i : Nat) : Nat :=
  let m := s.mailbox k
  match i with
  | 1 => fld 3 0 m.state.code + fld 16 16 m.busyRings
      + fld 16 32 (if m.state = .submitted ∨ m.state = .accepted then stPending
                   else if m.state = .idle then 0 else m.status)
      + fld 1 48 (b2n (s.bootServes k))
  | 2 => b2n m.intEn
  | 3 => m.session % 2 ^ 32
  | 4 => m.token % 2 ^ 64
  | 5 => m.jsn % 2 ^ 64
  | 6 => m.stamp % 2 ^ 64
  | 7 => if k < 16 then 0x800000 + k * 0x2000 else 0x80000 + (k - 16) * 0x2000
  | _ => 0

/-- The registers of one event ring (R549). -/
def State.ringReg (s : State) (k i : Nat) : Nat :=
  let r : Ring := s.ring k
  match i with
  | 0 => b2n r.enabled
  | 1 => r.base % 2 ^ 64
  | 2 => fld 5 0 r.sizeLog
  | 3 => r.writeback % 2 ^ 64
  | 4 => fld 32 0 r.producer
  | 5 => fld 32 0 r.consumer
  | 6 => fld 11 0 r.modCount + fld 10 16 r.holdoff
  | 7 => fld 8 0 r.watermark + fld 5 8 r.mask + fld 32 32 r.trace
  | 8 => b2n (r.fill == r.size) + fld 1 1 (b2n r.holding) + fld 1 2 (b2n r.dmaFault) + fld 1 3 (b2n r.configError)
      + fld 1 4 (b2n r.consumerInvalid)
  | 9 => r.written.sum % 2 ^ 64
  | 10 => r.replaced.sum % 2 ^ 64
  | 11 => r.dropped.sum % 2 ^ 64
  | 12 => r.held.sum % 2 ^ 64
  | 13 => r.signals % 2 ^ 64
  | 14 => fld 11 0 r.unsignalled
  | 15 => fld 32 0 r.fill
  | _ => 0

/-- The latches of a master (R539). -/
def State.latch (s : State) (master : Nat) : Latch := tabGet s.regs.latches master {}

/-- A reference candidate's register (R550). -/
def State.candReg (s : State) (i : Nat) : Nat :=
  match s.time.cands[i]? with
  | none => 0
  | some c => fld 3 0 c.kind + fld 1 3 (b2n (c.state == .locked)) + fld 16 16 c.port

/-- The module registers of house time (R550), as one master reads them. -/
def State.timeReg (s : State) (master i : Nat) : Nat :=
  let t := s.time
  match i with
  | 0 => t.dt % 1000000000 + fld 32 32 (t.dt / 1000000000)
  | 1 => (s.latch master).dtHi % 2 ^ 16
  | 2 => fld 3 0 t.refState.code + fld 2 3 (t.selected.getD 3) + fld 3 5 t.selectedKind + fld 1 8 (b2n t.traceable)
      + fld 16 16 t.revertLeft
  | 3 => sfld 32 0 (if t.selectedKind = 1 then t.offset else 0) + sfld 32 32 t.servoFreq
  | 4 => s.candReg 0
  | 5 => s.candReg 1
  | 6 => s.candReg 2
  | 7 => t.steps % 2 ^ 64
  | _ => 0

/-- The registers of a timing group (R550): those of a disabled group read as zero, HRT_TG_CONFIG excepted. -/
def State.groupReg (s : State) (master g i : Nat) : Nat :=
  let t := s.tg g
  match i with
  | 0 => b2n t.enabled + fld 4 4 t.raster + fld 4 8 t.rate + fld 1 12 (b2n t.jump) + fld 7 16 t.dusk
      + sfld 32 32 t.phaseOffset
  | j =>
    if !t.enabled then 0
    else match j with
    | 1 => fld 3 0 t.state.code + fld 1 3 (b2n t.lastJump) + fld 16 16 (switchLine t.raster) + fld 16 32 t.duskLine
        + fld 16 48 (totalLines t.raster)
    | 2 => t.pos.frame % 2 ^ 48
    | 3 =>
      let p := tabGet (s.latch master).pos g (0, 0)
      fld 16 0 p.1 + fld 16 16 p.2
    | 4 => sfld 32 0 t.phaseError + fld 16 32 t.slewLines
    | _ => 0

/-- LANE_CFG_GROUP and LANE_CFG_LINK (R551): the receive group of a lane, else its transmit group. -/
def State.laneGroup (s : State) (n : Nat) : Nat × Nat :=
  let place (owner : Option Nat) (ls : Nat → List Nat) : Option (Nat × Nat) :=
    match owner with
    | some o => some (o, (ls o).findIdx (· == n) + 2)
    | none => if (usedLinks (ls n)).isEmpty then none else some (n, 1)
  match place (s.rxOwner n) fun k => (s.lane k).rxLinks with
  | some x => x
  | none => (place (s.txOwner n) fun k => (s.lane k).txLinks).getD (0xFFFF, 0)

/-- The registers of a lane (R551). -/
def State.laneReg (s : State) (n i : Nat) : Nat :=
  let l := s.lane n
  let q := s.quad (n / 4)
  match i with
  | 0 => fld 3 0 l.state.code + fld 3 3 l.phase + fld 3 6 l.failPhase + fld 4 9 l.attempts + fld 1 13 (b2n l.signal)
      + fld 1 14 (b2n l.cdrLock) + fld 1 15 (b2n l.frameLock) + fld 4 16 l.detIface + fld 1 20 l.detFamily
      + fld 3 21 q.protocol + sfld 16 32 l.cdrOffset
  | 1 =>
    let g := s.laneGroup n
    b2n l.rxEn + fld 1 1 (b2n l.txEn) + fld 4 2 l.rxIface + fld 4 6 l.txIface + fld 1 10 (b2n l.rxFixed)
      + fld 4 16 l.rxRaster + fld 4 20 l.rxRate + fld 2 24 l.eqMode + fld 3 26 l.flags + fld 16 32 g.1 + fld 3 48 g.2
  | 2 => sfld 8 0 l.pre + sfld 8 8 l.post + fld 4 16 l.swing
  | 3 =>
    if !l.rxEn then 0
    else fld 6 0 l.ctle + sfld 8 8 (l.dfe.getD 0 0) + sfld 8 16 (l.dfe.getD 1 0) + sfld 8 24 (l.dfe.getD 2 0)
  | 4 => fld 8 0 l.eyeH + fld 16 8 l.eyeV + fld 32 32 l.eyeReports
  | 5 => fld 32 0 l.errLines + fld 32 32 (if s.is64b n then l.bip3 else l.trsErrors)
  | 6 => fld 32 0 l.fecCorr + fld 32 32 l.fecUncorr
  | 7 => fld 3 0 l.gen + fld 3 3 l.chk + fld 2 6 l.testInv + fld 1 8 (b2n l.chkLock) + fld 3 9 l.inject
      + fld 2 12 q.loopback + fld 32 32 l.chkErrors
  | _ => 0

/-- The registers of a CVU (R495). -/
def State.cvuReg (s : State) (n i : Nat) : Nat :=
  let x := s.cvu n
  match i with
  | 0 => fld 4 2 x.ctrl
  | 1 => x.config
  | 2 => x.poly
  | 3 => x.init
  | 4 => x.xorout
  | 5 => x.addr
  | 6 => x.length
  | 7 => x.value
  | 8 => x.expect
  | 9 => x.result
  | 10 => b2n x.busy + fld 1 1 (b2n x.done) + fld 1 2 (b2n x.matched) + fld 4 4 x.endCode + fld 1 8 (b2n x.ignored)
      + fld 1 9 (b2n x.irq)
  | 11 => x.progress
  | _ => 0

/-- A fault log entry as its register shows it (R544). -/
def FaultEntry.word (e : FaultEntry) : Nat :=
  fld 40 0 e.addr + fld 4 40 e.master + fld 4 44 e.cause + fld 1 48 (b2n e.write) + fld 1 49 1 + fld 14 50 e.seq

/-- CF_FAULTj (R544): entry j was written j'th of every 16. -/
def Registers.faultWord (r : Registers) (j : Nat) : Nat :=
  let back := (r.faultCount + 15 - j) % 16
  match r.faults[back]? with
  | some e => e.word
  | none => 0

/-- The registers of the control fabric (R545). -/
def State.fabricReg (s : State) (i : Nat) : Nat :=
  let r := s.regs
  match i with
  | 0 => fld 3 0 (s.pll 1).state + fld 32 32 (s.pll 1).losses
  | 1 => b2n r.lock
  | 2 => r.faultCount % 2 ^ 64
  | 3 => r.faultCount % 16
  | 4 => r.lockReleases % 2 ^ 64
  | 5 => fld 7 0 r.writeLog.length + fld 32 32 r.writeDropped
  | 6 => r.decodeErrors % 2 ^ 64
  | 7 => b2n (!s.lantern.fuses.debugDisable)
  | j => r.faultWord (j - 8)

/-- The values that a block of R552 reports of one instance. -/
def State.blockValues (s : State) (b : Blk) (n : Nat) : List Int :=
  match b with
  | .quad =>
    let q := s.quad n
    ([q.protocol, q.mode, q.fec, (s.pll (2 + n)).state, q.loopback, b2n (s.fenced 2 n), q.vco]
      ++ (List.range 4).map fun k => b2n (s.laneWork (4 * n + k)) : List Nat).map Int.ofNat
  | .sector => ([b2n (s.present 3 n), b2n (s.fenced 3 n)] : List Nat).map Int.ofNat
  | .hbm => memoryValues s
  | .core => coreValues s n
  | .canvas => canvasValues s n
  | .audioPort => tdmValues s n
  | .pll => pllValues (s.pll (pllOfInstance n))
  | .mram => nvValues s
  | .lantern => s.lanternValues
  | .health => [s.health.tj, s.health.tjPeak, (s.health.steps : Int), (s.health.trips : Int)] ++ healthValues s
  | .panel => ([(s.panel n).state.code, (s.panel n).tePeriod, (s.panel n).fills, (s.panel n).pushes, (s.panel n).tiles,
      (s.panel n).skipped] : List Nat).map Int.ofNat
  | .cascade => cascadeValues s
  | _ => []

/-- The number of a block in R546, for `Config.register`. -/
def Blk.number (b : Blk) : Nat := blocks.findIdx (· == b)

/-- What a register reads to a master, ahead of what its view hides. Where R552 names a register without a bit layout, it is
an opaque function of its owner's values (log entry 51); a register that holds one setting reads that setting. -/
def State.regValue (s : State) (master : Nat) (r : Reg) : Nat :=
  match r.blk with
  | .identity => s.identityReg r.idx
  | .mailbox => s.mailboxReg r.inst r.idx
  | .ring => s.ringReg r.inst r.idx
  | .houseTime => s.timeReg master r.idx
  | .group => s.groupReg master r.inst r.idx
  | .lane => s.laneReg r.inst r.idx
  | .cvu => s.cvuReg r.inst r.idx
  | .fabric => s.fabricReg r.idx
  | b =>
    let p := s.pll (pllOfInstance r.inst)
    if b = .pll ∧ r.idx = 3 then fld 32 0 p.seed
    else if b = .hbm ∧ r.idx = 28 then s.memory.caps.getD r.inst 0
    else if b = .hbm ∧ r.idx = 29 then s.memory.scrubPeriod
    else if b = .hbm ∧ r.idx = 30 then s.memory.aperture
    else if b = .lantern ∧ 12 ≤ r.idx then tabGet s.regs.lntWords (r.idx - 12) 0
    else Config.register b.number r.inst r.idx (s.blockValues b r.inst) % 2 ^ 64

/-- What PF0 and PF1 reach before firmware serves (R415): the identity block, and on PF0 the boot mailbox. -/
def Reg.early (r : Reg) (pf0 : Bool) : Bool := r.blk == .identity || (pf0 && r.blk == .mailbox && r.inst == 0)

/-- A master of the control fabric: 0 to 3 CPC core, 4 PF0, 5 PF1, 6 Lantern, 7 CVU, 8 debug (R544). The debug master does
nothing once DEBUG_DISABLE is burned (R428); a function reaches nothing before the link is up (R415). -/
def State.masterOn (s : State) (master : Nat) : Bool :=
  match master with
  | 4 => s.boot.pcieUp
  | 5 => s.boot.pcieUp
  | 8 => !s.lantern.fuses.debugDisable
  | m => decide (m ≤ 3)

/-- The register that a master reaches at an offset: BAR0 offsets of PF0, of PF1, and for the others the PF0 offset (log
entry 51). -/
def regOf (master off : Nat) : Option Reg := if master = 5 then regPf1 off else regPf0 off

/-- What a master reads of a register: zero where the shaded view hides it (R13, R541), and zero to a function before
firmware serves, the early registers excepted (R415). -/
def State.readReg (s : State) (master : Nat) (r : Reg) : Nat :=
  if (master = 5 ∧ !r.shaded) ∨ ((master = 4 ∨ master = 5) ∧ !s.fwRunning ∧ !r.early (master == 4)) then 0
  else s.regValue master r

/-- What a master reads of the slot at an offset; zero where no register is assigned (R544). -/
def State.readSlot (s : State) (master off : Nat) : Nat :=
  match regOf master off with
  | some r => s.readReg master r
  | none => 0

end Sys2Proof.Machine
end

