-- ==== Sys2Proof/Machine/RegisterRows.lean ====
section
/-! DEFINITION. Register accesses (R538 to R542): latching reads, direct configuration writes, the writes of registers
without a row of their own, and the JTAG port (R567). -/

namespace Sys2Proof.Machine

/-! ## Latching reads (R539) -/

/-- Masters that hold latches: CPC cores 0 to 3, PF0, PF1 and debug (R539). -/
def latches (master : Nat) : Bool := decide (master ≤ 5) || master == 8

/-- Change the latches of a master. -/
def State.mapLatch (s : State) (master : Nat) (f : Latch → Latch) : State :=
  s.mapRegs fun r => { r with latches := tabPut r.latches master (f (tabGet r.latches master {})) }

/-- A function reads zero and latches nothing before firmware serves (R415). -/
def State.serves (s : State) (master : Nat) : Bool := !(master == 4 || master == 5) || s.fwRunning

/-- A read of HRT_DT_LO of n bytes: DT seconds [47:32] are latched for the master (R539, R550). -/
def hrtDtLoRead (master n : Nat) (s : State) : State :=
  if !s.masterOn master then s
  else
    let r : Reg := ⟨.houseTime, 0, 0⟩
    let s' := if s.serves master then s.mapLatch master fun l => { l with dtHi := s.time.dt / 1000000000 / 2 ^ 32 % 2 ^ 16 }
      else s
    s'.returns (le (min n 8) (s.readReg master r))

/-- HRT_DT_LO_READ. -/
def execHrtDtLoRead (master n : Nat) (s : State) : Host.Outcome State Fault Refusal := .next (hrtDtLoRead master n s)

/-- A read of a group's HRT_TG_FRAME of n bytes: its line and sample are latched for the master (R539, R550). -/
def hrtTgFrameRead (master g n : Nat) (s : State) : State :=
  if !s.masterOn master ∨ 8 ≤ g then s
  else
    let t := s.tg g
    let s' := if s.serves master then
        s.mapLatch master fun l => { l with pos := tabPut l.pos g (t.pos.line, t.pos.sample) }
      else s
    s'.returns (le (min n 8) (s.readReg master ⟨.group, g, 2⟩))

/-- HRT_TG_FRAME_READ. -/
def execHrtTgFrameRead (master g n : Nat) (s : State) : Host.Outcome State Fault Refusal :=
  .next (hrtTgFrameRead master g n s)

/-! ## Direct configuration writes (R542) -/

/-- The lockable configuration registers of R542. -/
def Reg.lockable (r : Reg) : Bool :=
  match r.blk with
  | .lane => r.idx == 2
  | .pll => decide (37 ≤ r.inst) && decide (2 ≤ r.idx)
  | .hbm => decide (28 ≤ r.idx ∧ r.idx ≤ 30)
  | _ => false

/-- The setting is standing (R542). -/
def Reg.standing (r : Reg) : Bool := r.blk != .hbm

/-- The SYNTH_CONFIGURE payloads that a value of PLL_OUTPUT or PLL_SEED stands for (R511, R542). -/
def synthPayloads (r : Reg) (v : Nat) : List Bytes :=
  let k := r.inst - 37
  let o := Config.pllOutput r.inst v
  if r.idx = 3 then [le 1 k ++ le 1 (if k ≤ 7 then 1 else 2) ++ le 1 1 ++ zeros 1 ++ le 4 v ++ zeros 8]
  else if k ≤ 7 then [le 1 k ++ le 1 1 ++ le 1 14 ++ le 1 o.2.2 ++ zeros 4 ++ le 1 o.1 ++ zeros 3 ++ le 4 o.2.1]
  else [le 1 k ++ le 1 2 ++ le 1 4 ++ zeros 9 ++ le 4 o.1, le 1 k ++ le 1 3 ++ le 1 4 ++ zeros 9 ++ le 4 o.2.1]

/-- The pre-cursor, post-cursor and swing of a value of LANE_TX_EQ (R551). -/
def txEqFields (v : Nat) : Int × Int × Nat := (toSigned 8 (bits v 7 0), toSigned 8 (bits v 15 8), bits v 19 16)

/-- The value is within the ranges of the equivalent command (R373, R462, R471, R511, R551). -/
def State.directOk (s : State) (r : Reg) (v : Nat) : Bool :=
  match r.blk with
  | .lane =>
    let x := txEqFields v
    (s.quad (r.inst / 4)).protocol != 0 && decide (-16 ≤ x.1 ∧ x.1 ≤ 0 ∧ -26 ≤ x.2.1 ∧ x.2.1 ≤ 0 ∧ x.2.2 ≤ 12)
  | .pll => (synthPayloads r v).all fun p => synthValid p s
  | .hbm =>
    if r.idx = 28 then decide (1 ≤ v ∧ v ≤ 32)
    else if r.idx = 29 then decide (1 ≤ v ∧ v ≤ 168)
    else s.apertureBaseOk v
  | _ => false

/-- The setting changes (R542). -/
def State.directApply (s : State) (r : Reg) (v : Nat) : State :=
  match r.blk with
  | .lane =>
    let x := txEqFields v
    s.setLane r.inst { s.lane r.inst with pre := x.1, post := x.2.1, swing := x.2.2 }
  | .pll => (synthPayloads r v).foldl (fun s p => applySynth p s) s
  | .hbm =>
    s.mapMemory fun m =>
      if r.idx = 28 then m.setCap (44 + r.inst) v
      else if r.idx = 29 then { m with scrubPeriod := v } else { m with aperture := v }
  | _ => s

/-- A direct write (R542): dropped and logged when the register lock is set, when the value is out of range, and when the
write log is full; else the setting changes, the write is recorded, and firmware journals the record. -/
def State.directWrite (s : State) (master off : Nat) (r : Reg) (v : Nat) : State :=
  if s.regs.lock && master == 4 then s.logFault off master 3 true
  else if !s.directOk r v then s.logFault off master 5 true
  else if 64 ≤ s.regs.writeLog.length then
    (s.logFault off master 6 true).mapRegs fun x => { x with writeDropped := (x.writeDropped + 1) % 2 ^ 32 }
  else
    let w : WriteRec := { view := if master = 4 then 0 else 2, offset := off, value := v, standing := r.standing }
    ((s.directApply r v).mapRegs fun x => { x with writeLog := x.writeLog ++ [w] }).drainWrites

/-! ## Writes without a row of their own (R538, R541) -/

/-- The value of a slot after a write of its low half, its high half or both (R538). -/
def mergeHalves (old mask v : Nat) : Nat :=
  (if bit mask 0 then v % 2 ^ 32 else old % 2 ^ 32)
    + (if bit mask 1 then v / 2 ^ 32 % 2 ^ 32 else old / 2 ^ 32 % 2 ^ 32) * 2 ^ 32

/-- The slots of a write in ascending order (R538): offset, which halves it covers, and the value in its place. -/
def slotWrites : Nat → Nat → Bytes → List (Nat × Nat × Nat)
  | 0, _, _ => []
  | n + 1, off, d =>
    if d.isEmpty then []
    else if off % 8 = 4 then (off - 4, 2, u32 d 0 * 2 ^ 32) :: slotWrites n (off + 4) (d.drop 4)
    else if 8 ≤ d.length then (off, 3, u64 d 0) :: slotWrites n (off + 8) (d.drop 8)
    else [(off, 1, u32 d 0)]

/-- A write to a mailbox's CCP_MB_INT_EN (R70, R548); the doorbell is a row of its own. -/
def State.writeMailbox (s : State) (k i mask v : Nat) : State :=
  if i = 2 ∧ bit mask 0 then s.setMailbox k { s.mailbox k with intEn := bit v 0 } else s

/-- A write to a register of an event ring (R549). -/
def State.writeRing (s : State) (view : View) (k i mask v : Nat) : State :=
  let r : Ring := s.ring k
  let low := bit mask 0
  match i with
  | 0 => if !low then s else if bit v 0 then evrEnable view k s else evrDisable view k s
  | 1 => if r.enabled then s else s.setRing k { r with base := mergeHalves r.base mask v / 4096 * 4096 }
  | 2 => if r.enabled || !low then s else s.setRing k { r with sizeLog := v % 32 }
  | 3 => if r.enabled then s else s.setRing k { r with writeback := mergeHalves r.writeback mask v / 4096 * 4096 }
  | 5 => if low then evrConsumer view k (v % 2 ^ 32) s else s
  | 6 => if low then evrModeration view k (bits v 10 0) (bits v 25 16) s else s
  | 8 =>
    if low then
      s.setRing k { r with dmaFault := r.dmaFault && !bit v 2, configError := r.configError && !bit v 3
                           consumerInvalid := r.consumerInvalid && !bit v 4 }
    else s
  | _ => s

/-- A write to the MSI-X table, by byte offset in it (R93, R537): an entry's address, data and mask; a pending vector that
is unmasked is sent. -/
def State.writeMsix (s : State) (first off mask v : Nat) : State :=
  let k := first + off / 16
  let e := tabGet s.events.msix k {}
  let e' : MsixEntry :=
    if off % 16 = 0 then { e with addr := mergeHalves e.addr mask v }
    else
      let e := if bit mask 0 then { e with data := v % 2 ^ 32 } else e
      if bit mask 1 then { e with masked := bit v 32, pending := e.pending && bit v 32 } else e
  { s with events := { s.events with msix := tabPut s.events.msix k e' } }

/-- The MSI-X table of a function by offset: the first vector's key and the byte in the table (R537). -/
def msixAt (master off : Nat) : Option (Nat × Nat) :=
  if master = 5 then (if 0xF0000 ≤ off ∧ off < 0xF0080 then some (64, off - 0xF0000) else none)
  else if master = 4 ∧ 0xF00000 ≤ off ∧ off < 0xF00400 then some (0, off - 0xF00000) else none

/-- A buffer of a mailbox or the pending-bit array is at an offset (R56, R537): the request goes with its doorbell, and the
others take no write. -/
def bufferAt (master off : Nat) : Bool :=
  if master = 5 then decide (0x80000 ≤ off ∧ off < 0x88000) || decide (0xF8000 ≤ off ∧ off < 0xF8008)
  else decide (0x800000 ≤ off ∧ off < 0x820000) || decide (0xF80000 ≤ off ∧ off < 0xF80008)

/-- A write to an assigned register reaches it (R541, R542, R552): PF1 writes its own mailboxes and ER3, PF0 its own
mailboxes, ER0 to ER2, CVU2 to CVU7 and the lockable registers; firmware and debug write CVU0 and CVU1, the lockable
registers, and firmware the Lantern's request and response registers. All else ignores the write. -/
def State.writeReg (s : State) (master off : Nat) (r : Reg) (mask v : Nat) : State :=
  if r.lockable && master != 5 then s.directWrite master off r (mergeHalves (s.readReg master r) mask v)
  else match r.blk with
  | .mailbox => if (master = 4 ∧ r.inst < 16) ∨ (master = 5 ∧ 16 ≤ r.inst) then s.writeMailbox r.inst r.idx mask v else s
  | .ring =>
    if master = 4 ∧ r.inst < 3 then s.writeRing .pf0 r.inst r.idx mask v
    else if master = 5 ∧ r.inst = 3 then s.writeRing .pf1 r.inst r.idx mask v else s
  | .cvu =>
    if master = 5 then s
    else
      let old := if r.idx = 10 then 0 else s.cvuReg r.inst r.idx
      cvuWrite (master != 4) r.inst (8 * r.idx) (mergeHalves old mask v) s
  | .lantern =>
    if master ≤ 3 ∧ 12 ≤ r.idx then
      s.mapRegs fun x => { x with
        lntWords := tabPut x.lntWords (r.idx - 12) (mergeHalves (tabGet x.lntWords (r.idx - 12) 0) mask v) }
    else s
  | _ => s

/-- One slot of a write (R538). -/
def State.writeSlot (s : State) (master : Nat) (w : Nat × Nat × Nat) : State :=
  match msixAt master w.1 with
  | some x => if s.serves master then s.writeMsix x.1 x.2 w.2.1 w.2.2 else s
  | none =>
    if bufferAt master w.1 then s
    else match regOf master w.1 with
    | none => if s.serves master then s.logFault w.1 master 1 true else s
    | some r => if s.serves master || r.early (master == 4) then s.writeReg master w.1 r w.2.1 w.2.2 else s

/-- A write may be 4 bytes or more in whole halves of slots (R538). -/
def wideWrite (off : Nat) (data : Bytes) : Bool := decide (off % 4 = 0 ∧ data.length % 4 = 0 ∧ 0 < data.length)

/-- A register write by a master (R538): dropped and logged with cause WIDTH, or applied slot by slot. -/
def registerWrite (master off : Nat) (data : Bytes) (s : State) : State :=
  if !s.masterOn master then s
  else if wideWrite off data then
    (slotWrites data.length off data).foldl (fun s w => s.writeSlot master w) s
  else if !s.serves master || bufferAt master off || (msixAt master off).isSome then s
  else s.logFault off master (if (regOf master (off / 8 * 8)).isSome then 4 else 1) true

/-- GENERIC_REGISTER_WRITE. -/
def execGenericRegisterWrite (master off : Nat) (data : Bytes) (s : State) : Host.Outcome State Fault Refusal :=
  .next (registerWrite master off data s)

/-- The register at an offset takes direct writes. -/
def lockableAt (off : Nat) : Bool := (regPf0 (off / 8 * 8)).elim false Reg.lockable

/-- A direct write of PF0 or of CPC firmware to a lockable register (R542). -/
def directConfigWrite (master off : Nat) (data : Bytes) (s : State) : State :=
  if master ≤ 4 ∧ lockableAt off then registerWrite master off data s else s

/-- DIRECT_CONFIG_WRITE. -/
def execDirectConfigWrite (master off : Nat) (data : Bytes) (s : State) : Host.Outcome State Fault Refusal :=
  .next (directConfigWrite master off data s)

/-! ## JTAG (R567) -/

/-- IDCODE: 0x7144 in bits [27:12] and the stepping in bits [31:28] (R567). -/
def Part.idcode (p : Part) : Nat :=
  fld 12 0 Config.idLow + fld 16 12 0x7144 + fld 4 28 (Config.idStepping p.steppingLetter p.steppingDigit)

/-- Instructions that are executed while PORST_N is high (R567). -/
def jtagInService : JtagInstr → Bool
  | .bypass => true
  | .idcode => true
  | .sample => true
  | _ => false

/-- A JTAG instruction is shifted in and run: while PORST_N is high, one outside BYPASS, IDCODE and SAMPLE acts as BYPASS
(R567). IDCODE shifts the register of that name out. -/
def jtagTapOperation (i : JtagInstr) (s : State) : State :=
  let e : JtagInstr := if s.boot.porstN && !jtagInService i then .bypass else i
  let s := s.mapRegs fun r => { r with jtag := e }
  if e = .idcode then s.returns (le 4 s.part.idcode) else s

/-- JTAG_TAP_OPERATION. -/
def execJtagTapOperation (i : JtagInstr) (s : State) : Host.Outcome State Fault Refusal := .next (jtagTapOperation i s)

end Sys2Proof.Machine
end

