-- ==== Sys2Proof/Machine/Effects.lean ====
section
/-! DEFINITION. A scheduled command reaches its effect point (R48, R49): what it does by opcode, what a fence leaves of it
(R531), and its OUTCOME (R97). -/

namespace Sys2Proof.Machine

/-! ## Order at one effect point -/

/-- A part makes no further effect: a layer commit that waits for its records (R230), an audio change that waits for its
crossing (R346), a format change inside its Eclipse (R38), a fence, which has a row of its own. -/
def Sched.settling (e : Sched) : Bool :=
  decide (6 ≤ e.kind) || (e.opcode == 0x0202 && e.begun) || e.opcode == 0x0B01

/-- Two parts are at one effect point on one object: lane-path switches of one destination, or parts of one kind at one
position (R48, R49). -/
def Sched.meets (a b : Sched) : Bool :=
  a.kind == b.kind && a.effect == b.effect &&
    (a.kind != 1 || (routeEntries a.args).any fun p => (routeEntries b.args).any fun q => u16 p 0 == u16 q 0)

/-- No earlier command waits at the effect point of a part: changes are applied in JSN order (R49). -/
def State.turnOf (s : State) (e : Sched) : Bool :=
  s.ccp.schedule.all fun x => !(decide (x.jsn < e.jsn) && x.meets e && !x.settling)

/-! ## Fences -/

/-- The objects of a scheduled command, and which of them a fence holds (R531). -/
def State.effectObjects (s : State) (e : Sched) : List (Src × Bool) :=
  let n := u16 e.args 0
  let dest (d : Nat) : Src × Bool := (srcDestination d, s.destFenced d)
  let one : List (Src × Bool) :=
    if e.opcode = 0x0401 ∨ e.opcode = 0x0402 then (routeEntries e.args).map fun p => dest (u16 p 0)
    else if e.opcode = 0x0404 ∨ e.opcode = 0x0406 then [dest n]
    else if e.opcode = 0x0302 then [(srcLane n, s.fenced 1 n)]
    else if e.opcode = 0x0501 ∨ e.opcode = 0x0503 then [(srcPipe n, s.gangDown n)]
    else if e.opcode = 0x0601 ∨ e.opcode = 0x0602 ∨ e.opcode = 0x0606 then [(srcCanvas n, s.canvasDown n)]
    else if e.opcode = 0x0701 ∨ e.opcode = 0x0702 ∨ e.opcode = 0x0704 then
      [(srcEncode n, match s.enc n with | some x => x.cores.any (s.fenced 5) | none => false)]
    else if decodeOpcode e.opcode then
      [(srcDecode n, match s.dec n with | some x => x.cores.any (s.fenced 5) | none => false)]
    else [(srcCommand e.jsn, false)]
  one.map fun x => (x.1, x.2 || (s.halted && retreatStops e.opcode))

/-- FENCED_EFFECT_SKIPPED for every object that a fence holds (R531). -/
def State.tellSkipped (s : State) (e : Sched) : State :=
  ((s.effectObjects e).filter (·.2)).foldl (fun s x => s.raise .fencedEffectSkipped x.1 (e.jsn % 2 ^ 32)) s

/-- The effect is taken on some object (R531). -/
def State.takesEffect (s : State) (e : Sched) : Bool := (s.effectObjects e).any fun x => !x.2

/-- A route to a fenced destination changes the stored configuration only (R531). -/
def State.storeRoute (s : State) (p : Bytes) : State :=
  let d := u16 p 0
  s.setDest d { s.dest d with source := u16 p 2, lane := u8 p 4 == 1, noFollow := bit (u8 p 5) 0 }

/-- The routes of a command, those of fenced destinations stored only. -/
def State.applyRouteParts (s : State) (p : Bytes) : State :=
  let f (s : State) (q : Bytes) : State :=
    if s.destFenced (u16 q 0) || s.halted then s.storeRoute q else applyRoute q s
  ((routeEntries p).foldl f s).refreshSyncs.tellTallies

/-! ## What freezes before its effect point -/

/-- Put off the second application of a part that has been frozen. -/
def State.froze (s : State) (e : Sched) : State := s.mapSched e.jsn fun x => { x with begun := true }

/-- Watch-table edits that take effect at the evaluation of a Dusk line (R48, R181), in JSN order. -/
def State.freezeRules (s : State) (g : Nat) : State :=
  let f := (s.tg g).pos.frame
  (s.ccp.schedule.filter fun e =>
    e.opcode == 0x0404 && e.effect.tg == g && e.effect.frame == f && !e.begun).foldl
    (fun s e => (applyWatchRule e.args s).froze e) s

/-- A pipe's parameters take effect; whether its delay has changed follows the argument bytes (R210, log entry 31). -/
def State.takePipe (s : State) (e : Sched) : State :=
  let r := applyPipe e.args s
  r.1.mapSched e.jsn fun x => { x with begun := true, args := padTo 49 x.args ++ le 1 (b2n r.2) }

/-- At a frame start the synchroniser settings and pipe reconfigurations of that position take effect in JSN order (R48,
R49, R210), ahead of the frame's selections. -/
def State.takeAtStart (s : State) (g : Nat) : State :=
  let f := (s.tg g).pos.frame
  (s.ccp.schedule.filter fun e =>
    (e.opcode == 0x0405 || (e.opcode == 0x0501 && e.kind == 2)) && e.effect.tg == g && e.effect.frame == f
      && !e.begun).foldl
    (fun s e => if e.opcode = 0x0405 then (applySync e.args s).froze e else s.takePipe e) s

/-! ## The effect by opcode -/

/-- What a part of a scheduled command does at its effect point. -/
def State.takeEffect (s : State) (e : Sched) : State :=
  let p := e.args
  if e.opcode = 0x0401 ∨ e.opcode = 0x0402 then s.applyRouteParts p
  else if e.opcode = 0x0302 then applyLaneConfig p s
  else if e.opcode = 0x0406 then (if e.kind = 2 then applyDestGroup p s else applyDestSettings p s)
  else if e.begun then s
  else if e.opcode = 0x0404 then applyWatchRule p s
  else if e.opcode = 0x0405 then applySync p s
  else if e.opcode = 0x0407 then applyPattern p s
  else if e.opcode = 0x0501 then s.takePipe e
  else if e.opcode = 0x0503 then applyLut p s
  else if e.opcode = 0x0601 then applyCanvas p s
  else if e.opcode = 0x0606 then applyCloneEnables p s
  else if e.opcode = 0x060B then applyContent p s
  else if e.opcode = 0x0701 ∨ e.opcode = 0x0702 ∨ e.opcode = 0x0704 then applyEncode e s
  else applyDecode e s

/-- The payload of the OUTCOME: the pipe's delay has changed (R210, log entry 31). -/
def State.effectPayload (s : State) (e : Sched) : Bytes :=
  if e.opcode = 0x0501 then
    match s.ccp.schedule.find? fun x => x.jsn == e.jsn with
    | some x => if u8 x.args 49 = 1 then Config.layout 0x0501 [1] else []
    | none => []
  else []

/-- A JUMP has cut the line of an effect (R54): it takes place at the cut, flagged in its OUTCOME. -/
def State.cutByJump (s : State) (e : Sched) : Bool :=
  let t := s.tg e.effect.tg
  t.jumpNow && t.pos.frame == e.effect.frame && decide (t.frameLines < e.effect.line)

/-- A part's effect stands at another position. -/
def State.moveEffect (s : State) (e : Sched) (x : Effect) : State :=
  let f (y : Sched) : Sched := if y.jsn = e.jsn ∧ y.effect = e.effect ∧ y.kind = e.kind then { y with effect := x } else y
  { s with ccp := { s.ccp with schedule := s.ccp.schedule.map f } }

/-- Where the OUTCOME says that the effect took place (R48, R63): a lane switch at the position in progress. -/
def State.effectPlace (s : State) (e : Sched) : Effect :=
  if e.kind = 1 then
    let t := s.tg e.effect.tg
    ⟨e.effect.tg, t.pos.frame, t.pos.line⟩
  else e.effect

/-- The OUTCOME falls to a part that has not yet taken effect (R97). -/
def State.handLast (s : State) (e : Sched) : State × Sched :=
  match s.ccp.schedule.find? fun x => x.jsn == e.jsn && !(x.effect == e.effect && x.kind == e.kind) with
  | some y =>
    if e.last then
      let f (x : Sched) : Sched :=
        if x.jsn = e.jsn then { x with last := x.effect == y.effect && x.kind == y.kind } else x
      ({ s with ccp := { s.ccp with schedule := s.ccp.schedule.map f } }, { e with last := false })
    else (s, e)
  | none => (s, e)

/-- The raster of an effect's group has come to its line (R36). -/
def State.atEffect (s : State) (e : Sched) : State :=
  if (s.tg e.effect.tg).pos.frame = e.effect.frame then s.toLine e.effect.tg e.effect.line else s

/-- A change of a group's settings (R35, R38, R147): inside an Eclipse its OUTCOME waits for TG_ENABLE_START; by Glide the
OUTCOME gives the first frame of the new epoch. -/
def State.takeGroup (s : State) (e : Sched) (ext : Int) : State :=
  let g := u8 e.args 0
  let old := s.tg g
  let r := applyTimingGroup e ext s
  let new := r.1.tg g
  let changed := old.raster != new.raster || old.rate != new.rate
  let s := if changed then r.1.reduceOffsets g else r.1
  if r.2 then
    let x : Effect := if changed then ⟨g, new.pos.frame, 1⟩ else e.effect
    (s.moveEffect e x).effected { e with effect := x } 1 true
  else s.mapSched e.jsn fun y => { y with begun := true }

/-- A part of a scheduled command takes effect whole, or as stored configuration only under a fence (R531). -/
def State.runPart (s : State) (e : Sched) : State :=
  let taken := s.takesEffect e
  let s := s.tellSkipped e
  let s := s.takeEffect e
  let x := s.effectPlace e
  let s := s.moveEffect e x
  s.effected { e with effect := x } (b2n taken + 4 * b2n (s.cutByJump e)) (standingOpcodes.contains e.opcode)
    (s.effectPayload e)

/-- A layer commit at its first active line (R230, R531). -/
def State.runCommit (s : State) (e : Sched) : State :=
  if s.takesEffect e then s.takeCommit e
  else
    let s := s.tellSkipped e
    (if e.begun then s else s.freezeCommit e).effected e 0 false

/-- A part of a scheduled command reaches its effect point (R48, R49, R89, R114). -/
def State.runScheduled (s : State) (e : Sched) (ext : Int) : State :=
  let s := s.atEffect e
  let h := s.handLast e
  if e.opcode = 0x0202 then (if e.begun then s else s.takeGroup e ext)
  else if e.opcode = 0x0602 then (if e.kind = 6 then s else s.runCommit e)
  else if e.opcode = 0x0801 ∨ e.opcode = 0x0802 then (if e.kind = 100 then s else s.applyAudio e)
  else if e.opcode = 0x0B01 then commandedFenceEffect e.jsn s
  else if e.opcode = 0x0D02 then s.beginSwap e
  else if e.opcode = 0x0702 ∧ !e.begun ∧ s.journal.swapping then s
  else h.1.runPart h.2

/-- The part-th part of a scheduled command that still waits reaches its effect point; `ext` is the phase error that a
change of phase offset meets (R52). Parts of earlier commands at the same point come first (R49). -/
def scheduledEffect (jsn part : Nat) (ext : Int) (s : State) : State :=
  match (s.ccp.schedule.filter fun e => e.jsn == jsn)[part]? with
  | none => s
  | some e => if s.health.tripped || !s.turnOf e then s else s.runScheduled e ext

/-- SCHEDULED_EFFECT. -/
def execScheduledEffect (jsn part : Nat) (ext : Int) (s : State) : Host.Outcome State Fault Refusal :=
  .next (scheduledEffect jsn part ext s)

end Sys2Proof.Machine
end

