-- ==== Sys2Proof/Machine/Frames.lean ====
section
/-! DEFINITION. A frame of a timing group: the freeze at its Dusk line (R45) and its start (R35), with the selection of the
synchronisers (R149 to R151) and what the outputs carry (R126, R129 to R131, R137). -/

namespace Sys2Proof.Machine

/-! ## The Dusk line -/

/-- The channels of a list that belong to a group. -/
def encsOf (s : State) (g : Nat) : List Nat := (s.coding.encs.filter fun e => e.2.tg == g).map (·.1)
def decsOf (s : State) (g : Nat) : List Nat := (s.coding.decs.filter fun e => e.2.tg == g).map (·.1)

/-- What freezes at the end of line D (R45): canvases, panel content, header tasks with their commands, watch-table edits
and the evaluation of the watch table (R179), the attempts to find a core again (R202, R271, R320). -/
def State.freezeMedia (s : State) (g : Nat) (lateHeaders : List Nat) : State :=
  let s := ((s.freezeCanvases g).freezePanels g).freezeEncoders g lateHeaders
  let s := (s.freezeRules g).retryMotion g
  let s := (encsOf s g).foldl (fun s n => s.retryEnc n) s
  let s := (decsOf s g).foldl (fun s n => s.retryDec n) s
  if s.memory.blackGroups.contains g || s.memory.blackGroups.contains (8 + g) then s else s.evalRules g

/-- DUSK_FREEZE (R45): the raster is at the end of line D; what comes after is late for this Dusk line (R47). A device in
retreat does no media work (R425). -/
def duskFreeze (g : Nat) (lateHeaders : List Nat) (s : State) : State :=
  let t := s.tg g
  if 8 ≤ g ∨ !t.enabled ∨ t.starting then s
  else
    let s := s.toLine g t.duskLine
    let s := if s.halted then s else s.freezeMedia g lateHeaders
    s.toLine g (t.duskLine + 1)

/-- DUSK_FREEZE. -/
def execDuskFreeze (g : Nat) (lateHeaders : List Nat) (s : State) : Host.Outcome State Fault Refusal :=
  .next (duskFreeze g lateHeaders s)

/-! ## Selection -/

/-- Samples of the frame of a group. -/
def Tg.samples (t : Tg) : Nat := totalLines t.raster * samplesPerLine t.raster t.rate

/-- The selection window [W, E) in luma samples (R149). -/
def syncWindow (t : Tg) (x : SyncSet) : Int × Int :=
  let l := samplesPerLine t.raster t.rate
  let w : Int := x.guard * l + x.offset
  let w := if w < 4 * l then w + t.samples else w
  (w, w + t.samples + 4 * l)

/-- A margin in ns is at least a length in luma samples of the group. -/
def marginAtLeast (t : Tg) (ns x : Int) : Bool :=
  let f := frameFraction t.raster t.rate
  decide (x * 1000000000 * f.2 ≤ ns * f.1 * t.samples)

/-- What the four steps of R149 come to. -/
inductive Pick where
  | seat (z : Slot)
  | following (z : Slot)
  | drop (z z2 : Slot)
  | repeating
  | unmoved
  deriving DecidableEq, Repr

/-- The selection of R149 at an output frame that starts at a DT; `pass` lets incomplete frames be seated. -/
def Sync.pick (y : Sync) (t : Tg) (x : SyncSet) (dt : Nat) : Pick :=
  let w := syncWindow t x
  let margin (z : Slot) : Int := (dt : Int) - z.start
  let seat := match y.slots.find? fun z => !z.bad && marginAtLeast t (margin z) w.1 with
    | some z => Pick.seat z
    | none => .unmoved
  match y.pos with
  | none => seat
  | some p =>
    match y.slots.find? fun z => z.seq == p + 1 with
    | none => if y.slots.any fun z => decide (p + 1 < z.seq) then seat else .repeating
    | some z =>
      if marginAtLeast t (margin z) (w.2 + t.samples) then seat
      else if !marginAtLeast t (margin z) w.1 then .repeating
      else if marginAtLeast t (margin z) w.2 then
        match y.slots.find? fun z => z.seq == p + 2 with
        | some z2 => .drop z z2
        | none => .following z
      else .following z

/-- A frame is sent: its packets behind those carried from dropped frames (R129). -/
def Sync.send (y : Sync) (i : Input) (z : Slot) (dt : Nat) (carried : List AncPacket) : Sync :=
  { y with
    pos := some z.seq, out := .picture z.seq, margin := (dt : Int) - z.start, carried := []
    anc := carried ++ z.anc, again := z.anc.filter fun p => !i.isEvent p
    lastGood := if z.done && !z.bad then some z.seq else y.lastGood }

/-- The frame sent last is sent again (R129, R149). -/
def Sync.resend (y : Sync) (dt : Nat) : Sync :=
  { y with
    out := match y.pos with
      | some p => .again p
      | none => .black
    margin := (match y.slots.find? fun z => some z.seq == y.pos with
      | some z => (dt : Int) - z.start
      | none => y.margin)
    anc := match y.pos with
      | some _ => y.again
      | none => [] }

/-- What a synchroniser sends while its input is in LOSS (R151). -/
def Sync.lossFrame (y : Sync) (x : SyncSet) : Sync :=
  if x.loss = 2 then { y with
    out := .asWritten, anc := match y.slots with
      | z :: _ => z.anc
      | [] => [] }
  else
    match y.lastGood with
    | some q =>
      if x.loss = 1 ∧ (x.freeze = 0 ∨ y.frozen < x.freeze) then
        { y with out := .freeze q, anc := y.again, frozen := y.frozen + 1 }
      else { y with out := .black, anc := [] }
    | none => { y with out := .black, anc := [] }

/-- The frame of a synchroniser at an output frame that starts at a DT (R149 to R151), and whether it passed over an
incomplete frame, which counts as FRAME_INCOMPLETE (log entry 23). -/
def Sync.select (y : Sync) (i : Input) (t : Tg) (x : SyncSet) (dt : Nat) : Sync × Bool :=
  let known (z : Slot) : Bool := z.bad && x.loss != 2
  if i.loss ≠ 0 then (y.lossFrame x, false)
  else
    match y.pick t x dt with
    | .seat z => ({ y.send i z dt y.carried with reseats := y.reseats + 1 }, false)
    | .following z => if known z then (y.resend dt, true) else (y.send i z dt y.carried, false)
    | .drop z z2 =>
      if known z2 then (y.resend dt, true)
      else ({ y.send i z2 dt (y.carried ++ z.anc.filter i.isEvent) with drops := y.drops + 1 }, false)
    | .repeating => ({ y.resend dt with repeats := y.repeats + 1 }, false)
    | .unmoved => (if y.pos = none then y.lossFrame { x with loss := if x.loss = 1 then 0 else x.loss } else y.resend dt, false)

/-- The running synchronisers of a group select (R149); a group whose memory is being rebuilt sends black (R469). -/
def State.selectSyncs (s : State) (g : Nat) : State :=
  let t := s.tg g
  let black := s.memory.blackGroups.contains g || s.memory.blackGroups.contains (8 + g)
  (s.signals.syncs.filter fun e => e.1 % 8 == g).foldl (fun s e =>
    let src := e.1 / 8
    let i := s.input src
    let r := if black then ({ e.2 with out := .black, anc := [] }, false)
      else e.2.select i t (tabGet s.signals.settings e.1 {}) s.time.dt
    let s := { s with signals := { s.signals with syncs := tabPut s.signals.syncs e.1 r.1 } }
    if r.2 then s.setInput src { i with count := { i.count with incomplete := i.count.incomplete + 1 } } else s) s

/-! ## Units as sources -/

/-- The sources of class 0x2 to 0x5 whose unit runs in a group (R166). -/
def State.unitSources (s : State) (g : Nat) : List Nat :=
  ((s.conversion.pipes.filter fun e => e.2.enabled && e.2.tg == g).map fun e => 0x2000 + e.1)
    ++ ((s.pictures.canvases.filter fun e => e.2.enabled && e.2.tg == g).map fun e => 0x3000 + e.1)
    ++ ((decsOf s g).map fun n => 0x4000 + n)
    ++ ((s.routing.gens.filter fun e => e.2.enabled && e.2.tg == g).map fun e => 0x5000 + e.1)

/-- The frame of each unit source ends whole and the next begins (R170); what it measured serves the watch rules (R178) and
the pipes it feeds (R187, R189). -/
def State.unitFrames (s : State) (g : Nat) (measures : List (Nat × Measures)) : State :=
  (s.unitSources g).foldl (fun s src =>
    if s.sourceStopped src then s
    else
      let s := s.closeFrame src true (s.unitAnc src)
      let s := s.openFrame src s.time.dt
      match measures.find? fun e => e.1 == src with
      | some e => (s.setInput src { s.input src with picture := some e.2 }).pipesSee src e.2
      | none => s) s

/-! ## What an output carries -/

/-- The words that a packet takes: its data words, the three of its flag, its identifiers, count and checksum. -/
def ancSize (p : AncPacket) : Nat := p.data.length + 7

/-- A packet has room on a line of an output beside those already placed. -/
def ancHasRoom (raster rate : Nat) (placed : List AncPacket) (p : AncPacket) (line : Nat) : Bool :=
  let used := ((placed.filter fun q => q.line == line && q.vanc == p.vanc).map ancSize).sum
  decide (used + ancSize p ≤ Config.ancRoom raster rate (b2n p.vanc) line)

/-- The lines on which a packet may stand on an output of its own raster: its own, or, where that is the switching line or
the next, the VANC lines after them, the first with room (R130). -/
def ancLines (raster : Nat) (p : AncPacket) : List Nat :=
  let s := switchLine raster
  if p.line = s ∨ p.line = s + 1 then (List.range (firstActive raster - (s + 2))).map (s + 2 + ·) else [p.line]

/-- Packets are placed on an output in ascending line order, those that are moved last, so that what does not fit is
dropped in descending line order; the number dropped (R130). -/
def ancPlace (raster rate : Nat) (l : List AncPacket) : List AncPacket × Nat :=
  let moved (p : AncPacket) : Bool := (ancLines raster p) != [p.line]
  let order := (l.filter fun p => !moved p).mergeSort (fun p q => decide (p.line ≤ q.line)) ++ l.filter moved
  let put (a : List AncPacket × Nat) (p : AncPacket) : List AncPacket × Nat :=
    match (ancLines raster p).find? (ancHasRoom raster rate a.1 p) with
    | some line => (a.1 ++ [{ p with line, vanc := p.vanc || moved p }], a.2)
    | none => (a.1, a.2 + 1)
  order.foldl put ([], 0)

/-- An ST 12-2 timecode packet (R131). -/
def isTimecode (p : AncPacket) : Bool := p.did == 0x60 && p.sdid == 0x60

/-- Frames of a day counted with drop-frame numbering: n frames since midnight, `ten` frames in ten minutes, `minute` in a
minute that drops, `gap` numbers dropped. -/
def dropFrame (n ten minute gap : Nat) : Nat :=
  n + 9 * gap * (n / ten) + (if gap ≤ n % ten then gap * ((n % ten - gap) / minute) else 0)

/-- Time of day of a DT in hours, minutes, seconds and frames (R131): UTC and the local offset, drop-frame numbers at 29.97
and 59.94 Hz. -/
def timeOfDay (raster rate : Nat) (dt : Nat) (utc localMinutes : Int) : Nat × Nat × Nat × Nat :=
  let f := frameFraction raster rate
  let ns := (((dt : Int) - utc * 1000000000 + localMinutes * 60000000000) % 86400000000000).toNat
  let n := ns * f.1 / (f.2 * 1000000000)
  let whole := (f.1 + f.2 - 1) / f.2
  let n := if f.2 = 1 then n else if whole = 30 then dropFrame n 17982 1798 2
    else if whole = 60 then dropFrame n 35964 3596 4 else n
  (n / (3600 * whole) % 24, n / (60 * whole) % 60, n / whole % 60, n % whole)

/-- The packets that a source brings to a destination in a frame of a group (R129, R151, R167). -/
def State.ancFor (s old : State) (d g : Nat) : List AncPacket :=
  let src := (s.dest d).source
  if src = 0xF000 ∨ (s.dest d).lane then []
  else
    match (s.signals.syncs.find? fun e => e.1 == pairKey src g).map (·.2) with
    | some y =>
      if s.compatible d src then y.anc
      else if (tabGet s.signals.settings (pairKey src g) {}).loss = 1 then y.again else []
    | none => if s.compatible d src then old.unitAnc src else []

/-- The group whose raster a destination follows: a clone-group member follows its canvas (R239). -/
def State.outGroup (s : State) (d : Nat) : Nat := match s.cloneOf d with
  | some c => (s.canvas c).tg
  | none => s.destGroup d

/-- The frame of an SDI output or a transmit flow begins (R130, R131, R159): its ancillary packets, its timecode, and a hot
cut no longer in its status. -/
def State.outputFrame (s old : State) (d g : Nat) : State :=
  let x := s.dest d
  let t := s.tg g
  let l := s.ancFor old d g
  let l := if x.timecode = 0 then l else l.filter fun p => !isTimecode p
  let r := if cls d = 0 then ancPlace t.raster t.rate l else (l, 0)
  s.setDest d { x with
    hotCut := false, anc := r.1, ancDropped := x.ancDropped + r.2
    time := if x.timecode = 1 then some (timeOfDay t.raster t.rate s.time.dt s.signals.utcOffset x.localOffset) else none }

/-- The destinations of a group on the crosspoints. -/
def State.outputs (s : State) (g : Nat) : List Nat :=
  (s.routing.dests.filter fun e => decide (cls e.1 ≤ 1) && s.outGroup e.1 == g).map (·.1)

/-- A picture or ancillary transmit flow sends the frame that starts (R135, R137): its timestamp is the DT of the start at
90 kHz. A flow whose key is withdrawn does not send (R144). -/
def State.sendFlows (s : State) (g : Nat) : State :=
  let dt := (s.tg g).frameStart
  let f (n : Nat) (x : Flow) : Flow :=
    if x.enabled && (pictureKind x.kind || x.kind == 3) && s.outGroup (0x1000 + n) == g
        && (x.handle == 0 || s.keyUsable x.handle) then
      { x with
        waiting := false, txTs := dt * 9 / 100000 % 2 ^ 32
        txSeq := (x.txSeq + Config.flowPackets x.cfg) % 65536 }
    else x
  { s with signals := { s.signals with tx := tabMap f s.signals.tx } }

/-! ## The frame start -/

/-- Frames after an HBM fence (R469): the units of a group are black until they have written a whole frame in the new map,
and such frames are counted. -/
def State.rebuildFrame (s : State) (g : Nat) : State :=
  let m := s.memory
  if m.blackGroups.contains g then
    s.mapMemory fun m => { m with
      rebuildFrames := m.rebuildFrames + 1
      blackGroups := if m.rebuilding then m.blackGroups else m.blackGroups.map fun x => if x = g then 8 + g else x }
  else s.mapMemory fun m => { m with blackGroups := m.blackGroups.filter (· != 8 + g) }

/-- The late lines of the frame before (R126, R150, R237, R239). -/
def State.lateLines (s : State) (g : Nat) (f : FrameFacts) : State :=
  let s := (f.egressLate.filter fun e => s.outGroup e.1 == g).foldl (fun s e => s.egressLate e.1 e.2) s
  let s := f.writeLate.foldl (fun s src =>
    let i := s.input src
    if (s.signals.syncs.any fun e => e.1 == pairKey src g) then
      s.setInput src { i with count := { i.count with incomplete := i.count.incomplete + 1 } }
    else s) s
  let s := (f.canvasLate.filter fun e => decide (e.1 < 16) && (s.canvas e.1).tg == g && (s.canvas e.1).enabled).foldl
    (fun s e => s.canvasLate e.1 e.2 false) s
  (f.scanLate.filter fun e => decide (e.1 < 16) && (s.canvas e.1).tg == g && (s.canvas e.1).enabled).foldl
    (fun s e => s.canvasLate e.1 e.2 true) s

/-- Mirror has read the frame before of every SDI output of a group (R241, R242); a mismatch counts for the fencing policy
(R532). -/
def State.mirrorFrames (s : State) (g : Nat) (l : List (Nat × List Nat)) : State :=
  ((List.range 144).filter fun n => s.outGroup n == g).foldl (fun s n =>
    let v := ((l.find? fun e => e.1 == n).map (·.2)).getD []
    let t := s.mirrorFrame n v
    if v.sum ≠ 0 ∧ s.outputSends n then t.policyHit 2 n 1 else t) s

/-- The panel ports of a group fill their frame buffers (R249). -/
def State.fillPanels (s : State) (g : Nat) (l : List (Nat × List Nat)) : State :=
  let f (n : Nat) (p : Panel) : Panel :=
    if p.tg = g then p.fill (((l.find? fun e => e.1 == n).map (·.2)).getD []) else p
  { s with panels := { s.panels with ports := tabMap f s.panels.ports } }

/-- The work of the media units at a frame start, in this order: what takes effect with the frame, the late lines of the
frame before, the unit sources, the synchronisers, the channels, canvases and pipes, and the outputs. -/
def State.mediaFrame (s : State) (g : Nat) (f : FrameFacts) : State :=
  let s := ((s.rebuildFrame g).takeAtStart g).returnCores g
  let s := (s.lateLines g f).mirrorFrames g f.mirror
  let s := (s.composeCanvases g).takeDecoders g
  let s := (encsOf s g).foldl (fun s n => s.moveEnc n) s
  let s := (decsOf s g).foldl (fun s n => s.moveDec n) s
  let old := s
  let s := s.unitFrames g f.measures
  let s := (decsOf s g).foldl (fun s n => s.decFrame n (((f.decode.find? fun e => e.1 == n).map (·.2)).getD 0)) s
  let s := s.selectSyncs g
  let pipes := (s.conversion.pipes.filter fun e => e.2.tg == g).map (·.1)
  let s := pipes.foldl (fun s n => (s.stepFallback n).pipeFrame old n) s
  let s := (s.outputs g).foldl (fun s d => s.outputFrame old d g) s
  (s.sendFlows g).fillPanels g f.tiles

/-- TG_FRAME_START (R35): the frame count increases by 1. In retreat the rasters run on and the media units rest (R425). -/
def tgFrameStart (g : Nat) (f : FrameFacts) (s : State) : State :=
  let t := s.tg g
  if 8 ≤ g ∨ !t.enabled ∨ t.starting then s
  else
    let s := (s.frameStart g).followFrame g
    if s.halted then (if s.health.tripped then s else s.mirrorFrames g f.mirror) else s.mediaFrame g f

/-- TG_FRAME_START. -/
def execTgFrameStart (g : Nat) (f : FrameFacts) (s : State) : Host.Outcome State Fault Refusal :=
  .next (tgFrameStart g f s)

end Sys2Proof.Machine
end

