-- ==== Sys2Proof/Machine/Dispatch.lean ====
section
/-! DEFINITION. Which meaning each command has. -/

namespace Sys2Proof.Machine

def exec (i : Instr) (s : State) : Host.Outcome State Fault Refusal :=
  match i with
  | .sessionOpen r => Sys2Proof.Machine.execSessionOpen r s
  | .sessionAttach r => Sys2Proof.Machine.execSessionAttach r s
  | .sessionClose r => Sys2Proof.Machine.execSessionClose r s
  | .commandCancel r => Sys2Proof.Machine.execCommandCancel r s
  | .sessionInfo r => Sys2Proof.Machine.execSessionInfo r s
  | .capacityReport r => Sys2Proof.Machine.execCapacityReport r s
  | .commandResult r => Sys2Proof.Machine.execCommandResult r s
  | .referenceSet r => Sys2Proof.Machine.execReferenceSet r s
  | .timingGroupSet r => Sys2Proof.Machine.execTimingGroupSet r s
  | .dtSet r => Sys2Proof.Machine.execDtSet r s
  | .synthConfigure r => Sys2Proof.Machine.execSynthConfigure r s
  | .timeStatus r => Sys2Proof.Machine.execTimeStatus r s
  | .clockStatus r => Sys2Proof.Machine.execClockStatus r s
  | .quadAllocate r => Sys2Proof.Machine.execQuadAllocate r s
  | .laneConfigure r => Sys2Proof.Machine.execLaneConfigure r s
  | .laneRearm r => Sys2Proof.Machine.execLaneRearm r s
  | .flowConfigure r => Sys2Proof.Machine.execFlowConfigure r s
  | .laneTestSet r => Sys2Proof.Machine.execLaneTestSet r s
  | .laneStatus r => Sys2Proof.Machine.execLaneStatus r s
  | .flowStatus r => Sys2Proof.Machine.execFlowStatus r s
  | .flowSdp r => Sys2Proof.Machine.execFlowSdp r s
  | .routeSet r => Sys2Proof.Machine.execRouteSet r s
  | .salvo r => Sys2Proof.Machine.execSalvo r s
  | .destinationLock r => Sys2Proof.Machine.execDestinationLock r s
  | .watchRuleSet r => Sys2Proof.Machine.execWatchRuleSet r s
  | .syncConfigure r => Sys2Proof.Machine.execSyncConfigure r s
  | .destinationConfigure r => Sys2Proof.Machine.execDestinationConfigure r s
  | .testGeneratorSet r => Sys2Proof.Machine.execTestGeneratorSet r s
  | .tallyRead r => Sys2Proof.Machine.execTallyRead r s
  | .routeRead r => Sys2Proof.Machine.execRouteRead r s
  | .watchStatus r => Sys2Proof.Machine.execWatchStatus r s
  | .pipeConfigure r => Sys2Proof.Machine.execPipeConfigure r s
  | .pipeGang r => Sys2Proof.Machine.execPipeGang r s
  | .pipeLutLoad r => Sys2Proof.Machine.execPipeLutLoad r s
  | .pipeStatus r => Sys2Proof.Machine.execPipeStatus r s
  | .canvasConfigure r => Sys2Proof.Machine.execCanvasConfigure r s
  | .layerCommit r => Sys2Proof.Machine.execLayerCommit r s
  | .surfaceAllocate r => Sys2Proof.Machine.execSurfaceAllocate r s
  | .surfaceRelease r => Sys2Proof.Machine.execSurfaceRelease r s
  | .surfaceWrite r => Sys2Proof.Machine.execSurfaceWrite r s
  | .surfaceReady r => Sys2Proof.Machine.execSurfaceReady r s
  | .cloneGroupSet r => Sys2Proof.Machine.execCloneGroupSet r s
  | .flattenBudgetSet r => Sys2Proof.Machine.execFlattenBudgetSet r s
  | .panelConfigure r => Sys2Proof.Machine.execPanelConfigure r s
  | .panelSequenceSet r => Sys2Proof.Machine.execPanelSequenceSet r s
  | .panelContentSet r => Sys2Proof.Machine.execPanelContentSet r s
  | .canvasStatus r => Sys2Proof.Machine.execCanvasStatus r s
  | .surfaceStatus r => Sys2Proof.Machine.execSurfaceStatus r s
  | .mirrorStatus r => Sys2Proof.Machine.execMirrorStatus r s
  | .panelStatus r => Sys2Proof.Machine.execPanelStatus r s
  | .encodeChannelOpen r => Sys2Proof.Machine.execEncodeChannelOpen r s
  | .encodeChannelSet r => Sys2Proof.Machine.execEncodeChannelSet r s
  | .encodeChannelClose r => Sys2Proof.Machine.execEncodeChannelClose r s
  | .packetiserSet r => Sys2Proof.Machine.execPacketiserSet r s
  | .encodeHostRingSet r => Sys2Proof.Machine.execEncodeHostRingSet r s
  | .decodeChannelOpen r => Sys2Proof.Machine.execDecodeChannelOpen r s
  | .decodeHostRingSet r => Sys2Proof.Machine.execDecodeHostRingSet r s
  | .decodeChannelSet r => Sys2Proof.Machine.execDecodeChannelSet r s
  | .decodeChannelClose r => Sys2Proof.Machine.execDecodeChannelClose r s
  | .channelStatistics r => Sys2Proof.Machine.execChannelStatistics r s
  | .coreStatus r => Sys2Proof.Machine.execCoreStatus r s
  | .audioRouteSet r => Sys2Proof.Machine.execAudioRouteSet r s
  | .audioGainSet r => Sys2Proof.Machine.execAudioGainSet r s
  | .tdmPortConfigure r => Sys2Proof.Machine.execTdmPortConfigure r s
  | .audioHostRingSet r => Sys2Proof.Machine.execAudioHostRingSet r s
  | .audioDestinationSet r => Sys2Proof.Machine.execAudioDestinationSet r s
  | .audioSourceSet r => Sys2Proof.Machine.execAudioSourceSet r s
  | .audioSystemSet r => Sys2Proof.Machine.execAudioSystemSet r s
  | .audioMclkSet r => Sys2Proof.Machine.execAudioMclkSet r s
  | .audioStatus r => Sys2Proof.Machine.execAudioStatus r s
  | .tdmPortStatus r => Sys2Proof.Machine.execTdmPortStatus r s
  | .nvCommit r => Sys2Proof.Machine.execNvCommit r s
  | .apertureSet r => Sys2Proof.Machine.execApertureSet r s
  | .cvuScan r => Sys2Proof.Machine.execCvuScan r s
  | .nightlightPolicySet r => Sys2Proof.Machine.execNightlightPolicySet r s
  | .memoryQosSet r => Sys2Proof.Machine.execMemoryQosSet r s
  | .memoryStatus r => Sys2Proof.Machine.execMemoryStatus r s
  | .nightlightMapRead r => Sys2Proof.Machine.execNightlightMapRead r s
  | .nvStatus r => Sys2Proof.Machine.execNvStatus r s
  | .nvLogRead r => Sys2Proof.Machine.execNvLogRead r s
  | .coChallenge r => Sys2Proof.Machine.execCoChallenge r s
  | .coRespond r => Sys2Proof.Machine.execCoRespond r s
  | .userChallenge r => Sys2Proof.Machine.execUserChallenge r s
  | .userRespond r => Sys2Proof.Machine.execUserRespond r s
  | .attest r => Sys2Proof.Machine.execAttest r s
  | .streamKeyEstablish r => Sys2Proof.Machine.execStreamKeyEstablish r s
  | .streamKeyWithdraw r => Sys2Proof.Machine.execStreamKeyWithdraw r s
  | .zeroize r => Sys2Proof.Machine.execZeroize r s
  | .registerLock r => Sys2Proof.Machine.execRegisterLock r s
  | .userKeySet r => Sys2Proof.Machine.execUserKeySet r s
  | .peerKeySet r => Sys2Proof.Machine.execPeerKeySet r s
  | .coProvision r => Sys2Proof.Machine.execCoProvision r s
  | .fusePolicySet r => Sys2Proof.Machine.execFusePolicySet r s
  | .selfTestRun r => Sys2Proof.Machine.execSelfTestRun r s
  | .lanternStatus r => Sys2Proof.Machine.execLanternStatus r s
  | .devidCertRead r => Sys2Proof.Machine.execDevidCertRead r s
  | .unitFence r => Sys2Proof.Machine.execUnitFence r s
  | .unitUnfence r => Sys2Proof.Machine.execUnitUnfence r s
  | .unitTest r => Sys2Proof.Machine.execUnitTest r s
  | .deviceRestart r => Sys2Proof.Machine.execDeviceRestart r s
  | .eventRouteSet r => Sys2Proof.Machine.execEventRouteSet r s
  | .fencePolicySet r => Sys2Proof.Machine.execFencePolicySet r s
  | .healthStatus r => Sys2Proof.Machine.execHealthStatus r s
  | .eventCatalogue r => Sys2Proof.Machine.execEventCatalogue r s
  | .journalHead r => Sys2Proof.Machine.execJournalHead r s
  | .journalRead r => Sys2Proof.Machine.execJournalRead r s
  | .stateSnapshot r => Sys2Proof.Machine.execStateSnapshot r s
  | .firmwareLoad r => Sys2Proof.Machine.execFirmwareLoad r s
  | .firmwareActivate r => Sys2Proof.Machine.execFirmwareActivate r s
  | .firmwareStatus r => Sys2Proof.Machine.execFirmwareStatus r s
  | .bootImagePush r => Sys2Proof.Machine.execBootImagePush r s
  | .cascadeConfigure r => Sys2Proof.Machine.execCascadeConfigure r s
  | .cascadeExportSet r => Sys2Proof.Machine.execCascadeExportSet r s
  | .cascadeStatus r => Sys2Proof.Machine.execCascadeStatus r s
  | .ccpMbDoorbell opcode r => Sys2Proof.Machine.execCcpMbDoorbell opcode r s
  | .lockedRequestBufferWrite v m => Sys2Proof.Machine.execLockedRequestBufferWrite v m s
  | .mailboxTimeout v m => Sys2Proof.Machine.execMailboxTimeout v m s
  | .cmdComplete jsn => Sys2Proof.Machine.execCmdComplete jsn s
  | .scheduledEffect jsn part ext => Sys2Proof.Machine.execScheduledEffect jsn part ext s
  | .swapEnd mismatch => Sys2Proof.Machine.execSwapEnd mismatch s
  | .swapWatchdogExpiry => Sys2Proof.Machine.execSwapWatchdogExpiry s
  | .duskFreeze g lateHeaders => Sys2Proof.Machine.execDuskFreeze g lateHeaders s
  | .canvasCommitExpired c l => Sys2Proof.Machine.execCanvasCommitExpired c l s
  | .watchDecisionEffect d => Sys2Proof.Machine.execWatchDecisionEffect d s
  | .tgFrameStart g f => Sys2Proof.Machine.execTgFrameStart g f s
  | .tgEnableStart g => Sys2Proof.Machine.execTgEnableStart g s
  | .ptpSyncMessage cand origin correction => Sys2Proof.Machine.execPtpSyncMessage cand origin correction s
  | .referenceLocked cand newTime errors => Sys2Proof.Machine.execReferenceLocked cand newTime errors s
  | .referenceLost cand newTime errors => Sys2Proof.Machine.execReferenceLost cand newTime errors s
  | .revertHoldExpiry cand newTime errors => Sys2Proof.Machine.execRevertHoldExpiry cand newTime errors s
  | .ppsEdge => Sys2Proof.Machine.execPpsEdge s
  | .sdiFrameReceived n f => Sys2Proof.Machine.execSdiFrameReceived n f s
  | .inputLoss src reason link => Sys2Proof.Machine.execInputLoss src reason link s
  | .inputRestored src => Sys2Proof.Machine.execInputRestored src s
  | .flowNoPacketTimeout n => Sys2Proof.Machine.execFlowNoPacketTimeout n s
  | .ipPacketReceived n leg p => Sys2Proof.Machine.execIpPacketReceived n leg p s
  | .mergeWindowExpiry n => Sys2Proof.Machine.execMergeWindowExpiry n s
  | .flowLegLost n leg => Sys2Proof.Machine.execFlowLegLost n leg s
  | .flowLegRestored n leg => Sys2Proof.Machine.execFlowLegRestored n leg s
  | .mirrorClear n => Sys2Proof.Machine.execMirrorClear n s
  | .mirrorNoSignal n link => Sys2Proof.Machine.execMirrorNoSignal n link s
  | .lanePassLoss n => Sys2Proof.Machine.execLanePassLoss n s
  | .lanePassResume n => Sys2Proof.Machine.execLanePassResume n s
  | .surfaceLastUsePassed h => Sys2Proof.Machine.execSurfaceLastUsePassed h s
  | .flattenBuildComplete c => Sys2Proof.Machine.execFlattenBuildComplete c s
  | .panelTeEdge n => Sys2Proof.Machine.execPanelTeEdge n s
  | .panelInternalTick n => Sys2Proof.Machine.execPanelInternalTick n s
  | .panelPushComplete n => Sys2Proof.Machine.execPanelPushComplete n s
  | .panelTeLost n => Sys2Proof.Machine.execPanelTeLost n s
  | .panelStretchEntry n => Sys2Proof.Machine.execPanelStretchEntry n s
  | .encodeDuReady n number r => Sys2Proof.Machine.execEncodeDuReady n number r s
  | .encodeDuAnalysisStart n number r complexity => Sys2Proof.Machine.execEncodeDuAnalysisStart n number r complexity s
  | .encodeDuDecision n number r left right qp => Sys2Proof.Machine.execEncodeDuDecision n number r left right qp s
  | .encodeDuClose n number r packets consumer => Sys2Proof.Machine.execEncodeDuClose n number r packets consumer s
  | .codingCoreFault core => Sys2Proof.Machine.execCodingCoreFault core s
  | .decodeDataArrival n x => Sys2Proof.Machine.execDecodeDataArrival n x s
  | .reorderWindowExpiry n => Sys2Proof.Machine.execReorderWindowExpiry n s
  | .decodeHostRingPoll n producer => Sys2Proof.Machine.execDecodeHostRingPoll n producer s
  | .decodePictureDone n => Sys2Proof.Machine.execDecodePictureDone n s
  | .decodeDeadline n ctus => Sys2Proof.Machine.execDecodeDeadline n ctus s
  | .decodeLossTimeout n => Sys2Proof.Machine.execDecodeLossTimeout n s
  | .decoderCoreFault core => Sys2Proof.Machine.execDecoderCoreFault core s
  | .audioBlock n ins recs consumers => Sys2Proof.Machine.execAudioBlock n ins recs consumers s
  | .audioSyncWindow e drift ratio => Sys2Proof.Machine.execAudioSyncWindow e drift ratio s
  | .exactSlipDue e => Sys2Proof.Machine.execExactSlipDue e s
  | .nonAudioGapSlip e pair => Sys2Proof.Machine.execNonAudioGapSlip e pair s
  | .audioBurstSlip e pair => Sys2Proof.Machine.execAudioBurstSlip e pair s
  | .nonAudioReturnPcm e pair => Sys2Proof.Machine.execNonAudioReturnPcm e pair s
  | .audioChangeDue d ch => Sys2Proof.Machine.execAudioChangeDue d ch s
  | .zeroCrossTimeout d ch => Sys2Proof.Machine.execZeroCrossTimeout d ch s
  | .tdmFrameReceived n fault hz => Sys2Proof.Machine.execTdmFrameReceived n fault hz s
  | .clockLost n => Sys2Proof.Machine.execClockLost n s
  | .tdmRateWindow n hz => Sys2Proof.Machine.execTdmRateWindow n hz s
  | .rateChanged n hz => Sys2Proof.Machine.execRateChanged n hz s
  | .tdmFadeInComplete n => Sys2Proof.Machine.execTdmFadeInComplete n s
  | .mclkRestart o => Sys2Proof.Machine.execMclkRestart o s
  | .laneSignalPresent n => Sys2Proof.Machine.execLaneSignalPresent n s
  | .laneSignalLost n => Sys2Proof.Machine.execLaneSignalLost n s
  | .laneUp n iface family offset ctle dfe => Sys2Proof.Machine.execLaneUp n iface family offset ctle dfe s
  | .trainingAttemptTimeout n phase skews => Sys2Proof.Machine.execTrainingAttemptTimeout n phase skews s
  | .backoffExpiry n => Sys2Proof.Machine.execBackoffExpiry n s
  | .laneDown n => Sys2Proof.Machine.execLaneDown n s
  | .laneHiBer n => Sys2Proof.Machine.execLaneHiBer n s
  | .eyeMonitorReport n h v => Sys2Proof.Machine.execEyeMonitorReport n h v s
  | .prbsCheckerLock n locked bitsIn errors => Sys2Proof.Machine.execPrbsCheckerLock n locked bitsIn errors s
  | .cascadeHello k id peer versions isMaster => Sys2Proof.Machine.execCascadeHello k id peer versions isMaster s
  | .cascadeTimePacket k origin hops dep delay => Sys2Proof.Machine.execCascadeTimePacket k origin hops dep delay s
  | .cascadeTimeEcho k trip turn => Sys2Proof.Machine.execCascadeTimeEcho k trip turn s
  | .cascadeTimeTick => Sys2Proof.Machine.execCascadeTimeTick s
  | .cascadeTimeLost newTime sdiRate errors => Sys2Proof.Machine.execCascadeTimeLost newTime sdiRate errors s
  | .cascadeControlPacket k m => Sys2Proof.Machine.execCascadeControlPacket k m s
  | .cascadeMediaPacket k p => Sys2Proof.Machine.execCascadeMediaPacket k p s
  | .cascadePathChanged origin slot taker link hops => Sys2Proof.Machine.execCascadePathChanged origin slot taker link hops s
  | .porstNAssert => Sys2Proof.Machine.execPorstNAssert s
  | .porstNRelease => Sys2Proof.Machine.execPorstNRelease s
  | .mramReadable bad => Sys2Proof.Machine.execMramReadable bad s
  | .nightlightSourceLock d backup => Sys2Proof.Machine.execNightlightSourceLock d backup s
  | .nightlightPrimaryTimeout d => Sys2Proof.Machine.execNightlightPrimaryTimeout d s
  | .nightlightSourceSwitch d => Sys2Proof.Machine.execNightlightSourceSwitch d s
  | .pcieLinkUp => Sys2Proof.Machine.execPcieLinkUp s
  | .pciePerstNAssert => Sys2Proof.Machine.execPciePerstNAssert s
  | .functionLevelReset v => Sys2Proof.Machine.execFunctionLevelReset v s
  | .lanternSelfTestDone pass => Sys2Proof.Machine.execLanternSelfTestDone pass s
  | .componentVerifyFailed => Sys2Proof.Machine.execComponentVerifyFailed s
  | .hbmTrained failed => Sys2Proof.Machine.execHbmTrained failed s
  | .firmwareStart badHmac badCells => Sys2Proof.Machine.execFirmwareStart badHmac badCells s
  | .fullFunction => Sys2Proof.Machine.execFullFunction s
  | .nightlightAdopt d lines within => Sys2Proof.Machine.execNightlightAdopt d lines within s
  | .adoptionJoin d => Sys2Proof.Machine.execAdoptionJoin d s
  | .powerFailNAssert => Sys2Proof.Machine.execPowerFailNAssert s
  | .powerFailNRelease => Sys2Proof.Machine.execPowerFailNRelease s
  | .railOutOfTolerance => Sys2Proof.Machine.execRailOutOfTolerance s
  | .zeroizeNLow => Sys2Proof.Machine.execZeroizeNLow s
  | .zeroizeGlitch => Sys2Proof.Machine.execZeroizeGlitch s
  | .zeroisationComplete => Sys2Proof.Machine.execZeroisationComplete s
  | .lanternError cause => Sys2Proof.Machine.execLanternError cause s
  | .entropyHealthTest pass => Sys2Proof.Machine.execEntropyHealthTest pass s
  | .environmentalFailure => Sys2Proof.Machine.execEnvironmentalFailure s
  | .authLockoutExpiry officer => Sys2Proof.Machine.execAuthLockoutExpiry officer s
  | .exchangeExpiry id => Sys2Proof.Machine.execExchangeExpiry id s
  | .streamKeyRekeyDue slot => Sys2Proof.Machine.execStreamKeyRekeyDue slot s
  | .streamKeyExpired slot => Sys2Proof.Machine.execStreamKeyExpired slot s
  | .receiveKeyOverlapEnd n => Sys2Proof.Machine.execReceiveKeyOverlapEnd n s
  | .sealTick => Sys2Proof.Machine.execSealTick s
  | .nvGatherAgeExpiry => Sys2Proof.Machine.execNvGatherAgeExpiry s
  | .nvSpacingExpiry => Sys2Proof.Machine.execNvSpacingExpiry s
  | .nvFlip => Sys2Proof.Machine.execNvFlip s
  | .thermalSample tj => Sys2Proof.Machine.execThermalSample tj s
  | .thermalStepLeft => Sys2Proof.Machine.execThermalStepLeft s
  | .thermalRetreatExit => Sys2Proof.Machine.execThermalRetreatExit s
  | .thermalTrip tj => Sys2Proof.Machine.execThermalTrip tj s
  | .hbmRefreshInterval h => Sys2Proof.Machine.execHbmRefreshInterval h s
  | .hbmTempRead h temp => Sys2Proof.Machine.execHbmTempRead h temp s
  | .bulkCapWindow p => Sys2Proof.Machine.execBulkCapWindow p s
  | .hbmReadComplete p addr len age corrected poisoned reader => Sys2Proof.Machine.execHbmReadComplete p addr len age corrected poisoned reader s
  | .scrubRead corrected poisoned => Sys2Proof.Machine.execScrubRead corrected poisoned s
  | .hbmStackFenced h => Sys2Proof.Machine.execHbmStackFenced h s
  | .hbmRebuildComplete => Sys2Proof.Machine.execHbmRebuildComplete s
  | .sramBankWake b stalled => Sys2Proof.Machine.execSramBankWake b stalled s
  | .sramEccUncorrectable b master addr write tiles => Sys2Proof.Machine.execSramEccUncorrectable b master addr write tiles s
  | .autoFenceMove c ix => Sys2Proof.Machine.execAutoFenceMove c ix s
  | .unitTestComplete c ix pass failing => Sys2Proof.Machine.execUnitTestComplete c ix pass failing s
  | .hardFaultFence c ix => Sys2Proof.Machine.execHardFaultFence c ix s
  | .commandedFenceEffect jsn => Sys2Proof.Machine.execCommandedFenceEffect jsn s
  | .pllLockLost p => Sys2Proof.Machine.execPllLockLost p s
  | .pllRelocked p word error => Sys2Proof.Machine.execPllRelocked p word error s
  | .eclipseEnd p => Sys2Proof.Machine.execEclipseEnd p s
  | .glideStep p => Sys2Proof.Machine.execGlideStep p s
  | .pllFailed p => Sys2Proof.Machine.execPllFailed p s
  | .pllFailedRetry p locks => Sys2Proof.Machine.execPllFailedRetry p locks s
  | .glint input isMissing => Sys2Proof.Machine.execGlint input isMissing s
  | .sysXoLost => Sys2Proof.Machine.execSysXoLost s
  | .aoXoLost => Sys2Proof.Machine.execAoXoLost s
  | .cvuStart fw n ctrl => Sys2Proof.Machine.execCvuStart fw n ctrl s
  | .cvuAbort fw n k data => Sys2Proof.Machine.execCvuAbort fw n k data s
  | .cvuScanEnd n data error => Sys2Proof.Machine.execCvuScanEnd n data error s
  | .evrEnable v r => Sys2Proof.Machine.execEvrEnable v r s
  | .evrDisable v r => Sys2Proof.Machine.execEvrDisable v r s
  | .evrConsumerWrite v r value => Sys2Proof.Machine.execEvrConsumerWrite v r value s
  | .evrModerationWrite v r count holdoff => Sys2Proof.Machine.execEvrModerationWrite v r count holdoff s
  | .moderationHoldoffExpiry r => Sys2Proof.Machine.execModerationHoldoffExpiry r s
  | .coalesceWindowClose n src failRing => Sys2Proof.Machine.execCoalesceWindowClose n src failRing s
  | .eventSummary r failRing => Sys2Proof.Machine.execEventSummary r failRing s
  | .heldCriticalWrite r failRing => Sys2Proof.Machine.execHeldCriticalWrite r failRing s
  | .hrtDtLoRead master n => Sys2Proof.Machine.execHrtDtLoRead master n s
  | .hrtTgFrameRead master g n => Sys2Proof.Machine.execHrtTgFrameRead master g n s
  | .directConfigWrite master off data => Sys2Proof.Machine.execDirectConfigWrite master off data s
  | .decodeErrorAccess master addr n write => Sys2Proof.Machine.execDecodeErrorAccess master addr n write s
  | .lockForcedRelease master addr write => Sys2Proof.Machine.execLockForcedRelease master addr write s
  | .apertureWrite offset data => Sys2Proof.Machine.execApertureWrite offset data s
  | .apertureRead offset n => Sys2Proof.Machine.execApertureRead offset n s
  | .genericRegisterWrite master off data => Sys2Proof.Machine.execGenericRegisterWrite master off data s
  | .doneWithPending v m => Sys2Proof.Machine.execDoneWithPending v m s
  | .ptpDelayResponse cand delay => Sys2Proof.Machine.execPtpDelayResponse cand delay s
  | .arpNdpIcmpEcho port => Sys2Proof.Machine.execArpNdpIcmpEcho port s
  | .panelSequenceDelayExpiry n => Sys2Proof.Machine.execPanelSequenceDelayExpiry n s
  | .perBankRefreshComplete h bank => Sys2Proof.Machine.execPerBankRefreshComplete h bank s
  | .lastDuLeft n => Sys2Proof.Machine.execLastDuLeft n s
  | .railGoodRestart => Sys2Proof.Machine.execRailGoodRestart s
  | .jtagTapOperation ix => Sys2Proof.Machine.execJtagTapOperation ix s

end Sys2Proof.Machine
end

