-- ==== Sys2Proof/Safety.lean ====
section
/-! DEFINITION. The terms in which statements speak: a request that reaches its execution, what only the protocol changes,
what a mailbox answers, and the relation between a state and any later one. -/

namespace Sys2Proof.Machine

/-! ## A request that is executed -/

/-- The state in which a request stands SUBMITTED in its mailbox (R65): the doorbell has rung, or had rung before. -/
def Cmd.before (c : Cmd) (r : Request) (s : State) : State :=
  let k := mbKey r.view r.mailbox
  if (s.mailbox k).state = .submitted ∧ (s.mailbox k).request = some (c.opcode, r) then s else s.submit k c.opcode r

/-- Firmware serves the mailbox, which is free or holds this request, and the request passes every check of R61. -/
def Cmd.passes (c : Cmd) (r : Request) (s : State) : Bool :=
  let k := mbKey r.view r.mailbox
  let m := s.mailbox k
  let b := c.before r s
  s.service r.view r.mailbox == .firmware
    && ((m.state == .submitted && m.request == some (c.opcode, r)) || !(m.state == .submitted || m.state == .accepted))
    && (c.firstFailure r b).isNone && (b.cachedToken r).isNone && c.args (c.ctx r b 0) b && (c.noMajor (c.ctx r b 0) b).isNone

/-- The state in which a request has been accepted: its JSN is given and its COMMAND entry written (R62). -/
def Cmd.taken (c : Cmd) (r : Request) (s : State) : State := c.accept r (c.before r s)

/-- The context in which an accepted request is executed. -/
def Cmd.work (c : Cmd) (r : Request) (s : State) : Ctx := c.ctx r (c.before r s) (c.taken r s).journal.newest

/-- An accepted request is executed: its data can be read (R72), no thermal retreat holds it (R425), and the standing
records suffice (R478). -/
def Cmd.executes (c : Cmd) (r : Request) (s : State) : Bool :=
  let x := c.work r s
  let t := c.taken r s
  c.passes r s && !(x.dma && r.dma.readFails && u16 r.payload 0 != 0) && !(t.boot.retreat && retreatStops c.opcode)
    && !t.overStanding c.opcode (x.args ++ x.data)

/-! ## A command that waits for its effect point -/

/-- Where a command on an object of a group is placed once it has been taken (R46 to R48). -/
def Cmd.placed (c : Cmd) (r : Request) (s : State) (k : Point) (g : Nat) : Placed :=
  (c.taken r s).place k g r.atFrame.toNat r.atLine.toNat r.group.toNat
    ((c.taken r s).stampOf (mbKey r.view r.mailbox) g)

/-- There is room in the schedule (R50), and a late command may be applied late (R47). -/
def Cmd.mayWait (c : Cmd) (r : Request) (s : State) (k : Point) (g : Nat) : Prop :=
  (c.taken r s).waiting < 8192 ∧ ((c.placed r s k g).late = true → flagDiscard r.flags.toNat = false)

/-! ## What a command leaves alone -/

/-- A state with only what the protocol, the journal, event delivery and the gather of the store hold taken from another. -/
def State.protocol (s t : State) : State :=
  { s with ccp := t.ccp, journal := t.journal, events := t.events, store := t.store }

/-- The mailbox of a request holds its final answer: DONE with a status, under the JSN it was accepted with (R63, R66). -/
def State.answered (t : State) (r : Request) (status jsn : Nat) : Prop :=
  let m := t.mailbox (mbKey r.view r.mailbox)
  m.state = .done ∧ m.status = status ∧ m.jsn = jsn

/-- The same with the response payload of a request without DMA (R63). -/
def State.answeredWith (t : State) (r : Request) (status jsn : Nat) (payload : Bytes) : Prop :=
  t.answered r status jsn ∧ (t.mailbox (mbKey r.view r.mailbox)).payload = payload

/-- The command of a request waits for its effect point (R46 to R48, R63): SCHEDULED, or APPLIED_LATE when it was armed
after its governing line, with the HRT of effect in the answer and in the schedule. -/
def State.waitsFor (t : State) (c : Cmd) (r : Request) (s : State) (k : Point) (g : Nat) : Prop :=
  let p := c.placed r s k g
  let jsn := (c.work r s).jsn
  t.answered r (if p.late then stAppliedLate else stScheduled) jsn
    ∧ (t.mailbox (mbKey r.view r.mailbox)).effect = some p.effect
    ∧ t.ccp.schedule.any fun e => e.jsn == jsn && e.opcode == c.opcode && e.effect == p.effect && e.kind == k.code
        && (c.work r s).args.isPrefixOf e.args

/-- The command of a request goes on in the background (R68): its mailbox stays ACCEPTED, and its work is among the jobs. -/
def State.worksOn (t : State) (c : Cmd) (r : Request) (s : State) : Prop :=
  let m := t.mailbox (mbKey r.view r.mailbox)
  m.state = .accepted ∧ m.jsn = (c.work r s).jsn
    ∧ t.ccp.jobs.any fun j => j.jsn == m.jsn && j.opcode == c.opcode && j.key == mbKey r.view r.mailbox

/-- A query answers OK and changes nothing but the protocol's own records; of those it leaves the schedule, the sessions and
the work in the background alone (R82). -/
def Cmd.queries (c : Cmd) (i : Request → Instr) : Prop :=
  ∀ (r : Request) (s : State), c.executes r s → ∃ t, exec (i r) s = .next t ∧ t.answered r stOk (c.work r s).jsn
    ∧ t = s.protocol t ∧ t.ccp.schedule = s.ccp.schedule ∧ t.ccp.sessions = s.ccp.sessions ∧ t.ccp.jobs = s.ccp.jobs

/-! ## The journal -/

/-- The entry that was written last, in the open page or as the last of the newest closed one (R96, R99). -/
def Journal.last (j : Journal) : Option Entry :=
  match j.open_ with
  | e :: _ => some e
  | [] => j.pages.head?.bind fun p => p.entries.getLast?

end Sys2Proof.Machine
end

