-- ==== Sys2Proof/WellFormed.lean ====
section
/-! DEFINITION. Which commands are well formed: their operands name units, registers and values that the spec gives the
module. The block takes every command; one that is not well formed finds nothing to act on. -/

namespace Sys2Proof

/-- How many mailboxes a function has (R56). -/
def mailboxesOf : View → Nat
  | .pf0 => 16
  | .pf1 => 4

/-- A function owns an event ring (R91). -/
def ringsOf (v : View) (r : Nat) : Bool := if v = .pf0 then decide (r < 3) else r == 3

/-- A request names a mailbox of its view, and its payload is as long as a header can say (R56, R59). -/
def Request.wellFormed (r : Request) : Bool :=
  decide (r.mailbox < mailboxesOf r.view ∧ r.payload.length < 65536)

/-- Each operand lies in the range of what it names. -/
def Instr.wellFormed : Instr → Bool
  | .sessionOpen r | .sessionAttach r | .sessionClose r | .commandCancel r | .sessionInfo r | .capacityReport r
  | .commandResult r | .referenceSet r | .timingGroupSet r | .dtSet r | .synthConfigure r | .timeStatus r
  | .clockStatus r | .quadAllocate r | .laneConfigure r | .laneRearm r | .flowConfigure r | .laneTestSet r
  | .laneStatus r | .flowStatus r | .flowSdp r | .routeSet r | .salvo r | .destinationLock r | .watchRuleSet r
  | .syncConfigure r | .destinationConfigure r | .testGeneratorSet r | .tallyRead r | .routeRead r
  | .watchStatus r | .pipeConfigure r | .pipeGang r | .pipeLutLoad r | .pipeStatus r | .canvasConfigure r
  | .layerCommit r | .surfaceAllocate r | .surfaceRelease r | .surfaceWrite r | .surfaceReady r
  | .cloneGroupSet r | .flattenBudgetSet r | .panelConfigure r | .panelSequenceSet r | .panelContentSet r
  | .canvasStatus r | .surfaceStatus r | .mirrorStatus r | .panelStatus r | .encodeChannelOpen r
  | .encodeChannelSet r | .encodeChannelClose r | .packetiserSet r | .encodeHostRingSet r
  | .decodeChannelOpen r | .decodeHostRingSet r | .decodeChannelSet r | .decodeChannelClose r
  | .channelStatistics r | .coreStatus r | .audioRouteSet r | .audioGainSet r | .tdmPortConfigure r
  | .audioHostRingSet r | .audioDestinationSet r | .audioSourceSet r | .audioSystemSet r | .audioMclkSet r
  | .audioStatus r | .tdmPortStatus r | .nvCommit r | .apertureSet r | .cvuScan r | .nightlightPolicySet r
  | .memoryQosSet r | .memoryStatus r | .nightlightMapRead r | .nvStatus r | .nvLogRead r | .coChallenge r
  | .coRespond r | .userChallenge r | .userRespond r | .attest r | .streamKeyEstablish r | .streamKeyWithdraw r
  | .zeroize r | .registerLock r | .userKeySet r | .peerKeySet r | .coProvision r | .fusePolicySet r
  | .selfTestRun r | .lanternStatus r | .devidCertRead r | .unitFence r | .unitUnfence r | .unitTest r
  | .deviceRestart r | .eventRouteSet r | .fencePolicySet r | .healthStatus r | .eventCatalogue r
  | .journalHead r | .journalRead r | .stateSnapshot r | .firmwareLoad r | .firmwareActivate r
  | .firmwareStatus r | .bootImagePush r | .cascadeConfigure r | .cascadeExportSet r | .cascadeStatus r => r.wellFormed
  | .ccpMbDoorbell _ r => r.wellFormed
  | .lockedRequestBufferWrite v m | .mailboxTimeout v m | .doneWithPending v m => decide (m < mailboxesOf v)
  | .cmdComplete jsn | .commandedFenceEffect jsn => decide (jsn < 2 ^ 64)
  | .scheduledEffect jsn part _ => decide (jsn < 2 ^ 64 ∧ part < 8192)
  | .duskFreeze g late => decide (g < 8) && late.all fun n => decide (n < 32)
  | .tgFrameStart g _ | .tgEnableStart g => decide (g < 8)
  | .canvasCommitExpired c l => decide (c < 16 ∧ l < 16)
  | .watchDecisionEffect d => decide (d < 0x6000)
  | .ptpSyncMessage k _ _ | .ptpDelayResponse k _ => decide (k < 8)
  | .referenceLocked k _ _ | .referenceLost k _ _ | .revertHoldExpiry k _ _ => decide (k < 8)
  | .sdiFrameReceived n _ => decide (n < 144)
  | .inputLoss src reason link => decide (src < 65536 ∧ reason < 12 ∧ link < 5)
  | .inputRestored src => decide (src < 65536)
  | .flowNoPacketTimeout n | .mergeWindowExpiry n | .receiveKeyOverlapEnd n => decide (n < 512)
  | .ipPacketReceived n leg _ => decide (n < 512 ∧ leg < 2)
  | .flowLegLost n leg | .flowLegRestored n leg => decide (n < 512 ∧ leg < 2)
  | .mirrorClear n | .lanePassLoss n | .lanePassResume n => decide (n < 144)
  | .mirrorNoSignal n link => decide (n < 144 ∧ link < 4)
  | .surfaceLastUsePassed h => decide (1 ≤ h ∧ h < 2 ^ 32)
  | .flattenBuildComplete c => decide (c < 16)
  | .panelTeEdge n | .panelInternalTick n | .panelPushComplete n | .panelTeLost n | .panelStretchEntry n
  | .panelSequenceDelayExpiry n => decide (n < 2)
  | .encodeDuReady n _ r | .encodeDuAnalysisStart n _ r _ | .encodeDuClose n _ r _ _ => decide (n < 32 ∧ r < 136)
  | .encodeDuDecision n _ r _ _ qp => decide (n < 32 ∧ r < 136 ∧ qp < 64)
  | .lastDuLeft n => decide (n < 32)
  | .codingCoreFault k | .decoderCoreFault k => decide (k < 8)
  | .decodeDataArrival n _ | .reorderWindowExpiry n | .decodeHostRingPoll n _ | .decodePictureDone n
  | .decodeDeadline n _ | .decodeLossTimeout n => decide (n < 16)
  | .audioSyncWindow e _ _ | .exactSlipDue e | .nonAudioGapSlip e _ | .audioBurstSlip e _
  | .nonAudioReturnPcm e _ => decide (e < 65536)
  | .audioChangeDue d ch | .zeroCrossTimeout d ch => decide (d < 65536 ∧ ch < 64)
  | .tdmFrameReceived n fault _ => decide (n < 16 ∧ fault < 4)
  | .clockLost n | .tdmRateWindow n _ | .rateChanged n _ | .tdmFadeInComplete n => decide (n < 16)
  | .mclkRestart o => decide (o < 8)
  | .laneSignalPresent n | .laneSignalLost n | .backoffExpiry n | .laneDown n | .laneHiBer n
  | .eyeMonitorReport n _ _ | .prbsCheckerLock n _ _ _ => decide (n < 144)
  | .laneUp n _ _ _ _ _ => decide (n < 144)
  | .trainingAttemptTimeout n phase _ => decide (n < 144 ∧ phase < 8)
  | .cascadeHello k id peer _ _ => decide (k < 4 ∧ id < 65536 ∧ peer < 4)
  | .cascadeTimePacket k _ _ _ _ | .cascadeTimeEcho k _ _ | .cascadeControlPacket k _
  | .cascadeMediaPacket k _ => decide (k < 4)
  | .cascadePathChanged origin slot taker _ _ => decide (origin < 4 ∧ slot < 256 ∧ taker < 4)
  | .nightlightSourceLock d _ | .nightlightPrimaryTimeout d | .nightlightSourceSwitch d
  | .nightlightAdopt d _ _ | .adoptionJoin d => decide (d < 144)
  | .hbmTrained failed => failed.all fun h => decide (h < 4)
  | .lanternError cause => decide (1 ≤ cause ∧ cause ≤ 5)
  | .exchangeExpiry id => decide (id < 2 ^ 32)
  | .streamKeyRekeyDue slot | .streamKeyExpired slot => decide (slot < 1024)
  | .hbmRefreshInterval h | .hbmTempRead h _ | .hbmStackFenced h => decide (h < 4)
  | .perBankRefreshComplete h _ => decide (h < 4)
  | .bulkCapWindow p => decide (44 ≤ p ∧ p < 48)
  | .hbmReadComplete p _ _ _ _ _ _ => decide (p < 48)
  | .sramBankWake b _ | .sramEccUncorrectable b _ _ _ _ => decide (b < 48)
  | .autoFenceMove c _ | .hardFaultFence c _ => decide (1 ≤ c ∧ c ≤ 8)
  | .unitTestComplete c _ _ _ => decide (1 ≤ c ∧ c ≤ 8)
  | .pllLockLost p | .eclipseEnd p | .glideStep p | .pllFailed p => decide (p < 50)
  | .pllRelocked p _ _ | .pllFailedRetry p _ => decide (p < 50)
  | .cvuStart _ n ctrl => decide (n < 8 ∧ ctrl < 2 ^ 32)
  | .cvuAbort _ n _ _ | .cvuScanEnd n _ _ => decide (n < 8)
  | .evrEnable v r | .evrDisable v r => ringsOf v r
  | .evrConsumerWrite v r value => ringsOf v r && decide (value < 2 ^ 32)
  | .evrModerationWrite v r count holdoff => ringsOf v r && decide (count < 65536 ∧ holdoff < 65536)
  | .moderationHoldoffExpiry r => decide (r < 4)
  | .eventSummary r _ | .heldCriticalWrite r _ => decide (r < 4)
  | .hrtTgFrameRead master g n => decide (master < 256 ∧ g < 8 ∧ 1 ≤ n ∧ n ≤ 8)
  | .hrtDtLoRead master n => decide (master < 256 ∧ 1 ≤ n ∧ n ≤ 8)
  | .directConfigWrite master off data | .genericRegisterWrite master off data =>
    decide (master < 256 ∧ off < 2 ^ 24 ∧ data.length ≤ 8)
  | .decodeErrorAccess master addr _ _ | .lockForcedRelease master addr _ => decide (master < 256 ∧ addr < 2 ^ 64)
  | .apertureWrite offset data => decide (offset + data.length ≤ 268435456)
  | .apertureRead offset n => decide (offset + n ≤ 268435456)
  | .arpNdpIcmpEcho port => decide (port < 144)
  | .audioBlock _ _ _ _ | .glint _ _ | .thermalSample _ | .thermalTrip _ | .swapEnd _ | .mramReadable _
  | .functionLevelReset _ | .lanternSelfTestDone _ | .firmwareStart _ _ | .entropyHealthTest _ | .authLockoutExpiry _
  | .cascadeTimeLost _ _ _ | .scrubRead _ _ | .coalesceWindowClose _ _ _ | .jtagTapOperation _ => true
  | .swapWatchdogExpiry | .ppsEdge | .cascadeTimeTick | .porstNAssert | .porstNRelease | .pcieLinkUp
  | .pciePerstNAssert | .componentVerifyFailed | .fullFunction | .powerFailNAssert | .powerFailNRelease
  | .railOutOfTolerance | .railGoodRestart | .zeroizeNLow | .zeroizeGlitch | .zeroisationComplete
  | .environmentalFailure | .sealTick | .nvGatherAgeExpiry | .nvSpacingExpiry | .nvFlip | .thermalStepLeft
  | .thermalRetreatExit | .hbmRebuildComplete | .sysXoLost | .aoXoLost => true

end Sys2Proof
end

