-- ==== Sys2Proof/Certificates/Slice0/Obligations.lean ====
section
/-! DEFINITION. The statements for the provers. A statement about a command says: a request that is executed (it passes the
checks of R61) comes to a next state with the command's own effect, answered in its mailbox; `s.protocol t` holds what a
command leaves alone: everything but the mailboxes, sessions and schedule, the journal, event delivery and the store's
gather. -/

open Sys2Proof Sys2Proof.Machine

/-! ## Steps and the command protocol -/

/-- A step runs the command at the front of the queue on the state with the queue's rest. With no command waiting the block
idles, which is the model's choice (log entry 4): house time alone passes, and DT moves by one nanosecond unless it slews. -/
def Obligations.StepRunsTheFrontCommand : Prop :=
  (∀ (c : Instr) (q : List Instr) (s : State), s.pending = c :: q → step s = exec c { s with pending := q })
  ∧ (∀ (s : State), s.pending = [] → step s = .next s.idle)
  ∧ (∀ (s : State), s.pending = [] → s.health.tripped = false → s.boot.restart = none →
      step s = .next { s with time := s.idle.time, boot := s.idle.boot } ∧ (s.time.dtSlew = 0 → s.idle.time.dt = s.time.dt + 1))

/-! ## Reset, the shaded view, and what every step keeps -/

/-- What reset leaves (R18, R37, R64, R155, R550, R551): every quad is unallocated and its lanes disabled, with the reset values
of LANE_CONFIG and LANE_TX_EQ; TG0 is enabled with 1080p at 59.94 Hz and zero offset, the other groups are disabled; every
destination is fed from 0xF000, in TG0 with zero fine offset, not locked, without a watch rule and without tally;
HRT_REF_STATUS and HRT_TG_CONFIG of TG0 read as their tables say; no session is open, every mailbox is IDLE, and no command
waits. -/
def Obligations.ResetLeavesTheStatedValues : Prop :=
  (∀ (q : Nat), (State.reset.quad q).protocol = 0 ∧ (State.reset.quad q).loopback = 0)
  ∧ (∀ (n : Nat), (State.reset.lane n).state = .disabled ∧ State.reset.laneReg n 1 = 0x0000FFFF00000000
      ∧ State.reset.laneReg n 2 = 0x00080000)
  ∧ ((State.reset.tg 0).enabled ∧ (State.reset.tg 0).raster = 4 ∧ (State.reset.tg 0).rate = 6 ∧ (State.reset.tg 0).phaseOffset = 0
      ∧ ∀ m, State.reset.groupReg m 0 0 = 0x00080641)
  ∧ (∀ (g : Nat), 1 ≤ g → g < 8 → (State.reset.tg g).enabled = false ∧ ∀ m i, 1 ≤ i → State.reset.groupReg m g i = 0)
  ∧ (∀ (d : Nat), State.reset.dest d = { source := 0xF000, lane := false, tg := 0, fine := 0, locked := false, tally := 0 }
      ∧ State.reset.rule d = none)
  ∧ (∀ (m : Nat), State.reset.timeReg m 2 = 0x18)
  ∧ (State.reset.pending = [] ∧ State.reset.ccp.sessions = [] ∧ State.reset.ccp.schedule = [] ∧ State.reset.ccp.jobs = []
      ∧ ∀ k, (State.reset.mailbox k).state = .idle)

/-- The contents of HBM stand in canonical form (log entry 6, the model's own invariant): whatever command a step takes, and
whether or not one waits, a state whose HBM has its addresses strictly rising and lists no byte of the value that an
unlisted address reads as is followed by one that has them too. -/
def Obligations.EveryStepKeepsHbmCanonical : Prop :=
  ∀ (s t : State), s.memory.wf → step s = .next t → t.memory.wf

/-- HBM is in canonical form at reset (log entry 6, the model's own invariant): it lists nothing, and a byte that nothing has
written reads as zero, which is the model's choice. -/
def Obligations.HbmIsCanonicalAtReset : Prop :=
  State.reset.memory.wf ∧ State.reset.memory.hbm = [] ∧ ∀ a, memGet State.reset.memory.hbm a = 0

/-! ## Steps and the command protocol -/

/-- The order of the checks (R61), and what a refused request leaves behind: its mailbox in ERROR with the status of the first
check that fails and no JSN, no journal entry, and no effect. -/
def Obligations.RefusedRequestsLeaveNoTrace : Prop :=
  (∀ (c : Cmd) (r : Request) (s : State) (st : Nat), s.service r.view r.mailbox = .firmware →
    (s.mailbox (mbKey r.view r.mailbox)).state ≠ .submitted → (s.mailbox (mbKey r.view r.mailbox)).state ≠ .accepted →
    c.firstFailure r (c.before r s) = some st →
    let t := c.serve r s
    let m := t.mailbox (mbKey r.view r.mailbox)
    m.state = .error ∧ m.status = st ∧ m.jsn = 0 ∧ t = { s with ccp := t.ccp, events := t.events }
      ∧ t.ccp.schedule = s.ccp.schedule ∧ t.ccp.sessions = s.ccp.sessions ∧ t.ccp.cache = s.ccp.cache)
  ∧ (∀ (c : Cmd) (r : Request) (s : State),
    let x := s.sessionOf (mbKey r.view r.mailbox)
    let opens := opensSession c.opcode
    let version := if opens then r.major = 0 ∧ r.minor = 0 else ∃ y, x = some y ∧ r.major.toNat = y.major ∧ r.minor.toNat ≤ y.minor
    let step1 := s.journal.swapping = true
    let step2 := opens = false ∧ x = none
    let step5 := r.view = .pf1 ∧ pf1May c.opcode = false
    let step6 := c.role.heldBy x = false
    let step7 := c.formOk r s = false
    let step8 := s.boot.stage = 6 ∧ bootingMay c.opcode = false
    (step1 → c.firstFailure r s = some stUpdating)
    ∧ (¬step1 ∧ step2 → c.firstFailure r s = some stAuthRequired)
    ∧ (¬step1 ∧ ¬step2 ∧ ¬version → c.firstFailure r s = some stBadVersion)
    ∧ (¬step1 ∧ ¬step2 ∧ version ∧ step5 → c.firstFailure r s = some stNotPrivileged)
    ∧ (¬step1 ∧ ¬step2 ∧ version ∧ ¬step5 ∧ step6 → c.firstFailure r s = some stAuthRequired)
    ∧ (¬step1 ∧ ¬step2 ∧ version ∧ ¬step5 ∧ ¬step6 ∧ step7 → c.firstFailure r s = some stBadArgument)
    ∧ (¬step1 ∧ ¬step2 ∧ version ∧ ¬step5 ∧ ¬step6 ∧ ¬step7 ∧ step8 → c.firstFailure r s = some stUpdating)
    ∧ (¬step1 ∧ ¬step2 ∧ version ∧ ¬step5 ∧ ¬step6 ∧ ¬step7 ∧ ¬step8 → c.firstFailure r s = none))

/-- Acceptance (R62): a request that passes every check takes the next JSN, its mailbox is ACCEPTED under it, and its COMMAND
entry is in the journal before it is executed; a command whose status is final then leaves its OUTCOME entry last, and one
that is executed is answered as its own run says. -/
def Obligations.AcceptedCommandsAreJournalledFirst : Prop :=
  (∀ (c : Cmd) (r : Request) (s : State), c.passes r s → s.journal.newChain = false → s.journal.open_.length < 64 →
    let j := (c.work r s).jsn
    let m := (c.taken r s).mailbox (mbKey r.view r.mailbox)
    j = s.journal.nextJsn ∧ m.state = .accepted ∧ m.jsn = j ∧ c.taken r s = s.protocol (c.taken r s)
      ∧ ∃ e, (c.taken r s).journal.last = some e ∧ e.jsn = j ∧ e.kind = 0 ∧ e.opcode = c.opcode ∧ e.view = viewNo r.view
          ∧ e.dt = s.time.dt ∧ e.token = r.token.toNat)
  ∧ (∀ (c : Cmd) (r : Request) (s : State), c.executes r s →
    let a := c.run (c.work r s) (c.taken r s)
    let t := c.serve r s
    openStatus a.status = false → a.state.journal.newChain = false → a.state.journal.open_.length < 64 →
    t.answeredWith r a.status (c.work r s).jsn (inlinePayload (c.work r s) a)
      ∧ ∃ e, t.journal.last = some e ∧ e.kind = 1 ∧ e.ref = (c.work r s).jsn ∧ e.status = a.status ∧ e.opcode = c.opcode
          ∧ e.view = viewNo r.view)

/-- Sessions (R75 to R77): SESSION_OPEN binds its mailbox to a new session at the highest major that both sides have with the
lower of the two minors, SESSION_ATTACH binds a further mailbox of the view, SESSION_CLOSE unbinds all of them. -/
def Obligations.SessionsAreOpenedAttachedAndClosed : Prop :=
  (∀ (r : Request) (s : State), sessionOpen.executes r s → s.openSessions r.view < sessionLimit r.view →
    let k := mbKey r.view r.mailbox
    ∃ t major minor, exec (.sessionOpen r) s = .next t ∧ t.answered r stOk (sessionOpen.work r s).jsn
      ∧ negotiate s.boot.majors (offeredMajors r.payload) = some (major, minor)
      ∧ t.ccp.sessions = s.ccp.sessions ++ [{ id := s.freshSession, view := r.view, major, minor, label := slice r.payload 2 16
                                              crypto := false, user := false }]
      ∧ (t.mailbox k).session = s.freshSession ∧ s.freshSession ≠ 0 ∧ t = s.protocol t ∧ t.ccp.schedule = s.ccp.schedule
      ∧ ∀ j, j ≠ k → t.mailbox j = s.mailbox j)
  ∧ (∀ (ms offered : List (Nat × Nat)) (major minor : Nat), negotiate ms offered = some (major, minor) →
      (∃ o, o ∈ offered ∧ o.1 = major ∧ minor = min o.2 (deviceMinor ms major)) ∧ (∃ d, d ∈ ms ∧ d.1 = major)
      ∧ ∀ o d, o ∈ offered → d ∈ ms → o.1 = d.1 → o.1 ≤ major)
  ∧ (∀ (r : Request) (s : State), sessionAttach.executes r s →
    let k := mbKey r.view r.mailbox
    ∃ t, exec (.sessionAttach r) s = .next t ∧ t.answered r stOk (sessionAttach.work r s).jsn
      ∧ (t.mailbox k).session = u32 r.payload 0 ∧ t.ccp.sessions = s.ccp.sessions ∧ t = s.protocol t
      ∧ t.ccp.schedule = s.ccp.schedule ∧ ∀ j, j ≠ k → t.mailbox j = s.mailbox j)
  ∧ (∀ (r : Request) (s : State), sessionClose.executes r s →
    let k := mbKey r.view r.mailbox
    let id := (s.mailbox k).session
    ∃ t, exec (.sessionClose r) s = .next t ∧ t.answered r stOk (sessionClose.work r s).jsn
      ∧ t.ccp.sessions = s.ccp.sessions.filter (fun x => x.id != id) ∧ (t.mailbox k).session = 0
      ∧ (∀ j, j ≠ k → (s.mailbox j).session = id → (t.mailbox j).session = 0 ∧ (t.mailbox j).state = .idle)
      ∧ (∀ j, j ≠ k → (s.mailbox j).session ≠ id → t.mailbox j = s.mailbox j)
      ∧ t = s.protocol t ∧ t.ccp.schedule = s.ccp.schedule)

/-! ## Reset, the shaded view, and what every step keeps -/

/-- Negotiation (R77): the highest major that both sides offer, with the lower of the client's highest minor and the device's
minor for it; without a common major SESSION_OPEN ends in ERROR with BAD_VERSION, and the payload is the count of the
device's majors and their pairs. -/
def Obligations.TheHighestCommonMajorIsChosen : Prop :=
  (∀ (ms offered : List (Nat × Nat)) (major minor : Nat), negotiate ms offered = some (major, minor) →
    (∃ o, o ∈ offered ∧ o.1 = major ∧ minor = min o.2 (deviceMinor ms major)) ∧ (∃ d, d ∈ ms ∧ d.1 = major)
    ∧ ∀ o d, o ∈ offered → d ∈ ms → o.1 = d.1 → o.1 ≤ major)
  ∧ (∀ (ms offered : List (Nat × Nat)), negotiate ms offered = none ↔ ∀ o d, o ∈ offered → d ∈ ms → o.1 ≠ d.1)
  ∧ (∀ (r : Request) (s : State), sessionOpen.executes r s → s.openSessions r.view < sessionLimit r.view →
    ∃ t x, exec (.sessionOpen r) s = .next t ∧ t.answered r stOk (sessionOpen.work r s).jsn ∧ t.ccp.sessions = s.ccp.sessions ++ [x]
      ∧ negotiate s.boot.majors (offeredMajors r.payload) = some (x.major, x.minor))
  ∧ (∀ (r : Request) (s : State), s.service r.view r.mailbox = .firmware →
    (s.mailbox (mbKey r.view r.mailbox)).state ≠ .submitted → (s.mailbox (mbKey r.view r.mailbox)).state ≠ .accepted →
    sessionOpen.firstFailure r (sessionOpen.before r s) = none → ((sessionOpen.before r s).cachedToken r).isNone →
    1 ≤ u8 r.payload 0 → u8 r.payload 0 ≤ 16 → (s.mailbox (mbKey r.view r.mailbox)).session = 0 →
    (∀ o, o ∈ offeredMajors r.payload → ∀ d, d ∈ s.boot.majors → o.1 ≠ d.1) →
    ∃ t, exec (.sessionOpen r) s = .next t
      ∧ (let m := t.mailbox (mbKey r.view r.mailbox)
         m.state = .error ∧ m.status = stBadVersion ∧ m.session = 0
          ∧ m.payload = le 1 s.boot.majors.length ++ majorPairs s.boot.majors)
      ∧ t.ccp.sessions = s.ccp.sessions ∧ t.journal = s.journal)

/-! ## Steps and the command protocol -/

/-- The mailbox (R65, R68, R69): a doorbell submits a request to a free mailbox and is ignored and counted in a busy one, as is
a write of its request buffer; a command at work after 10 ms reaches DONE with PENDING, one that ends later is completed;
after 100 ms the mailbox ends a command by itself with INTERNAL_FAULT. -/
def Obligations.MailboxesSubmitWaitAndTimeOut : Prop :=
  (∀ (op : BitVec 16) (r : Request) (s : State), s.service r.view r.mailbox = .firmware → s.journal.swapping = false →
    let k := mbKey r.view r.mailbox
    ((s.mailbox k).state ≠ .submitted ∧ (s.mailbox k).state ≠ .accepted ∧ op.toNat ∈ opcodes →
      ∃ t, exec (.ccpMbDoorbell op r) s = .next t ∧ (t.mailbox k).state = .submitted
        ∧ (t.mailbox k).request = some (op.toNat, r) ∧ t.ccp.cycle = s.ccp.cycle + 1 ∧ t = { s with ccp := t.ccp }
        ∧ ∀ j, j ≠ k → t.mailbox j = s.mailbox j)
    ∧ ((s.mailbox k).state = .submitted ∨ (s.mailbox k).state = .accepted →
      ∃ t, exec (.ccpMbDoorbell op r) s = .next t
        ∧ t.mailbox k = { s.mailbox k with busyRings := ((s.mailbox k).busyRings + 1) % 65536 }
        ∧ t = { s with ccp := t.ccp, events := t.events } ∧ ∀ j, j ≠ k → t.mailbox j = s.mailbox j))
  ∧ (∀ (v : View) (m : Nat) (s : State),
    let k := mbKey v m
    ((s.mailbox k).state = .submitted ∨ (s.mailbox k).state = .accepted →
      exec (.lockedRequestBufferWrite v m) s
        = .next (s.setMailbox k { s.mailbox k with busyRings := ((s.mailbox k).busyRings + 1) % 65536 }))
    ∧ ((s.mailbox k).state = .accepted →
      ∃ t, exec (.doneWithPending v m) s = .next t
        ∧ t.mailbox k = { s.mailbox k with state := .done, status := stPending, result := stPending }
        ∧ t = { s with ccp := t.ccp, events := t.events } ∧ t.ccp.jobs = s.ccp.jobs)
    ∧ ((s.mailbox k).state = .submitted →
      ∃ t, exec (.mailboxTimeout v m) s = .next t ∧ (t.mailbox k).state = .error ∧ (t.mailbox k).status = stInternalFault
        ∧ (t.mailbox k).jsn = 0 ∧ t = { s with ccp := t.ccp, events := t.events } ∧ ∀ j, j ≠ k → t.mailbox j = s.mailbox j)
    ∧ ((s.mailbox k).state = .accepted →
      ∃ t, exec (.mailboxTimeout v m) s = .next t ∧ (t.mailbox k).state = .done ∧ (t.mailbox k).status = stInternalFault
        ∧ (t.mailbox k).jsn = (s.mailbox k).jsn ∧ t.ccp.jobs = s.ccp.jobs.filter (fun j => j.jsn != (s.mailbox k).jsn)
        ∧ t = s.protocol t ∧ ∀ j, j ≠ k → t.mailbox j = s.mailbox j))

/-- Queries (R82): no opcode has low byte 0x00; the queries are the opcodes with low byte 0x80 to 0xFF; each query that is
executed answers and changes no state of the device: what it leaves behind is its own mailbox, its journal entries and the
cached result; it is accepted, given the next JSN and journalled like every other command, and is malformed unless its at
fields are zero. -/
def Obligations.QueriesChangeNothing : Prop :=
  let queries : List Cmd := [sessionInfo, commandResult, capacityReport, timeStatus, clockStatus, laneStatus, flowStatus,
    flowSdp, tallyRead, routeRead, watchStatus, pipeStatus, canvasStatus, surfaceStatus, mirrorStatus, panelStatus,
    channelStatistics, coreStatus, audioStatus, tdmPortStatus, memoryStatus, nightlightMapRead, nvStatus, nvLogRead,
    devidCertRead, lanternStatus, healthStatus, eventCatalogue, journalRead, journalHead, stateSnapshot, firmwareStatus,
    cascadeStatus]
  (∀ o, o ∈ opcodes → o % 256 ≠ 0)
  ∧ opcodes.filter isQuery ⊆ queries.map (·.opcode) ∧ queries.all (fun c => isQuery c.opcode && opcodes.contains c.opcode)
  ∧ (∀ (c : Cmd) (r : Request) (s : State), c ∈ queries → r.atFrame ≠ 0 ∨ r.atLine ≠ 0 ∨ r.group ≠ 0 → c.formOk r s = false)
  ∧ (∀ (c : Cmd) (r : Request) (s : State), c ∈ queries → c.passes r s → s.journal.newChain = false →
    s.journal.open_.length < 64 →
    (c.work r s).jsn = s.journal.nextJsn ∧ ((c.taken r s).mailbox (mbKey r.view r.mailbox)).state = .accepted
      ∧ ∃ e, (c.taken r s).journal.last = some e ∧ e.jsn = s.journal.nextJsn ∧ e.kind = 0 ∧ e.opcode = c.opcode)
  ∧ (∀ (c : Cmd) (r : Request) (s : State), c ∈ queries → c.executes r s →
    let t := c.serve r s
    t = s.protocol t ∧ t.ccp.schedule = s.ccp.schedule ∧ t.ccp.sessions = s.ccp.sessions ∧ t.ccp.jobs = s.ccp.jobs)
  ∧ sessionInfo.queries .sessionInfo ∧ capacityReport.queries .capacityReport ∧ timeStatus.queries .timeStatus
  ∧ clockStatus.queries .clockStatus ∧ laneStatus.queries .laneStatus ∧ flowStatus.queries .flowStatus
  ∧ flowSdp.queries .flowSdp ∧ tallyRead.queries .tallyRead ∧ routeRead.queries .routeRead
  ∧ watchStatus.queries .watchStatus ∧ pipeStatus.queries .pipeStatus ∧ canvasStatus.queries .canvasStatus
  ∧ surfaceStatus.queries .surfaceStatus ∧ mirrorStatus.queries .mirrorStatus ∧ panelStatus.queries .panelStatus
  ∧ channelStatistics.queries .channelStatistics ∧ coreStatus.queries .coreStatus ∧ audioStatus.queries .audioStatus
  ∧ tdmPortStatus.queries .tdmPortStatus ∧ memoryStatus.queries .memoryStatus
  ∧ nightlightMapRead.queries .nightlightMapRead ∧ nvStatus.queries .nvStatus ∧ nvLogRead.queries .nvLogRead
  ∧ lanternStatus.queries .lanternStatus ∧ healthStatus.queries .healthStatus ∧ eventCatalogue.queries .eventCatalogue
  ∧ journalHead.queries .journalHead ∧ stateSnapshot.queries .stateSnapshot ∧ firmwareStatus.queries .firmwareStatus
  ∧ cascadeStatus.queries .cascadeStatus

/-- COMMAND_CANCEL (R84): armed in time it answers OK and the target waits no longer; later it answers LATE_DISCARDED and the
schedule is as it was. COMMAND_RESULT (R74) gives a cached result, and JOURNAL_GAP for a JSN no longer cached. What queries
with a layout of their own answer: TIME_STATUS (R576), TALLY_READ (R175), JOURNAL_HEAD (R104) and CAPACITY_REPORT (R27) give
their payload of the state at acceptance, in the mailbox when there is no DMA. -/
def Obligations.CancelsAndResponsesTellTheState : Prop :=
  (
    (∀ (r : Request) (s : State), commandCancel.executes r s →
      let jsn := u64 r.payload 0
      let parts := s.ccp.schedule.filter fun e => e.jsn == jsn
      (parts.all s.inTime →
        ∃ t, exec (.commandCancel r) s = .next t ∧ t.answered r stOk (commandCancel.work r s).jsn
          ∧ t.ccp.schedule = s.ccp.schedule.filter (fun e => e.jsn != jsn) ∧ t = s.protocol t)
      ∧ (parts.all s.inTime = false →
        ∃ t, exec (.commandCancel r) s = .next t ∧ t.answered r stLateDiscarded (commandCancel.work r s).jsn
          ∧ t.ccp.schedule = s.ccp.schedule ∧ t = s.protocol t))
    ∧ (∀ (r : Request) (s : State), commandResult.executes r s →
      let found := (commandResult.taken r s).ccp.cache.find? fun e => e.jsn == u64 (commandResult.work r s).args 0
      (found = none → ∃ t, exec (.commandResult r) s = .next t ∧ t.answered r stJournalGap (commandResult.work r s).jsn
          ∧ t = s.protocol t)
      ∧ ∀ e, found = some e → (commandResult.work r s).dma = false →
        ∃ t, exec (.commandResult r) s = .next t
          ∧ t.answeredWith r stOk (commandResult.work r s).jsn
            (resultHeader e ++ (if e.status = stPending then [] else e.payload)) ∧ t = s.protocol t))
  ∧ (
    (∀ (r : Request) (s : State), timeStatus.executes r s →
      ∃ t, exec (.timeStatus r) s = .next t ∧ t.answeredWith r stOk (timeStatus.work r s).jsn (timeStatusBytes s)
        ∧ (timeStatusBytes s).length = 248 ∧ (s.time.dt < 2 ^ 48 * 1000000000 → u48 (timeStatusBytes s) 0 = s.time.dt / 1000000000))
    ∧ (∀ (r : Request) (s : State), tallyRead.executes r s →
      ∃ t, exec (.tallyRead r) s = .next t ∧ t.answeredWith r stOk (tallyRead.work r s).jsn (tallyBytes s))
    ∧ (∀ (r : Request) (s : State), journalHead.executes r s →
      ∃ t, exec (.journalHead r) s = .next t
        ∧ t.answeredWith r stOk (journalHead.work r s).jsn (journalHead.taken r s).journalHead
        ∧ (journalHead.taken r s).journalHead.length = 104)
    ∧ (∀ (r : Request) (s : State), capacityReport.executes r s →
      ∃ t, exec (.capacityReport r) s = .next t
        ∧ t.answeredWith r stOk (capacityReport.work r s).jsn (capacityReport.taken r s).capacityReport
        ∧ (capacityReport.taken r s).capacityReport.length = 8 + 3 * 16 + 15 * 16))

/-! ## House time and clocks -/

/-- REFERENCE_SET (R41): the new list keeps the lock state of the candidates it keeps, the revert hold, polarity and PTP domain
are those of the payload, and of the rest only house time and the counter of free values may change. Lock and loss (R40,
R51): a candidate that meets its criteria is LOCKED; when nothing was selected before, it is selected and the reference is
LOCKED. The loss of the only locked candidate leaves HOLDOVER. -/
def Obligations.ReferencesAreListedLockedAndLost : Prop :=
  (
    ∀ (r : Request) (s : State), referenceSet.executes r s →
      let p := r.payload
      ∃ t, exec (.referenceSet r) s = .next t ∧ t.answered r stOk (referenceSet.work r s).jsn
        ∧ t.time.cands = (newCands p).map
            (keepCand s.time.cands (u8 p 4 != s.time.ptpDomain) (u8 p 1 != s.time.polarity))
        ∧ t.time.revertHold = (if u16 p 2 = 0 then 10 else u16 p 2) ∧ t.time.polarity = u8 p 1 ∧ t.time.ptpDomain = u8 p 4
        ∧ (List.range 8).all (fun g => (t.tg g).pos.frame == (s.tg g).pos.frame)
        ∧ t = { s.protocol t with time := t.time, freeCount := t.freeCount })
  ∧ (
    (∀ (i : Nat) (c : Cand) (new : Option Nat) (errs : List Int) (s : State),
      s.time.cands[i]? = some c → c.state = .acquiring → (c.kind = 1 → 16 ≤ c.good) → s.time.cascadeTime = false →
      s.time.selected = none → (∀ (j : Nat) (d : Cand), s.time.cands[j]? = some d → d.state ≠ .locked) →
      ∃ t, exec (.referenceLocked i new errs) s = .next t ∧ t.time.selected = some i ∧ t.time.refState = .locked
        ∧ t.time.cands = s.time.cands.set i { c with state := .locked, lockedAt := s.time.dt, bad := 0 }
        ∧ t = { s.protocol t with time := t.time })
    ∧ (∀ (i : Nat) (c : Cand) (new : Option Nat) (errs : List Int) (s : State),
      s.time.cands[i]? = some c → c.state = .locked → s.time.cascadeTime = false → s.time.selected = some i →
      s.time.everLocked → (∀ (j : Nat) (d : Cand), j ≠ i → s.time.cands[j]? = some d → d.state ≠ .locked) →
      ∃ t, exec (.referenceLost i new errs) s = .next t ∧ t.time.selected = none ∧ t.time.refState = .holdover
        ∧ (∀ g, g < 8 → (s.tg g).enabled → (s.tg g).state ≠ .slewing → (t.tg g).state = .holdover)
        ∧ t = { s.protocol t with time := t.time })
    ∧ (∀ (i j : Nat) (c : Cand) (new : Option Nat) (errs : List Int) (s : State),
      s.time.cands[i]? = some c → c.state = .locked → s.time.selected = some j → i < j → s.time.cascadeTime = false →
      ∃ t, exec (.revertHoldExpiry i new errs) s = .next t ∧ t.time.selected = some i ∧ t.time.refState = .locked
        ∧ t = { s.protocol t with time := t.time }))

/-- DT_SET (R33, R43): under PTP it is UNIT_BUSY; under 1PPS the value waits for the next edge; else DT steps to a value more
than 1 ms away, counting the step, and slews to a nearer one. No frame count changes (R35). PTP and 1PPS (R33, R574): a Sync
of the selected candidate gives its offset, the arrival less the origin, correction and path delay; a delay response gives
the path delay; a 1PPS edge puts DT on a whole second. -/
def Obligations.DeviceTimeIsSetAndFollows : Prop :=
  (
    ∀ (r : Request) (s : State), dtSet.executes r s →
      let p := r.payload
      let v : Int := (u48 p 0 * 1000000000 + u32 p 8 : Nat)
      ∃ t, exec (.dtSet r) s = .next t
        ∧ t.answered r (if s.time.selectedKind = 1 then stUnitBusy else stOk) (dtSet.work r s).jsn
        ∧ t = { s.protocol t with time := t.time }
        ∧ (s.time.selectedKind = 1 → t.time = s.time)
        ∧ (s.time.selectedKind = 4 → t.time = { s.time with ppsSeconds := some (u48 p 0) })
        ∧ (s.time.selectedKind ≠ 1 ∧ s.time.selectedKind ≠ 4 ∧ 1000000 < (v - s.time.dt).natAbs →
            t.time.dt = v.toNat ∧ t.time.steps = (s.time.steps + 1) % 2 ^ 64
              ∧ (List.range 8).all (fun g => (t.tg g).pos == (s.tg g).pos))
        ∧ (s.time.selectedKind ≠ 1 ∧ s.time.selectedKind ≠ 4 ∧ (v - s.time.dt).natAbs ≤ 1000000 →
            t.time = { s.time with dtSlew := v - s.time.dt }))
  ∧ (
    (∀ (i : Nat) (c : Cand) (origin corr : Int) (s : State), s.time.cands[i]? = some c → c.kind = 1 →
      s.time.selected = some i →
      let off : Int := s.time.dt - origin - corr - s.time.pathDelay
      ∃ t, exec (.ptpSyncMessage i origin corr) s = .next t ∧ t.time.offset = off ∧ t.time.dt = s.time.dt
        ∧ (off.natAbs ≤ 1000000 → t.time.dtSlew = -off) ∧ t.time.servoFreq.natAbs ≤ 200000
        ∧ t = { s with time := t.time, freeCount := s.freeCount + 1 })
    ∧ (∀ (i : Nat) (c : Cand) (delay : Int) (s : State), s.time.cands[i]? = some c → c.kind = 1 →
      exec (.ptpDelayResponse i delay) s = .next { s with time := { s.time with pathDelay := delay } })
    ∧ (∀ (s : State), s.time.selectedKind = 4 →
      ∃ t, exec .ppsEdge s = .next t ∧ t.time.dt % 1000000000 = 0
        ∧ (∀ n, s.time.ppsSeconds = some n → t.time.dt = n * 1000000000 ∧ t.time.ppsSeconds = none)
        ∧ t = { s.protocol t with time := t.time }))

/-- TIMING_GROUP_SET (R42): enabling a disabled group stores its parameters, and the group waits for its RSYN; disabling a group
that nothing belongs to stops it at acceptance, and is UNIT_BUSY while something does; a change of an enabled group waits
for its frame start, but for the re-alignment setting, which is taken at once (a request that changes nothing else is
answered OK: log entry 67). TG_ENABLE_START (R35, R42): a group that waits is enabled, at line 1 of the frame whose count is
the number of whole frame periods since the PTP epoch, modulo 2^48, and its RSYN is locked. TG_FRAME_START (R35): the frame
count of an enabled group increases by exactly 1, its raster is at line 1, sample 0, and no other group moves. DUSK_FREEZE
(R45, R47): the raster of the group stands past its Dusk line D, so that what is armed from then on is late for it; no frame
is counted, DT does not move, and no other group's raster moves. -/
def Obligations.TimingGroupsStartAndCountFrames : Prop :=
  (
    ∀ (r : Request) (s : State), timingGroupSet.executes r s →
      let p := r.payload
      let g := u8 p 0
      ((s.tg g).enabled = false ∧ u8 p 1 = 1 →
        ∃ t, exec (.timingGroupSet r) s = .next t ∧ t.answered r stOk (timingGroupSet.work r s).jsn
          ∧ t.tg g = { (s.tg g).withParams p with starting := true } ∧ (t.pll (rsyn g)).state = 1
          ∧ t = { s.protocol t with time := { s.time with groups := t.time.groups }
                                    clocks := { s.clocks with plls := t.clocks.plls } }
          ∧ ∀ h, h ≠ g → t.tg h = s.tg h)
      ∧ (u8 p 1 = 0 ∧ (timingGroupSet.taken r s).groupBusy g = false →
        ∃ t, exec (.timingGroupSet r) s = .next t ∧ t.answered r stOk (timingGroupSet.work r s).jsn
          ∧ (t.tg g).enabled = false ∧ (t.tg g).state = .disabled ∧ (t.pll (rsyn g)).state = 0
          ∧ t = { s.protocol t with time := { s.time with groups := t.time.groups }
                                    clocks := { s.clocks with plls := t.clocks.plls } }
          ∧ ∀ h, h ≠ g → t.tg h = s.tg h)
      ∧ (u8 p 1 = 0 ∧ (timingGroupSet.taken r s).groupBusy g = true →
        ∃ t, exec (.timingGroupSet r) s = .next t ∧ t.answered r stUnitBusy (timingGroupSet.work r s).jsn ∧ t = s.protocol t)
      ∧ ((s.tg g).enabled ∧ u8 p 1 = 1 ∧ (s.tg g).sameParams p ∧ s.waitsOn 0x0202 (fun q => u8 q 0 == g) = false →
        ∃ t, exec (.timingGroupSet r) s = .next t ∧ t.answered r stOk (timingGroupSet.work r s).jsn
          ∧ t.tg g = { s.tg g with jump := u8 p 9 == 1 } ∧ (∀ h, h ≠ g → t.tg h = s.tg h)
          ∧ t = { s.protocol t with time := { s.time with groups := t.time.groups } })
      ∧ ((s.tg g).enabled ∧ u8 p 1 = 1 ∧ (s.tg g).sameParams p = false ∧ timingGroupSet.mayWait r s .frameStart g →
        ∃ t, exec (.timingGroupSet r) s = .next t ∧ t.waitsFor timingGroupSet r s .frameStart g
          ∧ t.tg g = { s.tg g with jump := u8 p 9 == 1 } ∧ (∀ h, h ≠ g → t.tg h = s.tg h)
          ∧ t = { s.protocol t with time := { s.time with groups := t.time.groups } }))
  ∧ (
    ∀ (g : Nat) (s : State), g < 8 → (s.tg g).starting →
      let x := s.tg g
      let f := frameFraction x.raster x.rate
      let n := s.time.dt * f.1 / (f.2 * 1000000000) % 2 ^ 48
      ∃ t, exec (.tgEnableStart g) s = .next t
        ∧ (t.tg g).enabled ∧ (t.tg g).starting = false ∧ (t.tg g).pos = ⟨n, 1, 0⟩ ∧ (t.tg g).epochFrame = n
        ∧ (t.pll (rsyn g)).state = 2)
  ∧ (
    ∀ (g : Nat) (f : FrameFacts) (s : State), g < 8 → (s.tg g).enabled → (s.tg g).starting = false →
      ∃ t, exec (.tgFrameStart g f) s = .next t
        ∧ (t.tg g).pos = ⟨((s.tg g).pos.frame + 1) % 2 ^ 48, 1, 0⟩ ∧ (t.tg g).lastJump = (s.tg g).jumpNow
        ∧ t.time.dt = s.time.dt ∧ ∀ h, h ≠ g → (t.tg h).pos = (s.tg h).pos)
  ∧ (
    ∀ (g : Nat) (late : List Nat) (s : State), g < 8 → (s.tg g).enabled → (s.tg g).starting = false →
      ∃ t, exec (.duskFreeze g late) s = .next t
        ∧ (t.tg g).pos.frame = (s.tg g).pos.frame ∧ (t.tg g).pos.line = max (s.tg g).pos.line ((s.tg g).duskLine + 1)
        ∧ t.time.dt = s.time.dt ∧ (∀ h, h ≠ g → (t.tg h).pos = (s.tg h).pos)
        ∧ (s.halted → t = { s with time := t.time }))

/-- SYNTH_CONFIGURE (R508, R511): the fields that the mask names are stored in the synthesiser, no other field of it and no
other PLL changes. Loops (R512 to R515): a locked or gliding loop that loses lock holds over, one in holdover relocks, an
Eclipse ends locked, a Glide moves by at most 1,000 ppm and locks when nothing is left, a FAILED loop that locks is locked;
each leaves every other PLL alone, and only a relocked RSYN touches house time. Clock inputs (R515, R516): a Glint is
counted by its kind; the loss of SYS_XO puts every PLL that runs into holdover and clears DT_TRACEABLE; the loss of AO_XO is
noted; an Eclipse that does not lock is FAILED. -/
def Obligations.ClocksAreConfiguredAndLoopsFollow : Prop :=
  (
    ∀ (r : Request) (s : State), synthConfigure.executes r s →
      let p := r.payload
      let k := 38 + u8 p 0
      let x := s.pll k
      ∃ t, exec (.synthConfigure r) s = .next t ∧ t.answered r stOk (synthConfigure.work r s).jsn
        ∧ t = { s.protocol t with clocks := { s.clocks with plls := t.clocks.plls } }
        ∧ t.pll k = { x with
            seed := if bit (u8 p 2) 0 then u32 p 4 else x.seed
            rclkDiv := if bit (u8 p 2) 1 then u8 p 8 else x.rclkDiv
            delay2 := if bit (u8 p 2) 2 ∧ u8 p 1 ≠ 3 then u32 p 12 else x.delay2
            delay3 := if bit (u8 p 2) 2 ∧ u8 p 1 = 3 then u32 p 12 else x.delay3
            rclkOn := if bit (u8 p 2) 3 then u8 p 3 == 1 else x.rclkOn }
        ∧ ∀ q, q ≠ k → t.pll q = s.pll q)
  ∧ (
    (∀ (p : Nat) (s : State), p < 50 → (s.pll p).state = 2 ∨ (s.pll p).state = 5 →
      ∃ t, exec (.pllLockLost p) s = .next t ∧ t.pll p = { s.pll p with state := 3, losses := (s.pll p).losses + 1 }
        ∧ (∀ q, q ≠ p → t.pll q = s.pll q) ∧ t = { s.protocol t with clocks := t.clocks })
    ∧ (∀ (p : Nat) (word err : Int) (s : State), p < 50 → (s.pll p).state = 3 →
      ∃ t, exec (.pllRelocked p word err) s = .next t
        ∧ t.pll p = { s.pll p with state := if (s.pll p).left = 0 then 2 else 5, word }
        ∧ (∀ q, q ≠ p → t.pll q = s.pll q)
        ∧ t = { s.protocol t with clocks := t.clocks, time := if 38 ≤ p ∧ p ≤ 45 then t.time else s.time })
    ∧ (∀ (p : Nat) (s : State), (s.pll p).state = 4 →
      exec (.eclipseEnd p) s = .next (s.setPll p { s.pll p with state := 2, word := 0, left := 0 }))
    ∧ (∀ (p : Nat) (s : State), (s.pll p).state = 5 →
      ∃ t, exec (.glideStep p) s = .next t ∧ ((s.pll p).left - (t.pll p).left).natAbs ≤ 1000000
        ∧ ((t.pll p).left = 0 → (t.pll p).state = 2) ∧ ((t.pll p).left ≠ 0 → (t.pll p).state = 5)
        ∧ (t.pll p).left.natAbs ≤ (s.pll p).left.natAbs ∧ t = s.setPll p (t.pll p))
    ∧ (∀ (p : Nat) (s : State), (s.pll p).state = 6 →
      exec (.pllFailedRetry p true) s = .next (s.setPll p { s.pll p with state := 2, word := 0, left := 0 })
        ∧ exec (.pllFailedRetry p false) s = .next s))
  ∧ (
    (∀ (i : Nat) (m : Bool) (s : State), i < 19 →
      ∃ t, exec (.glint i m) s = .next t ∧ (t.clockIn i).short = (s.clockIn i).short + b2n (!m)
        ∧ (t.clockIn i).missing = (s.clockIn i).missing + b2n m
        ∧ t = { s.protocol t with clocks := t.clocks } ∧ (i ≠ 0 → t.clocks.plls = s.clocks.plls))
    ∧ (∀ (s : State), ∃ t, exec .sysXoLost s = .next t ∧ (t.clockIn 0).lost ∧ t.time = { s.time with traceable := false }
        ∧ (∀ p, (t.pll p).state ≠ 2 ∧ (t.pll p).state ≠ 5) ∧ t = { s.protocol t with clocks := t.clocks, time := t.time })
    ∧ (∀ (s : State), ∃ t, exec .aoXoLost s = .next t ∧ (t.clockIn 1).lost ∧ t.clocks.plls = s.clocks.plls
        ∧ t = { s.protocol t with clocks := t.clocks })
    ∧ (∀ (p : Nat) (s : State), (s.pll p).state = 4 → p < 2 ∨ 38 ≤ p →
      ∃ t, exec (.pllFailed p) s = .next t ∧ t.pll p = { s.pll p with state := 6, faileds := (s.pll p).faileds + 1 }
        ∧ t = { s.protocol t with clocks := t.clocks }))

/-! ## Journal and recovery -/

/-- JOURNAL_READ (R104): a reader that asks for what its own command becomes gets no page, one that asks for entries no longer
held gets JOURNAL_GAP, and else the whole pages from the one that holds its start JSN; the header names epoch, chain, pages
and seals; nothing but the protocol's records changes. DEVID_CERT_READ (R446) answers OK while the Lantern is OPERATIONAL
and not decommissioned, and changes nothing but the protocol's records. -/
def Obligations.JournalPagesAndCertificatesAreRead : Prop :=
  (
    ∀ (r : Request) (s : State), journalRead.executes r s →
      let x := journalRead.work r s
      let start := u64 x.args 0
      let j := (journalRead.taken r s).journal
      let ps := j.fitPages ((j.readPages.dropWhile fun p => !p.entries.any fun e => decide (start ≤ e.jsn)).take (u16 x.args 8)) x.room
        ((j.readPages.dropWhile fun p => !p.entries.any fun e => decide (start ≤ e.jsn)).take (u16 x.args 8)).length
      let seals := (j.sealsOf ps).length
      (start ≠ x.jsn → start < j.chainFirst ∨ start < j.oldest →
        ∃ t, exec (.journalRead r) s = .next t ∧ t.answered r stJournalGap x.jsn ∧ t = s.protocol t)
      ∧ (start = x.jsn ∨ j.chainFirst ≤ start ∧ j.oldest ≤ start →
        ∃ t, exec (.journalRead r) s = .next t ∧ t.answered r stOk x.jsn ∧ t = s.protocol t
          ∧ (start = x.jsn → (journalRead.run x (journalRead.taken r s)).payload = le 2 0 ++ le 2 0 ++ zeros 4)
          ∧ (start ≠ x.jsn → (journalRead.run x (journalRead.taken r s)).payload = le 2 ps.length ++ le 2 seals ++ zeros 4
              ∧ (journalRead.run x (journalRead.taken r s)).out.take 12 = le 4 j.epoch ++ le 4 j.chain ++ le 2 ps.length ++ le 2 seals)))
  ∧ (
    ∀ (r : Request) (s : State), devidCertRead.executes r s → s.lantern.state = 1 → s.lantern.fuses.decommissioned = false →
      ∃ t, exec (.devidCertRead r) s = .next t ∧ t.answered r stOk (devidCertRead.work r s).jsn ∧ t = s.protocol t)

/-- Firmware replacement (R68, R113 to R116, R438, R444): FIRMWARE_LOAD goes on in the background until CMD_COMPLETE, which
keeps an image that verifies; fuses that read back complete their command; FIRMWARE_ACTIVATE of a verified image waits for a
Dusk line of TG0, of any other is SECURITY_ERROR, and UNIT_BUSY while one waits; at SWAP_END the new image runs from its
slot; at the watchdog the previous one goes on. -/
def Obligations.FirmwareIsLoadedAndSwapped : Prop :=
  (∀ (r : Request) (s : State), firmwareLoad.executes r s →
    ∃ t, exec (.firmwareLoad r) s = .next t ∧ t.worksOn firmwareLoad r s ∧ t = s.protocol t)
  ∧ (∀ (jsn : Nat) (s : State), (∀ j, j ∈ s.ccp.jobs → j.jsn ≠ jsn) → exec (.cmdComplete jsn) s = .next s)
  ∧ (∀ (j : Job) (s : State), s.ccp.jobs = [j] →
    (j.opcode = 0x0D01 →
      let p := Package.parse (j.args.drop 8)
      let slot := if u8 j.args 0 = 0 then 1 - s.flash.active else 2
      let ok := s.lantern.state == 1 && s.verifies p
      ∃ t, exec (.cmdComplete j.jsn) s = .next t ∧ t.ccp.jobs = []
        ∧ t.flash.slots = (if slot = 2 then s.flash.slots else s.flash.slots.set slot (some p))
        ∧ (ok → t.flash.loaded = some (slot, p)) ∧ (ok = false → (t.flash.loaded.map (·.1)) ≠ some slot)
        ∧ (s.carries j → (t.mailbox j.key).state = .done ∧ (t.mailbox j.key).status = if ok then stOk else stSecurity)
        ∧ t = { s.protocol t with flash := { s.flash with slots := t.flash.slots, loaded := t.flash.loaded } })
    ∧ (j.opcode = 0x0A0A ∨ j.opcode = 0x0A0C →
      ∃ t, exec (.cmdComplete j.jsn) s = .next t ∧ t.ccp.jobs = []
        ∧ t.lantern = { s.lantern with fuses := s.lantern.fuses.burn j.opcode j.args }
        ∧ (s.carries j → (t.mailbox j.key).state = .done ∧ (t.mailbox j.key).status = stOk)
        ∧ t = { s.protocol t with lantern := t.lantern }))
  ∧ (∀ (r : Request) (s : State), firmwareActivate.executes r s →
    let x := firmwareActivate.work r s
    (s.verified (u8 r.payload 0) = none →
      ∃ t, exec (.firmwareActivate r) s = .next t ∧ t.answered r stSecurity x.jsn ∧ t = s.protocol t)
    ∧ (∀ p, s.verified (u8 r.payload 0) = some p →
      (s.journal.swapJsn.isSome → ∃ t, exec (.firmwareActivate r) s = .next t ∧ t.answered r stUnitBusy x.jsn ∧ t = s.protocol t)
      ∧ (s.journal.swapJsn = none → firmwareActivate.mayWait r s .dusk 0 →
        ∃ t, exec (.firmwareActivate r) s = .next t ∧ t.waitsFor firmwareActivate r s .dusk 0 ∧ t.journal.swapJsn = some x.jsn
          ∧ t.flash = { s.flash with next := some (u8 r.payload 0, p) } ∧ t = { s.protocol t with flash := t.flash })))
  ∧ (∀ (mismatch : Bool) (slot : Nat) (p : Package) (s : State), s.journal.swapping → s.flash.next = some (slot, p) →
    ∃ t, exec (.swapEnd mismatch) s = .next t ∧ t.journal.swapping = false ∧ t.lantern.running = some p
      ∧ t.boot.fwBuild = p.build ∧ t.boot.fwSvn = p.version ∧ t.boot.majors = p.majors
      ∧ t.flash = { s.flash with
          next := none, previous := none, swapAt := none, loaded := none, sramY := !s.flash.sramY
          active := if slot ≤ 1 then slot else s.flash.active }
      ∧ t.journal.decisionLog = [] ∧ t.journal.effectLog = [] ∧ t.ccp.owed = []
      ∧ t = { s.protocol t with
          boot := { s.boot with fwBuild := p.build, fwSvn := p.version, majors := p.majors }, lantern := t.lantern, flash := t.flash
          regs := { s.regs with writeLog := t.regs.writeLog }
          memory := { s.memory with retention := t.memory.retention, waking := t.memory.waking } })
  ∧ (∀ (s : State), s.journal.swapping →
    ∃ t, exec .swapWatchdogExpiry s = .next t ∧ t.journal.swapping = false ∧ t.lantern = s.lantern ∧ t.boot = s.boot
      ∧ t.flash = { s.flash with next := none, previous := none, swapAt := none }
      ∧ t = { s.protocol t with
          flash := t.flash, regs := { s.regs with writeLog := t.regs.writeLog }
          memory := { s.memory with retention := t.memory.retention, waking := t.memory.waking } })
  ∧ (∀ (mismatch : Bool) (s : State), s.journal.swapping = false →
    exec (.swapEnd mismatch) s = .next s ∧ exec .swapWatchdogExpiry s = .next s)

/-- A scheduled command at its effect point (R48, R49, R97, R171, R531): of several at one point the earlier JSN goes first; a
route, a lane's settings, a synchroniser's settings, a generator's pattern and a table take effect, and the command leaves
the schedule. -/
def Obligations.ScheduledCommandsTakeEffect : Prop :=
  (∀ (jsn part : Nat) (ext : Int) (s : State),
    ((s.ccp.schedule.filter fun e => e.jsn == jsn)[part]? = none → exec (.scheduledEffect jsn part ext) s = .next s)
    ∧ (s.health.tripped → exec (.scheduledEffect jsn part ext) s = .next s))
  ∧ (∀ (e x : Sched) (part : Nat) (ext : Int) (s : State), (s.ccp.schedule.filter fun y => y.jsn == e.jsn)[part]? = some e →
    x ∈ s.ccp.schedule → x.jsn < e.jsn → x.kind = e.kind → x.effect = e.effect → x.kind < 6 → x.kind ≠ 1 → x.begun = false →
    x.opcode ≠ 0x0B01 → exec (.scheduledEffect e.jsn part ext) s = .next s)
  ∧ (∀ (e : Sched) (ext : Int) (s : State), s.ccp.schedule = [e] → e.last → s.health.tripped = false →
    (∀ p, e.opcode = 0x0401 → routeEntries e.args = [p] → s.destFenced (u16 p 0) = false → s.halted = false →
      ∃ t, exec (.scheduledEffect e.jsn 0 ext) s = .next t ∧ t.ccp.schedule = []
        ∧ (t.dest (u16 p 0)).source = u16 p 2 ∧ (t.dest (u16 p 0)).lane = (u8 p 4 == 1)
        ∧ (t.dest (u16 p 0)).noFollow = bit (u8 p 5) 0
        ∧ (∀ d, d ≠ u16 p 0 → (t.dest d).source = (s.dest d).source ∧ (t.dest d).lane = (s.dest d).lane))
    ∧ (e.opcode = 0x0302 →
      let a := e.args
      ∃ t, exec (.scheduledEffect e.jsn 0 ext) s = .next t ∧ t.ccp.schedule = []
        ∧ (t.lane (u16 a 0)).rxEn = (u8 a 2 == 1) ∧ (t.lane (u16 a 0)).txEn = (u8 a 3 == 1)
        ∧ (t.lane (u16 a 0)).rxIface = u8 a 4 ∧ (t.lane (u16 a 0)).txIface = u8 a 5 ∧ (t.lane (u16 a 0)).pre = i8 a 24
        ∧ (t.lane (u16 a 0)).post = i8 a 25 ∧ (t.lane (u16 a 0)).swing = u8 a 26)
    ∧ (e.opcode = 0x0405 → e.begun = false →
      let a := e.args
      ∃ t, exec (.scheduledEffect e.jsn 0 ext) s = .next t ∧ t.ccp.schedule = []
        ∧ t.signals = { s.signals with
            settings := tabPut s.signals.settings (pairKey (u16 a 0) (u8 a 2))
              { loss := u8 a 3, offset := i32 a 4, guard := if u16 a 8 = 0 then 16 else u16 a 8, freeze := u16 a 10 } }
        ∧ t = { s.protocol t with signals := t.signals, time := { s.time with groups := t.time.groups } })
    ∧ (e.opcode = 0x0407 → e.begun = false →
      let a := e.args
      ∃ t, exec (.scheduledEffect e.jsn 0 ext) s = .next t ∧ t.ccp.schedule = []
        ∧ t.gen (u8 a 0) = { s.gen (u8 a 0) with
            pattern := u8 a 5, colour := [u16 a 6, u16 a 8, u16 a 10], shown := (s.gen (u8 a 0)).enabled }
        ∧ t = { s.protocol t with
            routing := (s.setGen (u8 a 0) (t.gen (u8 a 0))).routing, time := { s.time with groups := t.time.groups } })
    ∧ (e.opcode = 0x0503 → e.begun = false →
      let n := u16 e.args 0
      ∃ t, exec (.scheduledEffect e.jsn 0 ext) s = .next t ∧ t.ccp.schedule = [] ∧ (t.pipe n).spare = (s.pipe n).bank
        ∧ (bit (u8 e.args 2) 0 → (t.pipe n).bank.lutA = slice e.args 8 24576)
        ∧ (bit (u8 e.args 2) 0 = false → (t.pipe n).bank.lutA = (s.pipe n).bank.lutA)
        ∧ t = { s.protocol t with
            conversion := (s.setPipe n (t.pipe n)).conversion, time := { s.time with groups := t.time.groups } }))

/-! ## Signal interfaces -/

/-- FLOW_CONFIGURE (R135, R150): a flow takes its 152 bytes; a receive flow of pictures that becomes enabled starts in LOSS with
reason NO_PACKETS, a transmit flow that becomes enabled waits for a frame of its group. No other flow changes. Timeouts of a
flow (R141, R150) and the answers of firmware on a port (R132): no packet for two frame periods is LOSS with reason
NO_PACKETS; a leg without packets is lost, and good again after a timeout with packets; an ARP, NDP or echo request on a
port that is up is answered. -/
def Obligations.FlowsAreConfiguredAndTimeOut : Prop :=
  (
    ∀ (r : Request) (s : State), flowConfigure.executes r s →
      let p := r.payload
      let n := u16 p 0
      let b := flowConfigure.taken r s
      let legs := List.range (u8 p 5)
      let keysOk := u32 p 104 = 0 ∨ b.keyUsable (u32 p 104) = true
      let clear := keysOk ∧ (∀ k, k ∈ legs → b.fenced 1 (u16 p (8 + 2 * k)) = false)
        ∧ ((u8 p 3 = 1 ∨ u8 p 3 = 2) → u8 p 101 = b.systemRate)
      (u8 p 2 = 0 ∧ b.keyLost (s.rx n) = false ∧ clear →
        ∃ t, exec (.flowConfigure r) s = .next t ∧ t.answered r stOk (flowConfigure.work r s).jsn
          ∧ (t.rx n).cfg = p ∧ (∀ m, m ≠ n → t.rx m = s.rx m) ∧ (∀ m, t.tx m = s.tx m)
          ∧ (u8 p 4 = 1 ∧ pictureKind (u8 p 3) ∧ (s.rx n).enabled = false →
              (t.input (flowSource n)).loss = 7 ∧ (t.input (flowSource n)).format = none
                ∧ (t.input (flowSource n)).count.lossEntries = (s.input (flowSource n)).count.lossEntries + 1)
          ∧ (∀ k, k < 2 → (s.rx n).enabled → u8 p 3 = (s.rx n).kind → u8 p 6 = u8 (s.rx n).cfg 6 → u8 p 5 = (s.rx n).legCount →
              sameLeg (s.rx n).cfg p k → (t.rx n).legs.getD k {} = (s.rx n).legs.getD k {})
          ∧ t = { s.protocol t with signals := t.signals })
      ∧ (u8 p 2 = 1 ∧ b.keyLost (s.tx n) = false ∧ clear
          ∧ (u8 p 4 = 1 → ∀ k, k ∈ legs → b.portFits (u16 p (8 + 2 * k)) n { s.tx n with cfg := p }) →
        ∃ t, exec (.flowConfigure r) s = .next t ∧ t.answered r stOk (flowConfigure.work r s).jsn
          ∧ t.tx n = { s.tx n with cfg := p, keyTold := false
                                   waiting := u8 p 4 == 1 && (!(s.tx n).enabled || (s.tx n).waiting) }
          ∧ (∀ m, m ≠ n → t.tx m = s.tx m) ∧ t = { s.protocol t with signals := { s.signals with tx := t.signals.tx } })
      ∧ (keysOk ∧ b.keyLost (if u8 p 2 = 1 then s.tx n else s.rx n) = false ∧ (∃ k, k ∈ legs ∧ b.fenced 1 (u16 p (8 + 2 * k))) →
        ∃ t, exec (.flowConfigure r) s = .next t ∧ t.answered r stUnitFenced (flowConfigure.work r s).jsn ∧ t = s.protocol t))
  ∧ (
    (∀ (n : Nat) (s : State), (s.rx n).enabled → pictureKind (s.rx n).kind → s.inLoss (flowSource n) = false →
      ∃ t, exec (.flowNoPacketTimeout n) s = .next t ∧ (t.input (flowSource n)).loss = 7
        ∧ (t.input (flowSource n)).count.lossEntries = (s.input (flowSource n)).count.lossEntries + 1
        ∧ (∀ m, t.rx m = s.rx m) ∧ t = { s with signals := t.signals, events := t.events })
    ∧ (∀ (n leg : Nat) (s : State),
      let f := s.rx n
      let l := f.legs.getD leg {}
      f.enabled → leg < f.legCount → leg < f.legs.length →
      (l.lost = false → ∃ t, exec (.flowLegLost n leg) s = .next t
        ∧ (t.rx n).legs.getD leg {} = { l with lost := true, seen := false } ∧ (∀ m, m ≠ n → t.rx m = s.rx m)
        ∧ t = { s with signals := { s.signals with rx := t.signals.rx }, events := t.events })
      ∧ (l.lost ∧ l.seen → ∃ t, exec (.flowLegRestored n leg) s = .next t
        ∧ (t.rx n).legs.getD leg {} = { l with lost := false } ∧ (∀ m, m ≠ n → t.rx m = s.rx m)
        ∧ t = { s with signals := { s.signals with rx := t.signals.rx } }))
    ∧ (∀ (port : Nat) (s : State), s.ethernetPort port → (s.lane port).state = .up → s.fwRunning →
      ∃ t, exec (.arpNdpIcmpEcho port) s = .next t
        ∧ (tabGet t.signals.ports port {}).answers = (tabGet s.signals.ports port {}).answers + 1
        ∧ t = { s with signals := { s.signals with ports := t.signals.ports } }))

/-- Frames and LOSS of an SDI input (R125, R150, R575): a complete frame of the known format is counted and one more good frame
in a row; a frame that fails on a link puts the input in LOSS with that cause and link; an input in LOSS is restored after 4
good frames. Packets of a receive flow (R140, R142, R153): the first packet starts the sequence; the next in sequence is
released; one that has been released is a duplicate; a later one is held by the merge and counted out of order; a fragment
is counted and dropped. When the merge window ends, the missing numbers are lost and the held packets are released. -/
def Obligations.InputsAndPacketsAreReceived : Prop :=
  (
    (∀ (n : Nat) (f : SdiFrame) (s : State),
      let i := s.input n
      let run := (List.range 4).map fun k =>
        match f.links[k]? with
        | some l => if l.trsErrors = 0 then 0 else i.trsRun.getD k 0 + 1
        | none => 0
      s.sourceOk n → (s.quad (n / 4)).protocol = 1 → (∀ m, m ∈ s.rxGroup n → (s.lane m).state = .up) →
      (firstCause f run = (0, 0) ∧ wrongFormat f (s.rxSet n) = false
          ∧ ((s.rxSet n).fixed ≠ none ∨ i.format = none ∨ i.format = sdiFormat f) →
        ∃ t, exec (.sdiFrameReceived n f) s = .next t
          ∧ (t.input n).count.complete = i.count.complete + b2n f.complete
          ∧ (t.input n).good = (if f.complete then i.good + 1 else 0) ∧ (t.input n).loss = i.loss
          ∧ (t.input n).count.errLines = i.count.errLines + erroredLines f
          ∧ (∀ src, src ≠ n → t.input src = s.input src)
          ∧ t = { s with signals := t.signals, conversion := t.conversion, lanes := t.lanes, events := t.events })
      ∧ ((firstCause f run).1 ≠ 0 →
        ∃ t, exec (.sdiFrameReceived n f) s = .next t ∧ ((t.input n).loss, (t.input n).link) = firstCause f run
          ∧ (t.input n).good = 0 ∧ (t.input n).count.complete = i.count.complete
          ∧ (t.input n).count.lossEntries = i.count.lossEntries + b2n (i.loss == 0)))
    ∧ (∀ (src reason link : Nat) (s : State), s.inLoss src = false → lossHolds s src reason link → reason ≠ 0 →
      ∃ t, exec (.inputLoss src reason link) s = .next t ∧ (t.input src).loss = reason ∧ (t.input src).link = link
        ∧ (t.input src).good = 0 ∧ (t.input src).count.lossEntries = (s.input src).count.lossEntries + 1
        ∧ (∀ o, o ≠ src → t.input o = s.input o) ∧ t = { s with signals := t.signals, events := t.events })
    ∧ (∀ (src : Nat) (s : State), s.inLoss src →
      (4 ≤ (s.input src).good → ∃ t, exec (.inputRestored src) s = .next t ∧ t.inLoss src = false ∧ (t.input src).link = 0
        ∧ (∀ o, o ≠ src → t.input o = s.input o)
        ∧ t = { s with signals := { s.signals with inputs := t.signals.inputs }, events := t.events })
      ∧ ((s.input src).good < 4 → exec (.inputRestored src) s = .next s)))
  ∧ (
    (∀ (n leg : Nat) (p : IpPacket) (s : State),
      let f := s.rx n
      s.halted = false → n < 512 → f.enabled → leg < f.legCount → leg < f.legs.length →
      (p.fragment → exec (.ipPacketReceived n leg p) s
          = .next (s.setRx n (f.setLeg leg fun l => { l with fragments := l.fragments + 1 })))
      ∧ (p.fragment = false ∧ p.overrun = false ∧ f.matches p ∧ f.handle = 0 →
        (f.next = none →
          ∃ t, exec (.ipPacketReceived n leg p) s = .next t ∧ (t.rx n).next = some (p.seq + 1)
            ∧ (t.rx n).received = f.received + 1 ∧ ((t.rx n).legs.getD leg {}).received = (f.legs.getD leg {}).received + 1)
        ∧ (∀ m, f.next = some m → p.seq < m → (f.legCount = 2 ∨ codedKind f.kind) →
          ∃ t, exec (.ipPacketReceived n leg p) s = .next t ∧ (t.rx n).duplicate = f.duplicate + 1 ∧ (t.rx n).next = some m
            ∧ (t.rx n).received = f.received ∧ (∀ k, k ≠ n → t.rx k = s.rx k)
            ∧ t = { s with signals := { s.signals with rx := t.signals.rx } })
        ∧ (f.next = some p.seq → f.held = [] →
          ∃ t, exec (.ipPacketReceived n leg p) s = .next t ∧ (t.rx n).next = some (p.seq + 1)
            ∧ (t.rx n).received = f.received + 1 ∧ (t.rx n).held = [])
        ∧ (∀ m, f.next = some m → m < p.seq → (f.legCount = 2 ∨ codedKind f.kind) → (∀ q, q ∈ f.held → q.seq ≠ p.seq) →
          ∃ t, exec (.ipPacketReceived n leg p) s = .next t ∧ (t.rx n).held = holdPacket p f.held ∧ (t.rx n).next = some m
            ∧ (t.rx n).outOfOrder = f.outOfOrder + 1 ∧ t = { s with signals := { s.signals with rx := t.signals.rx } })))
    ∧ (∀ (n m : Nat) (p : IpPacket) (q : List IpPacket) (s : State),
      let f := s.rx n
      f.enabled → f.held = p :: q → f.next = some m → m < p.seq →
      ∃ t k, exec (.mergeWindowExpiry n) s = .next t ∧ (t.rx n).lost = f.lost + (p.seq - m) ∧ (t.rx n).next = some k ∧ p.seq < k))

/-! ## Routing and watch rules -/

/-- ROUTE_SET (R48, R161, R171, R174): a route that nothing refuses waits for its effect point; one that a fence, a lock, a test
or the formats refuse is answered with the first such status and changes nothing. SALVO (R49, R172): all or nothing. A salvo
no member of which is refused and that fits waits with every member in the schedule under its one JSN; a salvo one of whose
members is refused answers with that member's status and index, and none of it waits. -/
def Obligations.RoutesAndSalvosWaitForTheirSwitch : Prop :=
  (
    ∀ (r : Request) (s : State), routeSet.executes r s →
      let p := r.payload
      let b := routeSet.taken r s
      let g := if u8 p 4 = 1 then r.group.toNat else s.destGroup (u16 p 0)
      (b.routeRefusal p = none ∧ routeSet.mayWait r s (routeKind p) g
          ∧ b.fits (b.entryCharges p) (routeSet.placed r s (routeKind p) g).effect →
        ∃ t, exec (.routeSet r) s = .next t ∧ t.waitsFor routeSet r s (routeKind p) g
          ∧ t = { s.protocol t with signals := { s.signals with syncs := t.signals.syncs }
                                    cascade := { s.cascade with subs := t.cascade.subs } })
      ∧ (∀ st, b.routeRefusal p = some st →
        ∃ t, exec (.routeSet r) s = .next t ∧ t.answered r st (routeSet.work r s).jsn ∧ t = s.protocol t)
      ∧ (b.routeRefusal p = none ∧ (routeSet.placed r s (routeKind p) g).late = false ∧ b.waiting < 8192
          ∧ b.fits (b.entryCharges p) (routeSet.placed r s (routeKind p) g).effect = false →
        ∃ t, exec (.routeSet r) s = .next t ∧ t.answered r stNoCapacity (routeSet.work r s).jsn
          ∧ t.ccp.schedule = s.ccp.schedule ∧ (∀ d, t.dest d = s.dest d)))
  ∧ (
    ∀ (r : Request) (s : State), salvo.executes r s →
      let b := salvo.taken r s
      let x := salvo.work r s
      let es := salvoEntries x
      let g := b.salvoGroup x es
      let p := b.place .switchLine g r.atFrame.toNat r.atLine.toNat r.group.toNat (b.stampOf x.key g)
      let f := b.salvoFrame g p.effect.frame es
      let timed := (b.salvoParts g f es).flatMap fun y => (b.partCharges y).map fun q => (⟨b.effectDt y.effect, q⟩ : Timed)
      ((∀ e, e ∈ es → b.routeRefusal e = none) ∧ (p.late = true ∨ f ≠ p.effect.frame → flagDiscard x.flags = false)
          ∧ b.overfull timed = [] ∧ b.waiting < 8192 →
        ∃ t, exec (.salvo r) s = .next t
          ∧ t.answered r (if p.late = true ∨ f ≠ p.effect.frame then stAppliedLate else stScheduled) x.jsn
          ∧ (∀ e, e ∈ es → t.ccp.schedule.any fun y => y.jsn == x.jsn && y.opcode == 0x0402 && (routeEntries y.args).contains e)
          ∧ (∀ d, t.dest d = s.dest d)
          ∧ t = { s.protocol t with signals := { s.signals with syncs := t.signals.syncs }
                                    cascade := { s.cascade with subs := t.cascade.subs } })
      ∧ (∀ i e st, es[i]? = some e → b.routeRefusal e = some st → (∀ j q, j < i → es[j]? = some q → b.routeRefusal q = none) →
        x.dma = false →
        ∃ t, exec (.salvo r) s = .next t ∧ t.answeredWith r st x.jsn (le 2 i) ∧ t.ccp.schedule = s.ccp.schedule
          ∧ t = s.protocol t))

/-- DESTINATION_LOCK (R173), WATCH_RULE_SET (R176) and DESTINATION_CONFIGURE (R158, R159): a lock is set at acceptance; a rule
waits for its Dusk line, and is refused on a locked destination; settings wait for the switching line, and a change of group
waits in two parts, at the old group's switching line and at a frame start of the new group. SYNC_CONFIGURE (R148) waits for
a frame start of its group, and in a disabled group is stored at acceptance; TEST_GENERATOR_SET (R157) disables a generator
that nothing uses at once, and shows an enabled generator's pattern at the first active line; a generator in use keeps its
format. -/
def Obligations.DestinationsAndSourcesAreConfigured : Prop :=
  (
    (∀ (r : Request) (s : State), destinationLock.executes r s → (destinationLock.taken r s).destFenced (u16 r.payload 0) = false →
      let d := u16 r.payload 0
      ∃ t, exec (.destinationLock r) s = .next t ∧ t.answered r stOk (destinationLock.work r s).jsn
        ∧ t.dest d = { s.dest d with locked := u8 r.payload 2 == 1 } ∧ (∀ e, e ≠ d → t.dest e = s.dest e)
        ∧ t = { s.protocol t with routing := { s.routing with dests := t.routing.dests } })
    ∧ (∀ (r : Request) (s : State), watchRuleSet.executes r s →
      let p := r.payload
      let d := u16 p 0
      let b := watchRuleSet.taken r s
      let g := s.destGroup d
      let cs := if u8 p 2 = 1 then ruleCands p else []
      (b.destFenced d = false ∧ (∀ c, c ∈ cs → b.sourceFenced c = false) →
        ((s.dest d).locked = false ∧ (∀ c, c ∈ cs → b.compatible d c) ∧ watchRuleSet.mayWait r s .dusk g
            ∧ b.fits (b.ruleCharges d g cs) (watchRuleSet.placed r s .dusk g).effect →
          ∃ t, exec (.watchRuleSet r) s = .next t ∧ t.waitsFor watchRuleSet r s .dusk g ∧ t.routing = s.routing
            ∧ t = { s.protocol t with signals := { s.signals with syncs := t.signals.syncs }
                                      cascade := { s.cascade with subs := t.cascade.subs } })
        ∧ ((s.dest d).locked →
          ∃ t, exec (.watchRuleSet r) s = .next t ∧ t.answered r stDestinationLocked (watchRuleSet.work r s).jsn
            ∧ t = s.protocol t)))
    ∧ (∀ (r : Request) (s : State), destinationConfigure.executes r s →
      let p := r.payload
      let d := u16 p 0
      let b := destinationConfigure.taken r s
      let g := s.destGroup d
      let h := u8 p 2
      let jsn := (destinationConfigure.work r s).jsn
      b.destFenced d = false →
      ((s.dest d).locked = false ∧ (1 < cls d ∨ h = g) ∧ destinationConfigure.mayWait r s .switchLine g →
        ∃ t, exec (.destinationConfigure r) s = .next t ∧ t.waitsFor destinationConfigure r s .switchLine g ∧ t = s.protocol t)
      ∧ ((s.dest d).locked = false ∧ cls d ≤ 1 ∧ h ≠ g ∧ destinationConfigure.mayWait r s .switchLine g
          ∧ destinationConfigure.mayWait r s .frameStart h
          ∧ b.fits (b.moveCharges d h) (destinationConfigure.placed r s .frameStart h).effect →
        ∃ t, exec (.destinationConfigure r) s = .next t
          ∧ (t.ccp.schedule.any fun e => e.jsn == jsn && e.kind == Point.switchLine.code
              && e.effect == (destinationConfigure.placed r s .switchLine g).effect)
          ∧ (t.ccp.schedule.any fun e => e.jsn == jsn && e.kind == Point.frameStart.code
              && e.effect == (destinationConfigure.placed r s .frameStart h).effect)
          ∧ t.routing = s.routing
          ∧ t = { s.protocol t with signals := { s.signals with syncs := t.signals.syncs }
                                    cascade := { s.cascade with subs := t.cascade.subs } })
      ∧ ((s.dest d).locked →
        ∃ t, exec (.destinationConfigure r) s = .next t ∧ t.answered r stDestinationLocked jsn ∧ t = s.protocol t)))
  ∧ (
    (∀ (r : Request) (s : State), syncConfigure.executes r s → (syncConfigure.taken r s).sourceFenced (u16 r.payload 0) = false →
      let p := r.payload
      let g := u8 p 2
      ((s.tg g).enabled ∧ syncConfigure.mayWait r s .frameStart g →
        ∃ t, exec (.syncConfigure r) s = .next t ∧ t.waitsFor syncConfigure r s .frameStart g ∧ t = s.protocol t)
      ∧ ((s.tg g).enabled = false →
        ∃ t, exec (.syncConfigure r) s = .next t ∧ t.answered r stOk (syncConfigure.work r s).jsn
          ∧ tabGet t.signals.settings (pairKey (u16 p 0) g) {}
            = { loss := u8 p 3, offset := i32 p 4, guard := if u16 p 8 = 0 then 16 else u16 p 8, freeze := u16 p 10 }
          ∧ t = { s.protocol t with signals := { s.signals with settings := t.signals.settings } }))
    ∧ (∀ (r : Request) (s : State), testGeneratorSet.executes r s →
      let p := r.payload
      let n := u8 p 0
      let x := s.gen n
      let used := s.sourceUsed (0x5000 + n)
      let same := x.tg = u8 p 2 ∧ x.raster = u8 p 3 ∧ x.rate = u8 p 4
      (u8 p 1 = 0 ∧ (used = false ∨ x.enabled = false) →
        ∃ t, exec (.testGeneratorSet r) s = .next t ∧ t.answered r stOk (testGeneratorSet.work r s).jsn
          ∧ (t.gen n).enabled = false ∧ (t.gen n).shown = false ∧ (∀ m, m ≠ n → t.gen m = s.gen m)
          ∧ t = { s.protocol t with routing := { s.routing with gens := t.routing.gens } })
      ∧ (u8 p 1 ≠ 0 ∧ (used = false ∨ same) ∧ (x.enabled = false ∨ x.pattern ≠ u8 p 5)
          ∧ testGeneratorSet.mayWait r s .firstActive (u8 p 2) →
        ∃ t, exec (.testGeneratorSet r) s = .next t ∧ t.waitsFor testGeneratorSet r s .firstActive (u8 p 2)
          ∧ (t.gen n).tg = u8 p 2 ∧ (t.gen n).raster = u8 p 3 ∧ (t.gen n).rate = u8 p 4 ∧ (t.gen n).pattern = x.pattern
          ∧ (∀ m, m ≠ n → t.gen m = s.gen m)
          ∧ t = { s.protocol t with routing := { s.routing with gens := t.routing.gens } })
      ∧ (used ∧ (u8 p 1 = 0 ∧ x.enabled ∨ u8 p 1 ≠ 0 ∧ ¬same) →
        ∃ t, exec (.testGeneratorSet r) s = .next t ∧ t.answered r stUnitBusy (testGeneratorSet.work r s).jsn ∧ t = s.protocol t)))

/-! ## Reset, the shaded view, and what every step keeps -/

/-- DESTINATION_LOCK (R173): its payload is the destination, a lock value of 0 or 1 and 5 reserved bytes; its at fields are
zero; it takes effect at acceptance, when the destination's lock is the value; and the change is of the standing
configuration, which its OUTCOME entry says. -/
def Obligations.LocksAreSetAtAcceptance : Prop :=
  (∀ (r : Request) (s : State), destinationLock.passes r s →
    r.payload.length = 8 ∧ u8 r.payload 2 ≤ 1 ∧ slice r.payload 3 5 = zeros 5 ∧ r.atFrame = 0 ∧ r.atLine = 0 ∧ r.group = 0)
  ∧ (∀ (r : Request) (s : State), r.atFrame ≠ 0 ∨ r.atLine ≠ 0 ∨ r.group ≠ 0 → destinationLock.formOk r s = false)
  ∧ 0x0403 ∈ standingOpcodes
  ∧ (∀ (r : Request) (s : State), destinationLock.executes r s → (destinationLock.taken r s).destFenced (u16 r.payload 0) = false →
    let d := u16 r.payload 0
    ∃ t, exec (.destinationLock r) s = .next t ∧ t.answered r stOk (destinationLock.work r s).jsn
      ∧ t.dest d = { s.dest d with locked := u8 r.payload 2 == 1 } ∧ (∀ e, e ≠ d → t.dest e = s.dest e)
      ∧ t = { s.protocol t with routing := { s.routing with dests := t.routing.dests } }
      ∧ (s.journal.newChain = false → s.journal.open_.length < 62 →
          ∃ e, t.journal.last = some e ∧ e.kind = 1 ∧ e.opcode = 0x0403 ∧ bit e.outcome 4))

/-! ## Routing and watch rules -/

/-- What a watch rule decides (R179): with an enabled condition active on the current source it fails over to the first healthy
candidate that is not the current source, and when there is none it is stuck; with none active it returns to a primary that
has been healthy for the return hold, when automatic return is on; otherwise nothing changes. WATCH_DECISION_EFFECT (R180):
the destination takes the new source on the stream path, the rule's decision is spent, the hold counts of the new source
begin again, and the DECISION entry is written. A lane path that loses its source takes its loss behaviour and passes the
source again when it is back (R162). -/
def Obligations.WatchRulesDecideAndSwitch : Prop :=
  (
    ∀ (p : Bytes) (cands : List Watched) (current : Nat), cands.length ≤ 4 →
      let healthy (c : Watched) : Prop := c.source ≠ current ∧ 0 < c.healthy
      let active := (cands.find? fun c => c.source == current).bind (activeCondition p)
      let returns := ruleReturn p = true ∧ ∃ c, cands[0]? = some c ∧ c.source ≠ current ∧ ruleReturnHold p ≤ c.healthy
      (∀ k i c, active = some k → cands[i]? = some c → healthy c → (∀ j d, j < i → cands[j]? = some d → ¬healthy d) →
        decide_ p cands current = .switch i k)
      ∧ (∀ k, active = some k → (∀ c, c ∈ cands → ¬healthy c) → decide_ p cands current = .stuck)
      ∧ (active = none → returns → decide_ p cands current = .switch 0 0x80)
      ∧ (active = none → ¬returns → decide_ p cands current = .stay))
  ∧ (
    (∀ (d pos cond f : Nat) (x : Rule) (c : Watched) (s : State), s.rule d = some x → x.decided = some (pos, cond, f) →
      x.cands[pos]? = some c → s.journal.newChain = false → s.journal.open_.length < 64 →
      ∃ t y e, exec (.watchDecisionEffect d) s = .next t ∧ (t.dest d).source = c.source ∧ (t.dest d).lane = false
        ∧ t.rule d = some y ∧ y.decided = none ∧ y.cands[pos]? = some { c with counts := [0, 0, 0, 0, 0, 0], healthy := 0 }
        ∧ t.journal.last = some e ∧ e.kind = 2 ∧ u16 e.args 0 = d % 65536 ∧ u16 e.args 4 = c.source % 65536
        ∧ (∀ j, j ≠ d → (t.dest j).source = (s.dest j).source) ∧ t.time = s.time)
    ∧ (∀ (n : Nat) (s : State), n < 144 → (s.dest n).lane →
      exec (.lanePassLoss n) s = .next (s.setDest n { s.dest n with laneLoss := true })
        ∧ exec (.lanePassResume n) s = .next (s.setDest n { s.dest n with laneLoss := false })))

/-! ## Conversion -/

/-- PIPE_CONFIGURE (R186, R210), PIPE_GANG (R203) and PIPE_LUT_LOAD (R194): a configuration and a table load wait for their
effect point, and in a disabled group are stored at once; a gang is made at acceptance out of pipes that are not enabled. -/
def Obligations.PipesAreConfiguredGangedAndLoaded : Prop :=
  (∀ (r : Request) (s : State), pipeConfigure.executes r s →
    let p := r.payload
    let n := u16 p 0
    let b := pipeConfigure.taken r s
    let x := s.pipe n
    let g := if u8 p 2 = 0 ∧ x.enabled then x.tg else u8 p 3
    let k : Point := if reconfigures x.cfg p then .frameStart else .firstActive
    let at_ := pipeConfigure.placed r s k g
    let motion : Bool := u8 p 2 == 1 && u8 p 30 == 2
    let core := if motion then b.motionCore n p (b.effectDt at_.effect) else none
    let t0 := s.tg (u8 p 3)
    b.gangDown n = false → b.gangTested n = false →
    (u8 p 2 = 1 → pipeCharge (u8 p 4) (u8 p 5) t0.raster t0.rate ≤ 16 * x.gang) →
    ((s.tg g).enabled ∧ (motion = true → core.isSome = true) ∧ pipeConfigure.mayWait r s k g
        ∧ b.fits (b.pipeCharges n p core) at_.effect →
      ∃ t, exec (.pipeConfigure r) s = .next t ∧ t.waitsFor pipeConfigure r s k g ∧ t.conversion = s.conversion
        ∧ t = { s.protocol t with signals := { s.signals with syncs := t.signals.syncs }
                                  cascade := { s.cascade with subs := t.cascade.subs } })
    ∧ ((s.tg g).enabled = false →
      ∃ t, exec (.pipeConfigure r) s = .next t ∧ t.answered r stOk (pipeConfigure.work r s).jsn
        ∧ t.pipe n = x.configured p none ∧ (∀ m, m ≠ n → t.pipe m = s.pipe m)
        ∧ t = { s.protocol t with conversion := t.conversion, signals := { s.signals with syncs := t.signals.syncs }
                                  cascade := { s.cascade with subs := t.cascade.subs } })
    ∧ ((s.tg g).enabled ∧ motion = true ∧ core = none →
      ∃ t, exec (.pipeConfigure r) s = .next t ∧ t.answered r stNoCapacity (pipeConfigure.work r s).jsn ∧ t = s.protocol t))
  ∧ (∀ (r : Request) (s : State), pipeGang.executes r s →
    let n := u16 r.payload 0
    let k := u8 r.payload 2
    let b := pipeGang.taken r s
    let span := max k (s.pipe n).gang
    ((∀ i, i < span → b.pipeDown (n + i) = false) ∧ (∀ i, i < span → (s.pipe (s.gangHead (n + i))).enabled = false) →
      ∃ t, exec (.pipeGang r) s = .next t ∧ t.answered r stOk (pipeGang.work r s).jsn
        ∧ t.pipe n = { s.pipe n with gang := k }
        ∧ (∀ i, 0 < i → i < span → t.pipe (n + i) = { s.pipe (n + i) with gang := 1 })
        ∧ (∀ m, m < n ∨ n + span ≤ m → t.pipe m = s.pipe m) ∧ t = { s.protocol t with conversion := t.conversion })
    ∧ ((∀ i, i < span → b.pipeDown (n + i) = false) ∧ (∃ i, i < span ∧ (s.pipe (s.gangHead (n + i))).enabled) →
      ∃ t, exec (.pipeGang r) s = .next t ∧ t.answered r stUnitBusy (pipeGang.work r s).jsn ∧ t = s.protocol t))
  ∧ (∀ (r : Request) (s : State), pipeLutLoad.executes r s →
    let x := pipeLutLoad.work r s
    let n := u16 x.args 0
    let sel := u8 x.args 2
    let g := (s.pipe n).tg
    (pipeLutLoad.taken r s).gangDown n = false →
    ((s.tg g).enabled ∧ pipeLutLoad.mayWait r s .firstActive g →
      ∃ t, exec (.pipeLutLoad r) s = .next t ∧ t.waitsFor pipeLutLoad r s .firstActive g ∧ t = s.protocol t)
    ∧ ((s.tg g).enabled = false →
      ∃ t, exec (.pipeLutLoad r) s = .next t ∧ t.answered r stOk x.jsn ∧ (t.pipe n).spare = (s.pipe n).bank
        ∧ (bit sel 0 = false → (t.pipe n).bank.lutA = (s.pipe n).bank.lutA)
        ∧ (bit sel 2 = false → (t.pipe n).bank.lutB = (s.pipe n).bank.lutB)
        ∧ (∀ m, m ≠ n → t.pipe m = s.pipe m) ∧ t = { s.protocol t with conversion := t.conversion }))

/-! ## Canvases and surfaces -/

/-- SURFACE_ALLOCATE (R216, R217): a new surface takes the next handle and an area of HBM that no other surface holds; the
response gives handle, address, size and stride. TTC is taken with version 1 only. No other surface changes. Releasing a
surface (R235, R236): an IDLE one is freed at once; an ACTIVE one is in AFTERGLOW while the command goes on, and is freed
once its last use has passed; a surface in AFTERGLOW is SURFACE_IN_USE; an ACTIVE one that nothing names or reads any more
is IDLE again. SURFACE_WRITE and SURFACE_READY (R220): the bytes of the request data stand in the surface from the offset
on, and no other byte of HBM changes; the surface is READY. A surface in use is not written. -/
def Obligations.SurfacesLiveAndDie : Prop :=
  (
    ∀ (r : Request) (s : State), surfaceAllocate.executes r s →
      let p := r.payload
      let l := u8 p 5
      let n := s.pictures.nextHandle
      let size := surfaceSize l (u8 p 4) (u16 p 0) (u16 p 2) (u32 p 8)
      let stride := surfaceStride l (u8 p 4) (u16 p 0) (u32 p 8)
      ((l = 2 → u8 p 6 = 1) ∧ s.pictures.surfaces.length < 4096 ∧ (s.surfaceAddr size).isSome ∧ s.memory.wf →
        ∃ t a, exec (.surfaceAllocate r) s = .next t
          ∧ t.answeredWith r stOk (surfaceAllocate.work r s).jsn (le 4 n ++ le 8 a ++ le 8 size ++ le 4 stride)
          ∧ t.surface n = some { addr := a, size, stride, width := u16 p 0, height := u16 p 2, format := u8 p 4, layout := l }
          ∧ s.areaFree a size ∧ (∀ h, h ≠ n → t.surface h = s.surface h) ∧ t.pictures.nextHandle = n + 1
          ∧ (l ≠ 2 → t.memory = s.memory)
          ∧ (∀ b, b < a ∨ a + 64 ≤ b → memGet t.memory.hbm b = memGet s.memory.hbm b)
          ∧ t = { s.protocol t with pictures := t.pictures, memory := { s.memory with hbm := t.memory.hbm }
                                    freeCount := t.freeCount })
      ∧ (l = 2 ∧ u8 p 6 ≠ 1 → ∃ t, exec (.surfaceAllocate r) s = .next t
          ∧ t.answered r stFormatMismatch (surfaceAllocate.work r s).jsn ∧ t = s.protocol t)
      ∧ ((l = 2 → u8 p 6 = 1) ∧ 4096 ≤ s.pictures.surfaces.length → ∃ t, exec (.surfaceAllocate r) s = .next t
          ∧ t.answered r stNoCapacity (surfaceAllocate.work r s).jsn ∧ t = s.protocol t))
  ∧ (
    (∀ (r : Request) (x : Surface) (s : State), surfaceRelease.executes r s →
      let h := u32 r.payload 0
      s.surface h = some x →
      (x.state = .idle → ∃ t, exec (.surfaceRelease r) s = .next t ∧ t.answered r stOk (surfaceRelease.work r s).jsn
        ∧ t.pictures.surfaces = tabDrop s.pictures.surfaces h ∧ t = { s.protocol t with pictures := t.pictures })
      ∧ (x.state = .afterglow → ∃ t, exec (.surfaceRelease r) s = .next t
        ∧ t.answered r stSurfaceInUse (surfaceRelease.work r s).jsn ∧ t = s.protocol t)
      ∧ (x.state = .active → ∃ t, exec (.surfaceRelease r) s = .next t ∧ t.worksOn surfaceRelease r s
        ∧ t.surface h = some { x with state := .afterglow, releaseJsn := some (surfaceRelease.work r s).jsn }
        ∧ (∀ k, k ≠ h → t.surface k = s.surface k) ∧ t = { s.protocol t with pictures := t.pictures }))
    ∧ (∀ (h : Nat) (x : Surface) (s : State), s.surface h = some x → s.surfaceNamed h = false → s.surfaceRead h = false →
      (x.state = .active → exec (.surfaceLastUsePassed h) s = .next (s.setSurface h { x with state := .idle }))
      ∧ (x.state = .afterglow →
        (∀ j, (s.ccp.jobs.find? fun k => some k.jsn == x.releaseJsn) = some j →
          ∃ t, exec (.surfaceLastUsePassed h) s = .next t ∧ t.pictures.surfaces = tabDrop s.pictures.surfaces h
            ∧ (∀ k, k ∈ t.ccp.jobs → k.jsn ≠ j.jsn) ∧ t = { s.protocol t with pictures := t.pictures })
        ∧ ((s.ccp.jobs.find? fun k => some k.jsn == x.releaseJsn) = none →
          exec (.surfaceLastUsePassed h) s = .next (s.freeSurface h)))))
  ∧ (
    (∀ (r : Request) (y : Surface) (s : State), surfaceWrite.executes r s → s.memory.wf →
      let x := surfaceWrite.work r s
      let h := u32 x.args 0
      s.surface h = some y →
      let a := y.addr + u64 x.args 4
      (y.state = .idle →
        ∃ t, exec (.surfaceWrite r) s = .next t ∧ t.answered r stOk x.jsn ∧ t.surface h = some { y with ready := true }
          ∧ memRead t.memory.hbm a x.data.length = x.data
          ∧ (∀ b, b < a ∨ a + x.data.length ≤ b → memGet t.memory.hbm b = memGet s.memory.hbm b)
          ∧ (∀ k, k ≠ h → t.surface k = s.surface k)
          ∧ t = { s.protocol t with pictures := t.pictures, memory := { s.memory with hbm := t.memory.hbm } })
      ∧ (y.state ≠ .idle → ∃ t, exec (.surfaceWrite r) s = .next t ∧ t.answered r stSurfaceInUse x.jsn ∧ t = s.protocol t))
    ∧ (∀ (r : Request) (y : Surface) (s : State), surfaceReady.executes r s → s.surface (u32 r.payload 0) = some y →
      ∃ t, exec (.surfaceReady r) s = .next t ∧ t.answered r stOk (surfaceReady.work r s).jsn
        ∧ t.surface (u32 r.payload 0) = some { y with ready := true }
        ∧ (∀ k, k ≠ u32 r.payload 0 → t.surface k = s.surface k) ∧ t = { s.protocol t with pictures := t.pictures }))

/-- CANVAS_CONFIGURE (R215) and LAYER_COMMIT (R225, R226): what nothing refuses waits for the first active line of the canvas's
group; a canvas that is enabled keeps its group; a commit that a record fails names the record by its index. -/
def Obligations.CanvasesAndLayersWaitForTheFirstActiveLine : Prop :=
  (∀ (r : Request) (s : State), canvasConfigure.executes r s →
    let p := r.payload
    let n := u16 p 0
    let b := canvasConfigure.taken r s
    let x := s.canvas n
    let g := u8 p 3
    let e := (canvasConfigure.placed r s .firstActive g).effect
    let jsn := (canvasConfigure.work r s).jsn
    b.canvasRefusal n = none →
    (g = x.tg ∧ b.fitsNow [] ∧ (s.tg g).enabled ∧ canvasConfigure.mayWait r s .firstActive g
        ∧ b.fits ((b.canvasItems n (u8 p 2 == 1) (b.groupFormat g) (b.recordsAt n e)).map fun y => ⟨2, y.1, y.2⟩) e →
      ∃ t, exec (.canvasConfigure r) s = .next t ∧ t.waitsFor canvasConfigure r s .firstActive g ∧ t.pictures = s.pictures
        ∧ t = { s.protocol t with signals := { s.signals with syncs := t.signals.syncs }
                                  cascade := { s.cascade with subs := t.cascade.subs } })
    ∧ (g ≠ x.tg ∧ x.enabled → ∃ t, exec (.canvasConfigure r) s = .next t ∧ t.answered r stUnitBusy jsn ∧ t = s.protocol t)
    ∧ (g = x.tg ∧ b.fitsNow [] ∧ (s.tg g).enabled = false →
      ∃ t, exec (.canvasConfigure r) s = .next t ∧ t.answered r stOk jsn ∧ t.canvas n = { x with cfg := p }
        ∧ (∀ c, c ≠ n → t.canvas c = s.canvas c)))
  ∧ (∀ (r : Request) (s : State), layerCommit.executes r s →
    let p := r.payload
    let n := u16 p 0
    let b := layerCommit.taken r s
    let x := s.canvas n
    let e := (layerCommit.placed r s .firstActive x.tg).effect
    let rs := commitRecords p
    let ls := rs.foldl putRecord (b.recordsAt n e)
    let jsn := (layerCommit.work r s).jsn
    b.canvasRefusal n = none →
    (b.commitRefusal n ls rs = none ∧ b.flatBytes n ls ≤ x.budget * 65536 ∧ (s.tg x.tg).enabled
        ∧ layerCommit.mayWait r s .firstActive x.tg ∧ b.fits (b.commitCharges n e rs) e →
      ∃ t, exec (.layerCommit r) s = .next t ∧ t.waitsFor layerCommit r s .firstActive x.tg ∧ t = s.protocol t)
    ∧ (∀ i st, b.commitRefusal n ls rs = some (i, st) →
      ∃ t, exec (.layerCommit r) s = .next t ∧ t.answeredWith r st jsn (le 2 i) ∧ t = s.protocol t)
    ∧ (b.commitRefusal n ls rs = none ∧ x.budget * 65536 < b.flatBytes n ls →
      ∃ t, exec (.layerCommit r) s = .next t ∧ t.answered r stNoCapacity jsn ∧ t = s.protocol t))

/-- CLONE_GROUP_SET (R238) takes its members and their offset at acceptance and their enables at the first active line;
FLATTEN_BUDGET_SET (R233) is taken at once and refused below what the image in use needs; a record that has waited 64 frames
is discarded and counted (R230); a build of the flattened image that ends is counted (R234). Mirror (R242): 60 frames in a
row without a mismatch clear the state, and a link without TRS is counted on an output that sends. -/
def Obligations.ClonesBudgetsAndMirrors : Prop :=
  (
    (∀ (r : Request) (s : State), cloneGroupSet.executes r s →
      let p := r.payload
      let n := u16 p 0
      let b := cloneGroupSet.taken r s
      let x := s.canvas n
      let ms := cloneMembers p
      let members := ms.map fun m => (m.1, m.2, x.members.any fun o => o.1 == m.1 && o.2.2)
      b.canvasRefusal n = none →
      (∀ d, d ∈ ms.map (·.1) → (x.members.any fun m => m.1 == d) = false → b.memberRefusal n d = none) →
      ((s.tg x.tg).enabled ∧ cloneGroupSet.mayWait r s .firstActive x.tg →
        ∃ t, exec (.cloneGroupSet r) s = .next t ∧ t.waitsFor cloneGroupSet r s .firstActive x.tg
          ∧ t.canvas n = { x with members, cloneFine := u32 p 4 } ∧ (∀ c, c ≠ n → t.canvas c = s.canvas c)
          ∧ t = { s.protocol t with pictures := { s.pictures with canvases := t.pictures.canvases } })
      ∧ ((s.tg x.tg).enabled = false →
        ∃ t, exec (.cloneGroupSet r) s = .next t ∧ t.answered r stOk (cloneGroupSet.work r s).jsn
          ∧ (t.canvas n).members.map (fun m => (m.1, m.2.1)) = ms ∧ (∀ m, m ∈ (t.canvas n).members → m.2.1 = m.2.2)
          ∧ (t.canvas n).cloneFine = u32 p 4 ∧ (∀ c, c ≠ n → t.canvas c = s.canvas c)
          ∧ t = { s.protocol t with pictures := { s.pictures with canvases := t.pictures.canvases } }))
    ∧ (∀ (r : Request) (s : State), flattenBudgetSet.executes r s →
      let n := u16 r.payload 0
      let k := u16 r.payload 2
      let b := flattenBudgetSet.taken r s
      let x := s.canvas n
      b.canvasDown n = false →
      (b.fitsNow [⟨113, n, k⟩] ∧ b.flatBytes n x.records ≤ k * 65536 →
        ∃ t, exec (.flattenBudgetSet r) s = .next t ∧ t.answered r stOk (flattenBudgetSet.work r s).jsn
          ∧ t.canvas n = { x with budget := k } ∧ (∀ c, c ≠ n → t.canvas c = s.canvas c)
          ∧ t = { s.protocol t with pictures := { s.pictures with canvases := t.pictures.canvases }, memory := t.memory })
      ∧ (k * 65536 < b.flatBytes n x.records →
        ∃ t, exec (.flattenBudgetSet r) s = .next t ∧ t.answered r stNoCapacity (flattenBudgetSet.work r s).jsn
          ∧ t = s.protocol t))
    ∧ (∀ (c l : Nat) (w : Waiting) (s : State), ((s.canvas c).layer l).waiting = some w →
      (64 ≤ w.held → ∃ t, exec (.canvasCommitExpired c l) s = .next t ∧ ((t.canvas c).layer l).waiting = none
        ∧ ((t.canvas c).layer l).expired = ((s.canvas c).layer l).expired + 1
        ∧ ((t.canvas c).layer l).cfg = ((s.canvas c).layer l).cfg
        ∧ t = { s.protocol t with pictures := { s.pictures with canvases := t.pictures.canvases } })
      ∧ (w.held < 64 → exec (.canvasCommitExpired c l) s = .next s))
    ∧ (∀ (c : Nat) (s : State), (s.canvas c).flat = .building →
      exec (.flattenBuildComplete c) s
        = .next (s.setCanvas c { s.canvas c with flat := .built, builds := (s.canvas c).builds + 1 })))
  ∧ (
    (∀ (n : Nat) (s : State), (s.mirror n).bad → 60 ≤ (s.mirror n).clean →
      ∃ t, exec (.mirrorClear n) s = .next t ∧ t.mirror n = { s.mirror n with bad := false, clean := 0 }
        ∧ (∀ m, m ≠ n → t.mirror m = s.mirror m)
        ∧ t = { s with pictures := { s.pictures with mirrors := t.pictures.mirrors }, events := t.events })
    ∧ (∀ (n : Nat) (s : State), (s.mirror n).clean < 60 → exec (.mirrorClear n) s = .next s)
    ∧ (∀ (n link : Nat) (s : State), n < 144 → link < 4 → s.outputSends n → link < (s.mirror n).noSignal.length →
      ∃ t, exec (.mirrorNoSignal n link) s = .next t
        ∧ (t.mirror n).noSignal = (s.mirror n).noSignal.set link ((s.mirror n).noSignal.getD link 0 + 1)
        ∧ (t.mirror n).lines = (s.mirror n).lines ∧ (∀ m, m ≠ n → t.mirror m = s.mirror m)
        ∧ t = { s with pictures := { s.pictures with mirrors := t.pictures.mirrors }, events := t.events }))

/-! ## Panel ports -/

/-- PANEL_CONFIGURE (R245, R247), PANEL_SEQUENCE_SET (R246) and PANEL_CONTENT_SET (R248): an enabled port is ACTIVE with its
enable sequence before it and no tile dirty yet, a disabled one DISABLED; an enabled port keeps its fixed fields; a sequence
is stored at acceptance; a content waits for the first active line, and is refused while a surface of it is in AFTERGLOW.
Pushes (R250 to R253): a TE edge of a port whose TE is good, and the internal tick of one without TE, start a push of the
dirty regions of a filled port; a push that completes clears the marks of its tiles and counts them; TE that is lost is
counted, and pushes go on with the internal tick; a port whose fills found nothing dirty for the static frames is STRETCHED;
a wait of a sequence that ends sends the next command. -/
def Obligations.PanelsAreConfiguredAndPush : Prop :=
  (
    (∀ (r : Request) (s : State), panelConfigure.executes r s →
      let p := r.payload
      let n := u8 p 0
      let x := s.panel n
      let b := panelConfigure.taken r s
      let jsn := (panelConfigure.work r s).jsn
      let fits := b.fitsNow ((b.setPanel n { x with cfg := p }).unitCharges [0x5000 + n] (0xE000 + n))
      (x.enabled = false ∧ u8 p 1 = 1 ∧ fits →
        ∃ t, exec (.panelConfigure r) s = .next t ∧ t.answered r stOk jsn ∧ (t.panel n).cfg = p ∧ (t.panel n).state = .active
          ∧ (t.panel n).dirty = [] ∧ (t.panel n).pushing = [] ∧ (∀ m, m ≠ n → t.panel m = s.panel m)
          ∧ t = { s.protocol t with panels := t.panels, memory := t.memory
                                    signals := { s.signals with syncs := t.signals.syncs }
                                    cascade := { s.cascade with subs := t.cascade.subs } })
      ∧ (x.enabled ∧ u8 p 1 = 0 ∧ fits →
        ∃ t, exec (.panelConfigure r) s = .next t ∧ t.answered r stOk jsn ∧ (t.panel n).cfg = p ∧ (t.panel n).state = .disabled
          ∧ (t.panel n).pushing = [] ∧ (∀ m, m ≠ n → t.panel m = s.panel m))
      ∧ (x.enabled ∧ u8 p 1 = 1 ∧ panelFixed x.cfg p = false →
        ∃ t, exec (.panelConfigure r) s = .next t ∧ t.answered r stUnitBusy jsn ∧ t = s.protocol t))
    ∧ (∀ (r : Request) (s : State), panelSequenceSet.executes r s →
      let p := r.payload
      let n := u8 p 0
      ∃ t, exec (.panelSequenceSet r) s = .next t ∧ t.answered r stOk (panelSequenceSet.work r s).jsn
        ∧ t.panel n = { s.panel n with seqs := (s.panel n).seqs.set (u8 p 1) (slice p 8 (u16 p 2)) }
        ∧ (∀ m, m ≠ n → t.panel m = s.panel m) ∧ t = { s.protocol t with panels := t.panels })
    ∧ (∀ (r : Request) (s : State), panelContentSet.executes r s →
      let p := r.payload
      let n := u8 p 0
      let g := (s.panel n).tg
      let xs := if u8 p 1 = 1 then (contentHandles p).filterMap s.surface else []
      ((∀ y, y ∈ xs → y.format ≤ 1 ∧ y.state ≠ .afterglow) →
        ((s.tg g).enabled ∧ panelContentSet.mayWait r s .firstActive g →
          ∃ t, exec (.panelContentSet r) s = .next t ∧ t.waitsFor panelContentSet r s .firstActive g ∧ t = s.protocol t)
        ∧ ((s.tg g).enabled = false →
          ∃ t, exec (.panelContentSet r) s = .next t ∧ t.answered r stOk (panelContentSet.work r s).jsn
            ∧ (t.panel n).content = p ∧ (∀ m, m ≠ n → t.panel m = s.panel m)
            ∧ t = { s.protocol t with panels := t.panels, pictures := t.pictures }))
      ∧ ((∀ y, y ∈ xs → y.format ≤ 1) ∧ (∃ y, y ∈ xs ∧ y.state = .afterglow) →
        ∃ t, exec (.panelContentSet r) s = .next t ∧ t.answered r stSurfaceInUse (panelContentSet.work r s).jsn
          ∧ t = s.protocol t)))
  ∧ (
    (∀ (n : Nat) (s : State),
      let p := s.panel n
      let ready := p.state ≠ .disabled ∧ p.script = [] ∧ p.filled ∧ p.pushing = [] ∧ p.dirty ≠ [] ∧ p.oweActive = false
      s.halted = false →
      (ready ∧ n ≤ 1 ∧ p.teNone = false ∧ p.teLost = false →
        ∃ t, exec (.panelTeEdge n) s = .next t ∧ (t.panel n).pushing = p.regions ∧ (t.panel n).pushTiles = p.dirty
          ∧ (t.panel n).pushes = p.pushes + 1 ∧ (t.panel n).filled = false ∧ (∀ m, m ≠ n → t.panel m = s.panel m)
          ∧ t = { s with panels := t.panels })
      ∧ (ready ∧ (p.teNone ∨ p.teLost) →
        ∃ t, exec (.panelInternalTick n) s = .next t ∧ (t.panel n).pushing = p.regions ∧ (t.panel n).pushTiles = p.dirty
          ∧ (t.panel n).pushes = p.pushes + 1 ∧ (∀ m, m ≠ n → t.panel m = s.panel m) ∧ t = { s with panels := t.panels })
      ∧ (p.teNone = false ∧ p.teLost = false → exec (.panelInternalTick n) s = .next s))
    ∧ (∀ (n : Nat) (s : State),
      let p := s.panel n
      (p.pushing ≠ [] →
        ∃ t, exec (.panelPushComplete n) s = .next t
          ∧ t.panel n = { p with dirty := p.dirty.filter fun k => !p.pushTiles.contains k, tiles := p.tiles + p.pushTiles.length
                                 pushing := [], pushTiles := [] }
          ∧ (∀ m, m ≠ n → t.panel m = s.panel m) ∧ t = { s with panels := t.panels, memory := t.memory })
      ∧ (p.state ≠ .disabled ∧ p.teNone = false ∧ p.teLost = false ∧ n ≤ 1 →
        ∃ t, exec (.panelTeLost n) s = .next t
          ∧ t.panel n = { p with teLost := true, teGood := 0, teLosses := p.teLosses + 1 }
          ∧ (∀ m, m ≠ n → t.panel m = s.panel m) ∧ t = { s with panels := t.panels, events := t.events })
      ∧ (p.state = .active ∧ p.script = [] ∧ p.staticFrames ≤ p.still →
        ∃ t, exec (.panelStretchEntry n) s = .next t ∧ (t.panel n).state = .stretched ∧ (t.panel n).cfg = p.cfg
          ∧ (∀ m, m ≠ n → t.panel m = s.panel m) ∧ t = { s with panels := t.panels, memory := t.memory })
      ∧ (∀ w b q, p.script = (w, b) :: q → p.closing = false →
        ∃ t, exec (.panelSequenceDelayExpiry n) s = .next t ∧ (t.panel n).script.length ≤ q.length
          ∧ (b == [0x29] ∧ (t.panel n).script = [] → (t.panel n).dirty = (t.panel n).allTiles ∧ (t.panel n).filled)
          ∧ (∀ m, m ≠ n → t.panel m = s.panel m) ∧ t = { s with panels := t.panels })
      ∧ (∀ w b q, p.script = (w, b) :: q → p.closing →
        exec (.panelSequenceDelayExpiry n) s = .next (s.setPanel n { p with script := [], closing := false, resetHigh := false }))))

/-! ## Encode channels -/

/-- ENCODE_CHANNEL_OPEN, ENCODE_CHANNEL_SET and ENCODE_CHANNEL_CLOSE (R261 to R266) wait for the first active line of their
frame; OPEN takes cores by their load, answers the channel's delays and sizes, and the channel stands open; with no core
that qualifies it is NO_CAPACITY. When their frame comes (R264 to R266): a SET changes the fields of its mask and no other,
a new bit rate and bit 4 owe a refresh; a CLOSE returns the input's route to 0xF000, deletes its watch rule and closes the
channel, which no later SET changes. PACKETISER_SET (R280) waits for the next access unit; ENCODE_HOST_RING_SET (R282) takes
the ring's addresses and size with both indexes at 0. A record is omitted while it does not fit the ring, and counted
(R283). -/
def Obligations.EncodeChannelsAreCommanded : Prop :=
  (
    (∀ (r : Request) (s : State), encodeChannelOpen.executes r s →
      let p := r.payload
      let n := u16 p 0
      let g := u8 p 2
      let b := encodeChannelOpen.taken r s
      let e := (encodeChannelOpen.placed r s .firstActive g).effect
      let cost := codingCharge (formatCost (u8 p 9) (u8 p 10))
      (∀ cores, b.placeCores n cost (b.effectDt e) = some cores → encodeChannelOpen.mayWait r s .firstActive g →
        b.fits (⟨105, n, 1⟩ :: coreCharges n cost cores []) e →
        ∃ t, exec (.encodeChannelOpen r) s = .next t ∧ t.waitsFor encodeChannelOpen r s .firstActive g
          ∧ (t.mailbox (mbKey r.view r.mailbox)).payload = encodeResponse s p cores
          ∧ t.enc n = some (newEnc p cores) ∧ (∀ j, j ≠ n → t.enc j = s.enc j)
          ∧ t = { s.protocol t with coding := { s.coding with encs := t.coding.encs }, freeCount := s.freeCount + 1 })
      ∧ (b.placeCores n cost (b.effectDt e) = none →
        ∃ t, exec (.encodeChannelOpen r) s = .next t ∧ t.answered r stNoCapacity (encodeChannelOpen.work r s).jsn
          ∧ t = s.protocol t))
    ∧ (∀ (r : Request) (e : Enc) (s : State), encodeChannelSet.executes r s → s.enc (u16 r.payload 0) = some e →
      encodeChannelSet.mayWait r s .firstActive e.tg →
      ∃ t, exec (.encodeChannelSet r) s = .next t ∧ t.waitsFor encodeChannelSet r s .firstActive e.tg ∧ t = s.protocol t)
    ∧ (∀ (r : Request) (e : Enc) (s : State), encodeChannelClose.executes r s → s.enc (u16 r.payload 0) = some e →
      encodeChannelClose.mayWait r s .firstActive e.tg →
      (encodeChannelClose.taken r s).fits (⟨105, u16 r.payload 0, 0⟩ :: coreCharges (u16 r.payload 0) 0 [] e.cores)
        (encodeChannelClose.placed r s .firstActive e.tg).effect →
      ∃ t, exec (.encodeChannelClose r) s = .next t ∧ t.waitsFor encodeChannelClose r s .firstActive e.tg ∧ t = s.protocol t)
    ∧ (∀ (n : Nat) (e : Enc) (s : State), s.enc n = some e →
      (e.closed ∧ e.pics = [] →
        exec (.lastDuLeft n) s = .next { s with coding := { s.coding with encs := tabDrop s.coding.encs n } })
      ∧ (e.closed = false ∨ e.pics ≠ [] → exec (.lastDuLeft n) s = .next s)))
  ∧ (
    (∀ (e : Enc) (p : Bytes),
      let m := u8 p 2
      let x := e.set p
      x.rate = (if bit m 0 then u32 p 4 else e.rate)
        ∧ x.effort = (if bit m 1 then u8 p 3 else e.effort)
        ∧ x.period = (if bit m 2 then (if u16 p 8 = 0 then periodDefault e.rateCode else u16 p 8) else e.period)
        ∧ x.minQp = (if bit m 3 then u8 p 10 else e.minQp)
        ∧ x.force = (e.force || bit m 4 || (bit m 0 && u32 p 4 != e.rate))
        ∧ x = { e with rate := x.rate, effort := x.effort, period := x.period, minQp := x.minQp, force := x.force
                       rateChanged := x.rateChanged, fPrev := x.fPrev })
    ∧ (∀ (p : Bytes) (e : Enc) (s : State), s.enc (u16 p 0) = some e →
      let n := u16 p 0
      (e.closed = false → (applyEncodeSet p s).enc n = some (e.set p) ∧ ∀ j, j ≠ n → (applyEncodeSet p s).enc j = s.enc j)
      ∧ (e.closed → applyEncodeSet p s = s)
      ∧ (let t := applyEncodeClose p s
         t.enc n = some { e with closed := true } ∧ (∀ j, j ≠ n → t.enc j = s.enc j) ∧ t.dest (0x4000 + n) = {}
          ∧ t.rule (0x4000 + n) = none ∧ (∀ d, d ≠ 0x4000 + n → t.dest d = s.dest d ∧ t.rule d = s.rule d)
          ∧ applyEncodeSet p t = t)))
  ∧ (
    (∀ (r : Request) (e : Enc) (s : State), packetiserSet.executes r s → s.enc (u16 r.payload 0) = some e →
      ∃ t, exec (.packetiserSet r) s = .next t ∧ t.answered r stOk (packetiserSet.work r s).jsn
        ∧ t.enc (u16 r.payload 0) = some { e with packNext := some r.payload }
        ∧ (∀ j, j ≠ u16 r.payload 0 → t.enc j = s.enc j) ∧ t = { s.protocol t with coding := { s.coding with encs := t.coding.encs } })
    ∧ (∀ (r : Request) (e : Enc) (s : State), encodeHostRingSet.executes r s → s.enc (u16 r.payload 0) = some e →
      let p := r.payload
      ∃ t, exec (.encodeHostRingSet r) s = .next t ∧ t.answered r stOk (encodeHostRingSet.work r s).jsn
        ∧ t.enc (u16 p 0) = some { e with
            ring := { base := u64 p 8, size := u32 p 16, prodAddr := u64 p 24, consAddr := u64 p 32 }, omitting := false }
        ∧ (∀ j, j ≠ u16 p 0 → t.enc j = s.enc j) ∧ t = { s.protocol t with coding := { s.coding with encs := t.coding.encs } })
    ∧ (∀ (e : Enc) (n : Nat) (p : EncPic) (r payload consumer : Nat),
      let size := roundUp (32 + payload) 64
      let room := e.ring.size - (e.ring.prod - e.ring.cons)
      let x := e.toRing n p r payload consumer
      (e.ring.base = 0 → x = e)
      ∧ (e.ring.base ≠ 0 ∧ e.omitting = false ∧ e.ring.prod - e.ring.cons ≤ e.ring.size ∧ size ≤ room →
          x.ring = { e.ring with prod := e.ring.prod + size } ∧ x.omitting = false ∧ x.nOverrun = e.nOverrun
            ∧ ∃ h, x.written.head? = some h ∧ u32 h 0 = size % 2 ^ 32 ∧ u32 h 4 = payload % 2 ^ 32 ∧ u16 h 8 = n % 65536
              ∧ u16 h 12 = r % 65536)
      ∧ (e.ring.base ≠ 0 ∧ room < size ∧ e.ring.size < size + (e.ring.prod - consumer) →
          x.omitting = true ∧ x.nOverrun = e.nOverrun + 1 ∧ x.ring.prod = e.ring.prod ∧ x.written = e.written)))

/-- A decoding unit on its way (R267, R297, R298): READY marks it; its analysis with input takes its complexity, of DU 0 without
input makes a REPEAT picture whose refresh moves on, of a later DU without input marks it late, each with RC_INPUT_MISSING.
Closing a DU (R267, R280, R284, R302): its bytes and itself are counted; the last DU of a picture ends the picture, with its
record first in the log; each enabled transmit flow of the channel takes the unit's packets and the picture's time stamp. -/
def Obligations.DecodingUnitsPassThroughTheEncoder : Prop :=
  (
    ∀ (n number r c : Nat) (e : Enc) (p : EncPic) (d : Du) (s : State), s.enc n = some e →
      e.pics.find? (fun q => q.number == number) = some p → p.dus[r]? = some d →
      (∃ t, exec (.encodeDuReady n number r) s = .next t
        ∧ (∃ e', t.enc n = some e' ∧ ∃ p', e'.pics.find? (fun q => q.number == number) = some p'
          ∧ p'.dus[r]? = some { d with ready := true } ∧ (∀ k, k ≠ r → p'.dus[k]? = p.dus[k]?) ∧ e' = { e with pics := e'.pics })
        ∧ (∀ j, j ≠ n → t.enc j = s.enc j) ∧ t = { s with coding := { s.coding with encs := t.coding.encs } })
      ∧ (d.analysed = false ∧ d.ready →
        ∃ t, exec (.encodeDuAnalysisStart n number r c) s = .next t
          ∧ (∃ e', t.enc n = some e' ∧ ∃ p', e'.pics.find? (fun q => q.number == number) = some p'
            ∧ (∃ d', p'.dus[r]? = some d' ∧ d'.analysed ∧ d'.complexity = max 1 c ∧ d'.late = d.late ∧ d'.bits = d.bits)
            ∧ p'.type = p.type ∧ p'.flags = p.flags ∧ p'.target = p.target
            ∧ e' = { e with pics := e'.pics, lastComplex := e'.lastComplex })
          ∧ (∀ j, j ≠ n → t.enc j = s.enc j) ∧ t = { s with coding := { s.coding with encs := t.coding.encs } })
      ∧ (d.analysed = false ∧ d.ready = false ∧ r = 0 →
        ∃ t, exec (.encodeDuAnalysisStart n number r c) s = .next t
          ∧ (∃ e', t.enc n = some e' ∧ ∃ p', e'.pics.find? (fun q => q.number == number) = some p'
            ∧ p'.type = (if e.structure_ = 2 then 4 else 5) ∧ bit p'.flags 1 ∧ bit p'.flags 3 = false
            ∧ e'.force = (e.force || p.refresh) ∧ e'.since = e.since - 1)
          ∧ (∀ j, j ≠ n → t.enc j = s.enc j) ∧ t = { s with coding := { s.coding with encs := t.coding.encs }, events := t.events })
      ∧ (d.analysed = false ∧ d.ready = false ∧ r ≠ 0 →
        ∃ t, exec (.encodeDuAnalysisStart n number r c) s = .next t
          ∧ (∃ e', t.enc n = some e' ∧ ∃ p', e'.pics.find? (fun q => q.number == number) = some p'
            ∧ p'.dus[r]? = some { d with analysed := true, late := true } ∧ p'.type = p.type ∧ bit p'.flags 4
            ∧ e' = { e with pics := e'.pics })
          ∧ (∀ j, j ≠ n → t.enc j = s.enc j) ∧ t = { s with coding := { s.coding with encs := t.coding.encs }, events := t.events })
      ∧ (d.analysed → exec (.encodeDuAnalysisStart n number r c) s = .next s))
  ∧ (
    ∀ (n number r packets consumer b : Nat) (e : Enc) (p : EncPic) (d : Du) (s : State), s.enc n = some e →
      e.pics.find? (fun q => q.number == number) = some p → p.dus[r]? = some d → d.bits = some b → d.closed = false →
      let whole := (p.dus.modify r fun x => { x with closed := true }).all (·.closed)
      ∃ t, exec (.encodeDuClose n number r packets consumer) s = .next t
        ∧ (∃ e', t.enc n = some e' ∧ e'.nDus = e.nDus + 1 ∧ e'.nBytes = e.nBytes + ceilDiv (b + d.filler) 8
          ∧ e'.fPrev = e.fPrev ∧ e'.rate = e.rate
          ∧ (whole = false → (∃ p', e'.pics.find? (fun q => q.number == number) = some p'
                ∧ p'.dus[r]? = some { d with closed := true } ∧ ∀ k, k ≠ r → p'.dus[k]? = p.dus[k]?)
              ∧ e'.records = e.records ∧ e'.nCoded = e.nCoded)
          ∧ (whole → e'.pics.all (fun q => q.number != number) ∧ e'.nCoded = e.nCoded + 1
              ∧ e'.nRepeat = e.nRepeat + p.flags / 2 % 2 ∧ e'.nFloored = e.nFloored + p.flags % 2
              ∧ e'.pool = setMark e.pool p.buffer (if e.structure_ = 2 then 0 else 1)
              ∧ e'.records.head? = some (p.record e.tg)))
        ∧ (∀ j, j ≠ n → t.enc j = s.enc j)
        ∧ (∀ k, (let x := s.tx k
            t.tx k = if x.enabled && codedKind x.kind && x.coding == n then
              { x with txSeq := (x.txSeq + packets) % 65536, txTs := p.start * 9 / 100000 % 2 ^ 32 } else x))
        ∧ t = { s with coding := { s.coding with encs := t.coding.encs }, signals := { s.signals with tx := t.signals.tx } })

/-- The no-drop guarantee (R286, R287, R292 to R295), for one decision, whatever the costs of the CTUs: when the DUs that remain
of the picture pass the admission test with their own headers, and the DU before has left a margin of at least one DU
period, then this DU arrives whole by its removal time, so that the next DU of the picture has the margin again, and in CBR
delivery does not pause before the next earliest arrival. The units are those of the buffer model: times in the channel's
unit times the bit rate. That a period's bits fill a byte and that a picture's lines are at most two DUs more than its DUs
are premises. -/
def Obligations.EveryDecidedUnitArrivesInTime : Prop :=
  ∀ (n number r : Nat) (left right : List Nat) (qp : Nat) (e : Enc) (p : EncPic) (d : Du) (s : State), s.enc n = some e →
    e.pics.find? (fun q => q.number == number) = some p → p.dus[r]? = some d → d.bits = none →
    (∀ k, k < r → ∀ x, p.dus[k]? = some x → x.bits ≠ none) → p.dus.length = e.time.dus →
    let t := e.time
    let bps := e.rate * 1000
    let rem := fun k => removal t e.latency (e.startOf p) k
    modeSupported t e.latency → 8 * t.second ≤ bps * t.du → t.picture ≤ (t.dus + 2) * t.du →
    (∀ k, r ≤ k → k < t.dus → 2 * e.floorCost p k * t.second ≤ bps * t.du) →
    (∀ f, e.fPrev = some f → f + bps * t.du ≤ bps * rem r) →
    ∃ u, exec (.encodeDuDecision n number r left right qp) s = .next u
      ∧ (∃ e', u.enc n = some e' ∧ (∃ f, e'.fPrev = some f ∧ f ≤ bps * rem r ∧ f + bps * t.du ≤ bps * rem (r + 1)
            ∧ (e.capped = false → e.nextEarliest p r ≤ f))
        ∧ ∃ p', e'.pics.find? (fun q => q.number == number) = some p' ∧ (∃ d', p'.dus[r]? = some d' ∧ d'.bits.isSome ∧ d'.qp = max e.minQp (min qp (maxQp e.codec)))
          ∧ (∀ k, k ≠ r → p'.dus[k]? = p.dus[k]?) ∧ e' = { e with pics := e'.pics, pool := e'.pool, fPrev := e'.fPrev })
      ∧ (∀ j, j ≠ n → u.enc j = s.enc j) ∧ u = { s with coding := { s.coding with encs := u.coding.encs }, events := u.events }

/-! ## Decode channels -/

/-- DECODE_CHANNEL_OPEN, SET and CLOSE (R304 to R307, R317) wait for their source frame; an open channel is HOLDING with its
cores, its delay and its pool; with no core that qualifies OPEN is NO_CAPACITY. DECODE_HOST_RING_SET (R309) takes the ring,
and the device polls its producer index. When they take effect: CLOSE removes the channel, SET changes the fields of its
mask. -/
def Obligations.DecodeChannelsAreConfigured : Prop :=
  (∀ (r : Request) (s : State), decodeChannelOpen.executes r s →
    let p := r.payload
    let n := u16 p 0
    let g := u8 p 2
    let b := decodeChannelOpen.taken r s
    let e := (decodeChannelOpen.placed r s .frameStart g).effect
    let cost := s.decCharge p
    (∀ cores, b.placeCores (0x100 + n) cost (b.effectDt e) = some cores → decodeChannelOpen.mayWait r s .frameStart g →
      b.fits (⟨106, n, 1⟩ :: coreCharges (0x100 + n) cost cores []) e →
      ∃ t, exec (.decodeChannelOpen r) s = .next t ∧ t.waitsFor decodeChannelOpen r s .frameStart g
        ∧ t.dec n = some (newDec p cores) ∧ (newDec p cores).state = .holding ∧ (newDec p cores).delay = openDelay p
        ∧ (newDec p cores).pool.length = decPool p ∧ (∀ j, j ≠ n → t.dec j = s.dec j)
        ∧ t = { s.protocol t with coding := { s.coding with decs := t.coding.decs } })
    ∧ (b.placeCores (0x100 + n) cost (b.effectDt e) = none →
      ∃ t, exec (.decodeChannelOpen r) s = .next t ∧ t.answered r stNoCapacity (decodeChannelOpen.work r s).jsn
        ∧ t = s.protocol t))
  ∧ (∀ (r : Request) (d : Dec) (s : State), decodeChannelSet.executes r s → s.dec (u16 r.payload 0) = some d →
    decodeChannelSet.mayWait r s .frameStart d.tg →
    ∃ t, exec (.decodeChannelSet r) s = .next t ∧ t.waitsFor decodeChannelSet r s .frameStart d.tg ∧ t = s.protocol t)
  ∧ (∀ (r : Request) (d : Dec) (s : State), decodeChannelClose.executes r s → s.dec (u16 r.payload 0) = some d →
    decodeChannelClose.mayWait r s .frameStart d.tg →
    (decodeChannelClose.taken r s).fits (⟨106, u16 r.payload 0, 0⟩ :: coreCharges (0x100 + u16 r.payload 0) 0 [] d.cores)
      (decodeChannelClose.placed r s .frameStart d.tg).effect →
    ∃ t, exec (.decodeChannelClose r) s = .next t ∧ t.waitsFor decodeChannelClose r s .frameStart d.tg ∧ t = s.protocol t)
  ∧ (∀ (r : Request) (d : Dec) (s : State), decodeHostRingSet.executes r s → s.dec (u16 r.payload 0) = some d →
    let p := r.payload
    ∃ t, exec (.decodeHostRingSet r) s = .next t ∧ t.answered r stOk (decodeHostRingSet.work r s).jsn
      ∧ t.dec (u16 p 0) = some { d with
          ring := { base := u64 p 8, size := u32 p 16, prodAddr := u64 p 24, consAddr := u64 p 32 } }
      ∧ (∀ j, j ≠ u16 p 0 → t.dec j = s.dec j) ∧ t = { s.protocol t with coding := { s.coding with decs := t.coding.decs } })
  ∧ (∀ (n producer : Nat) (d : Dec) (s : State), s.dec n = some d →
    (d.host ∧ d.ring.base ≠ 0 → ∃ t, exec (.decodeHostRingPoll n producer) s = .next t
      ∧ t.dec n = some { d with ring := { d.ring with prod := producer } } ∧ (∀ j, j ≠ n → t.dec j = s.dec j)
      ∧ t = { s with coding := { s.coding with decs := t.coding.decs } })
    ∧ (d.host = false ∨ d.ring.base = 0 → exec (.decodeHostRingPoll n producer) s = .next s))
  ∧ (∀ (e : Sched) (d : Dec) (s : State),
    let n := u16 e.args 0
    let m := u8 e.args 2
    let t := applyDecode e s
    s.dec n = some d →
    (e.opcode = 0x0703 → t.dec n = some { d with begun := true } ∧ ∀ j, j ≠ n → t.dec j = s.dec j)
    ∧ (e.opcode = 0x0709 → t.dec n = none ∧ (∀ j, j ≠ n → t.dec j = s.dec j) ∧ t.input (0x4000 + n) = Input.reset (0x4000 + n))
    ∧ (e.opcode = 0x0708 → (∃ d', t.dec n = some d' ∧ d'.lossMode = (if bit m 1 then u8 e.args 8 else d.lossMode)
          ∧ d'.lossTimeout = (if bit m 2 then lossTimeoutOf (u16 e.args 10) else d.lossTimeout)
          ∧ d'.delay = (if bit m 0 then (if u32 e.args 4 = 0 then 50000 else u32 e.args 4) else d.delay)
          ∧ d' = { d with lossMode := d'.lossMode, lossTimeout := d'.lossTimeout, delay := d'.delay
                          delayChanged := d'.delayChanged, pics := d'.pics })
        ∧ (∀ j, j ≠ n → t.dec j = s.dec j) ∧ t = { s with coding := { s.coding with decs := t.coding.decs } }))

/-- Coded data (R308 to R314, R317, R319): a whole IRAP picture of a LOCKED stream that fits the de-jitter buffer and the
declaration, with a deadline to come, begins its decoding in a buffer of the pool, with its source frame; data that do not
fit are LATE_DATA; a picture beyond the declaration, or of another size, makes the channel HOLD; a stopped channel takes
none. Pictures end (R311, R315 to R317, R321): a decoded picture is counted, leaves the de-jitter buffer and, an IRAP
picture, ends HOLDING; a picture that is not complete at its deadline is missed, concealed and never sent; a source that the
loss timeout has passed is in LOSS with its reason. -/
def Obligations.CodedPicturesAreReceivedAndShown : Prop :=
  (
    (∀ (n : Nat) (x : CodedData) (d : Dec) (s : State), s.dec n = some d → d.state ≠ .stopped → d.host = false →
      (s.decFlow n).isSome → x.errors = [] → x.gap = false →
      let f := s.groupFormat d.tg
      let room := dejitterBytes d.cfg f.1 f.2
      let time := s.stampDt n d x.stamp
      let frame := s.frameFor d time d.delay
      (d.fill + x.bytes ≤ room → x.first → x.last → d.misfit x.stream = none → d.pics = [] → x.type = 0 → d.locked →
        (applyRefs d.pool []).any (fun b => b.mark == 0) → s.deadlinePassed d frame = false →
        (s.tg d.tg).dtOf frame 1 ≤ s.time.dt + d.delay * 1000 + 2000000000 → (∀ l, d.lastFrame = some l → l < frame) →
        ∃ t, exec (.decodeDataArrival n x) s = .next t
          ∧ (∃ d', t.dec n = some d' ∧ d'.fill = d.fill + x.bytes ∧ d'.nBytes = d.nBytes + x.bytes ∧ d'.state = d.state
            ∧ ∃ q, d'.pics.head? = some q ∧ d'.pics.length = 1 ∧ q.frame = frame ∧ q.stamp = time ∧ q.arrived ∧ q.buffer.isSome
              ∧ q.poc = x.poc ∧ q.done = false)
          ∧ (∀ j, j ≠ n → t.dec j = s.dec j) ∧ t = { s with coding := { s.coding with decs := t.coding.decs } })
      ∧ (room < d.fill + x.bytes →
        ∃ t, exec (.decodeDataArrival n x) s = .next t
          ∧ (∃ d', t.dec n = some d' ∧ d'.nLateBytes = d.nLateBytes + x.bytes ∧ d'.nBytes = d.nBytes + x.bytes
            ∧ d'.errors = d.errors.modify 1 (· + 1) ∧ d'.fill = d.fill ∧ d'.pics.length = d.pics.length ∧ d'.state = d.state)
          ∧ (∀ j, j ≠ n → t.dec j = s.dec j)
          ∧ t = { s with coding := { s.coding with decs := t.coding.decs }, events := t.events })
      ∧ (d.fill + x.bytes ≤ room → x.first → ∀ k, d.misfit x.stream = some k →
        ∃ t, exec (.decodeDataArrival n x) s = .next t
          ∧ (∃ d', t.dec n = some d' ∧ d'.state = .holding ∧ d'.pics = [] ∧ d'.irapOnly ∧ d'.errors = d.errors.modify (k - 1) (· + 1)
            ∧ d'.nHolding = d.nHolding + (if d.state = .holding then 0 else 1))
          ∧ (∀ j, j ≠ n → t.dec j = s.dec j)
          ∧ t = { s with coding := { s.coding with decs := t.coding.decs }, events := t.events }))
    ∧ (∀ (n : Nat) (x : CodedData) (d : Dec) (s : State), s.dec n = some d →
      d.state = .stopped ∨ (d.host = false ∧ s.decFlow n = none) ∨ (d.host ∧ d.ring.prod < d.ring.cons + roundUp (32 + x.bytes) 64) →
      exec (.decodeDataArrival n x) s = .next s)
    ∧ (∀ (n m : Nat) (p : IpPacket) (q : List IpPacket) (s : State),
      let f := s.rx n
      f.enabled → codedKind f.kind → f.legCount = 1 → f.held = p :: q → f.next = some m → m < p.seq →
      ∃ t, exec (.reorderWindowExpiry n) s = .next t ∧ (t.rx n).lost = f.lost + (p.seq - m)
        ∧ (∃ k, (t.rx n).next = some k ∧ p.seq < k)
        ∧ (∀ d, s.dec f.coding = some d → ∃ d', t.dec f.coding = some d' ∧ d'.errors = d.errors.modify 0 (· + 1))))
  ∧ (
    (∀ (n ctus : Nat) (p : DecPic) (d : Dec) (s : State), s.dec n = some d → d.pics.find? (fun q => !q.done) = some p →
      d.pics.filter (fun q => !q.done) = [p] → p.buffer.isSome →
      (∃ t, exec (.decodePictureDone n) s = .next t
        ∧ (∃ d', t.dec n = some d' ∧ d'.nDecoded = d.nDecoded + 1 ∧ d'.fill = d.fill - p.bytes ∧ d'.pics.all (·.done)
          ∧ d'.pics.length = d.pics.length ∧ d'.nMissed = d.nMissed
          ∧ (p.type = 0 ∧ d.state = .holding → d'.state = .decoding ∧ d'.held = 0)
          ∧ (p.type ≠ 0 ∧ d.recoverAt = none → d'.state = d.state))
        ∧ (∀ j, j ≠ n → t.dec j = s.dec j)
        ∧ t = { s with coding := { s.coding with decs := t.coding.decs }, events := t.events })
      ∧ (p.arrived ∧ s.deadlinePassed d p.frame →
        ∃ t, exec (.decodeDeadline n ctus) s = .next t
          ∧ (∃ d', t.dec n = some d' ∧ d'.nMissed = d.nMissed + 1 ∧ d'.errors = d.errors.modify 6 (· + 1)
            ∧ d'.nConcealedCtus = d.nConcealedCtus + (p.concealed + ctus)
            ∧ d'.pics.all (·.done)
            ∧ d'.pics.all (fun q => q.unsent || d.pics.any fun o => o.done && o == q))
          ∧ (∀ j, j ≠ n → t.dec j = s.dec j)
          ∧ t = { s with coding := { s.coding with decs := t.coding.decs }, events := t.events })
      ∧ (p.arrived = false ∨ s.deadlinePassed d p.frame = false → exec (.decodeDeadline n ctus) s = .next s))
    ∧ (∀ (n r : Nat) (d : Dec) (s : State), s.dec n = some d → d.begun → s.inLoss (0x4000 + n) = false →
      d.lossReason = some r →
      ∃ t, exec (.decodeLossTimeout n) s = .next t ∧ (t.input (0x4000 + n)).loss = r ∧ (r = 8 ∨ r = 9 ∨ r = 10)
        ∧ (∀ o, o ≠ 0x4000 + n → t.input o = s.input o) ∧ t = { s with signals := t.signals, events := t.events }))

/-! ## Audio -/

/-- Commands of the audio router and ports: AUDIO_ROUTE_SET and AUDIO_GAIN_SET (R329) are armed whole for their lines, or not at
all, and name the first entry on a fenced unit; AUDIO_DESTINATION_SET (R333), AUDIO_SYSTEM_SET (R326) and AUDIO_MCLK_SET
(R358) act at acceptance; AUDIO_SOURCE_SET (R340), TDM_PORT_CONFIGURE (R354) and AUDIO_HOST_RING_SET (R365) wait for the
next block. An enabled port takes only a disable (UNIT_BUSY); what does not fit is NO_CAPACITY. -/
def Obligations.AudioCommandsSetRouterAndPorts : Prop :=
  (∀ (r : Request) (s : State), audioRouteSet.executes r s →
    let x := audioRouteSet.work r s
    let b := audioBytes x
    let v := audioRouteSet.taken r s
    (openStatus (v.armAudio x 0x0801 b audioCharges).status →
      (∀ p, p ∈ audioEntries b → v.destFenced (u16 p 0) = false ∧ v.sourceFenced (u16 p 4) = false) →
      ∃ t, exec (.audioRouteSet r) s = .next t
        ∧ t.answered r (if (audioEntries b).any fun p => (v.audioPlace x p).late then stAppliedLate else stScheduled) x.jsn
        ∧ (∀ p, p ∈ audioEntries b → t.ccp.schedule.any fun e => e.jsn == x.jsn && e.opcode == 0x0801
            && e.effect == (v.audioPlace x p).effect
            && (List.range (e.args.length / 16)).any fun i => slice e.args (1 + 16 * i) 16 == p)
        ∧ t = s.protocol t)
    ∧ (∀ i, (firstIndex (audioEntries b) fun _ p => v.destFenced (u16 p 0) || v.sourceFenced (u16 p 4)) = some i → x.dma = false →
      ∃ t, exec (.audioRouteSet r) s = .next t ∧ t.answeredWith r stUnitFenced x.jsn (le 2 i) ∧ t = s.protocol t))
  ∧ (∀ (r : Request) (s : State), audioGainSet.executes r s →
    let x := audioGainSet.work r s
    let b := audioBytes x
    let v := audioGainSet.taken r s
    openStatus (v.armAudio x 0x0802 b fun _ => []).status → (∀ p, p ∈ audioEntries b → v.destFenced (u16 p 0) = false) →
    ∃ t, exec (.audioGainSet r) s = .next t
      ∧ t.answered r (if (audioEntries b).any fun p => (v.audioPlace x p).late then stAppliedLate else stScheduled) x.jsn
      ∧ (∀ p, p ∈ audioEntries b → t.ccp.schedule.any fun e => e.jsn == x.jsn && e.opcode == 0x0802
          && e.effect == (v.audioPlace x p).effect
          && (List.range (e.args.length / 16)).any fun i => slice e.args (1 + 16 * i) 16 == p)
      ∧ t = s.protocol t)
  ∧ (∀ (r : Request) (s : State), audioDestinationSet.executes r s →
    let p := r.payload
    let d := u16 p 0
    let x := s.audioDest d
    ∃ t, exec (.audioDestinationSet r) s = .next t ∧ t.answered r stOk (audioDestinationSet.work r s).jsn
      ∧ (t.audioDest d).tg = (if u8 p 2 = 0xFF then x.tg else u8 p 2) ∧ (t.audioDest d).mode = u8 p 3
      ∧ (t.audioDest d).timeout = (if u8 p 4 = 0 then 10 else u8 p 4) ∧ (t.audioDest d).delay = u32 p 8
      ∧ (∀ e, e ≠ d → t.audioDest e = s.audioDest e)
      ∧ (x.delay = u32 p 8 → t.audio.changes = s.audio.changes ∧ t.audio.chans = s.audio.chans)
      ∧ t.audio.crosses = s.audio.crosses ∧ t.audio.sources = s.audio.sources ∧ t.audio.tdm = s.audio.tdm
      ∧ t.audio.rings = s.audio.rings ∧ t.audio.mclk = s.audio.mclk ∧ t = { s.protocol t with audio := t.audio })
  ∧ (∀ (r : Request) (s : State), audioSourceSet.executes r s →
    let p := r.payload
    let e := u16 p 0
    let x := s.audioSource e
    let held := s.trackedAll e (u64 p 8)
    (u8 p 2 ≠ 1 ∨ (audioSourceSet.taken r s).fitsNow [⟨112, e, held.length⟩] →
      ∃ t, exec (.audioSourceSet r) s = .next t ∧ t.answered r stOk (audioSourceSet.work r s).jsn
        ∧ t.audioSource e = (if u8 p 2 = 1 then { x with next := some p, asrcMode := 1, asrc := held, fallback := [] }
            else { x with next := some p })
        ∧ (∀ k, k ≠ e → t.audioSource k = s.audioSource k)
        ∧ t = { s.protocol t with audio := { s.audio with sources := t.audio.sources } })
    ∧ (u8 p 2 = 1 ∧ (audioSourceSet.taken r s).fitsNow [⟨112, e, held.length⟩] = false →
      ∃ t, exec (.audioSourceSet r) s = .next t ∧ t.answered r stNoCapacity (audioSourceSet.work r s).jsn ∧ t = s.protocol t))
  ∧ (∀ (x : AudioSource) (p : Bytes), x.next = some p →
    x.takeNext = { x with next := none, asrcMode := u8 p 2, align := u8 p 3, exact := u64 p 8
                          playout := if u16 p 4 = 0 then 3000 else u16 p 4 })
  ∧ (∀ (r : Request) (s : State), audioSystemSet.executes r s →
    let busy := s.audio.crosses ≠ [] ∨ (s.audio.tdm.any fun e => e.2.enabled && e.2.master)
      ∨ s.audio.mclk.any fun e => e.2.multiple != 0
    (¬busy → ∃ t, exec (.audioSystemSet r) s = .next t ∧ t.answered r stOk (audioSystemSet.work r s).jsn
      ∧ t = { s.protocol t with audio := { s.audio with rate := u8 r.payload 0 } })
    ∧ (busy → ∃ t, exec (.audioSystemSet r) s = .next t ∧ t.answered r stUnitBusy (audioSystemSet.work r s).jsn
      ∧ t = s.protocol t))
  ∧ (∀ (r : Request) (s : State), audioMclkSet.executes r s →
    let o := u8 r.payload 0
    let m := u8 r.payload 1
    let x : Mclk := tabGet s.audio.mclk o {}
    ∃ t, exec (.audioMclkSet r) s = .next t ∧ t.answered r stOk (audioMclkSet.work r s).jsn
      ∧ tabGet t.audio.mclk o {} = (if m = 0 then { multiple := 0, next := none } else if m = x.multiple then x
          else { multiple := 0, next := some m })
      ∧ (∀ k, k ≠ o → tabGet t.audio.mclk k {} = (tabGet s.audio.mclk k {} : Mclk))
      ∧ t = { s.protocol t with audio := { s.audio with mclk := t.audio.mclk } })
  ∧ (∀ (o m : Nat) (s : State), (tabGet s.audio.mclk o {} : Mclk).next = some m →
    ∃ t, exec (.mclkRestart o) s = .next t ∧ tabGet t.audio.mclk o {} = ({ multiple := m, next := none } : Mclk)
      ∧ tabGet t.clocks.amclk o 0 = 24576 / (128 * 2 ^ (m - 1) * (s.audio.rate + 1))
      ∧ (∀ k, k ≠ o → tabGet t.audio.mclk k {} = (tabGet s.audio.mclk k {} : Mclk))
      ∧ t = { s with audio := { s.audio with mclk := t.audio.mclk }, clocks := { s.clocks with amclk := t.clocks.amclk } })
  ∧ (∀ (r : Request) (s : State), tdmPortConfigure.executes r s →
    let p := r.payload
    let n := u8 p 0
    let cur := (s.tdm n).next.getD (s.tdm n).cfg
    let same := cur.take 1 ++ cur.drop 2 = p.take 1 ++ p.drop 2
    let fits := u8 p 1 = 0 ∨ (tdmPortConfigure.taken r s).fitsNow [⟨110, 0x7000 + n, u8 p 3⟩]
    let jsn := (tdmPortConfigure.work r s).jsn
    ((u8 cur 1 ≠ 1 ∨ same) ∧ fits → ∃ t, exec (.tdmPortConfigure r) s = .next t ∧ t.answered r stOk jsn
      ∧ t.tdm n = { s.tdm n with next := some p } ∧ (∀ k, k ≠ n → t.tdm k = s.tdm k)
      ∧ t = { s.protocol t with audio := { s.audio with tdm := t.audio.tdm } })
    ∧ (u8 cur 1 = 1 ∧ ¬same → ∃ t, exec (.tdmPortConfigure r) s = .next t ∧ t.answered r stUnitBusy jsn ∧ t = s.protocol t)
    ∧ ((u8 cur 1 ≠ 1 ∨ same) ∧ ¬fits → ∃ t, exec (.tdmPortConfigure r) s = .next t ∧ t.answered r stNoCapacity jsn
      ∧ t = s.protocol t))
  ∧ (∀ (r : Request) (s : State), audioHostRingSet.executes r s →
    let p := r.payload
    let k := u8 p 0 + 16 * u8 p 1
    let fits := u8 p 1 = 0 ∨ u64 p 8 = 0 ∨ (audioHostRingSet.taken r s).fitsNow [⟨110, 0x8000 + u8 p 0, u8 p 2⟩]
    (fits → ∃ t, exec (.audioHostRingSet r) s = .next t ∧ t.answered r stOk (audioHostRingSet.work r s).jsn
      ∧ t.audioRing k = { s.audioRing k with next := some p } ∧ (∀ j, j ≠ k → t.audioRing j = s.audioRing j)
      ∧ t = { s.protocol t with audio := { s.audio with rings := t.audio.rings } })
    ∧ (¬fits → ∃ t, exec (.audioHostRingSet r) s = .next t ∧ t.answered r stNoCapacity (audioHostRingSet.work r s).jsn
      ∧ t = s.protocol t))

/-- The 1 ms block (R330, R337, R340, R345): settings that wait take effect, a destination channel without delay sends the
saturated sum of its cross-points reduced to its bits, and the cross-points stay; in thermal retreat or with the emergency
tripped no block runs. Changes of a channel (R346, R347) are made at their zero crossing, or when their timeout has passed
with a fade, or a cut on a NON_AUDIO pair, counted. Synchronism and slips (R339, R342, R344): the third window in a row of
at most one sample of drift makes an asynchronous source SYNCHRONOUS, any other breaks the count; a deviation of 1.5 samples
is a slip of one sample, at once for PCM and in the next gap for a NON_AUDIO pair, or after 40 ms inside a burst, which is
counted; a pair that returns to PCM owes none. A slave TDM port (R360 to R364): 32 good frames measure its rate and let it
run at a rate within ±12.5 %, or mute it for its rate; a bad frame mutes it for two frames; its clock's loss mutes it; each
1,024 frames measure it again; a re-measurement takes the allowed rate code that is nearest, and the fade of an unmute ends.
A port that is a master, or disabled, hears nothing. -/
def Obligations.AudioFlowsAndSynchronises : Prop :=
  (
    (∀ (n : Nat) (ins : List AudioIn) (recs : List AudioRecord) (cs : List (Nat × Nat)) (s : State),
      (s.halted → exec (.audioBlock n ins recs cs) s = .next s)
      ∧ (s.halted = false →
        ∃ t, exec (.audioBlock n ins recs cs) s = .next t ∧ t.audio.stamp = some (s.time.dt / 1000000 * 1000000)
          ∧ t.audio.crosses = s.audio.crosses ∧ t.audio.changes = s.audio.changes ∧ t.audio.dests = s.audio.dests
          ∧ t.audio.rate = s.audio.rate ∧ t.audio.mclk = s.audio.mclk
          ∧ (∀ e p, (s.audioSource e).next = some p → (t.audioSource e).next = none ∧ (t.audioSource e).exact = u64 p 8
              ∧ (t.audioSource e).asrcMode = u8 p 2)
          ∧ t = { s with audio := t.audio, events := t.events }))
    ∧ (∀ (ins : List AudioIn) (n d ch : Nat) (s : State), (s.destChan d ch).delay = 0 →
      let l := s.crossesOf d ch
      let bits := s.destBits d
      let t := s.blockChannel ins n d ch
      (t.destChan d ch).out
        = (List.range n).map fun i => reduceBits bits (saturate 24 ((l.map fun x => crossSample x.2 (s.pathSample ins l bits x.2 i)).sum)))
    ∧ (∀ (d v : Nat) (x : Int), (x < 2 ^ 23 → -2 ^ 23 ≤ x → saturate 24 x = x) ∧ saturate 24 (2 ^ 23) = 2 ^ 23 - 1
      ∧ saturate 24 (-2 ^ 23 - 1) = -2 ^ 23 ∧ reduceBits 24 x = x ∧ crossSample ⟨d, v, 0, false⟩ x = x ∧ crossSample ⟨d, v, 7, true⟩ x = 0)
    ∧ (∀ (d ch k : Nat) (x : Cross) (c : AudioChange) (s : State), c.dest = d → c.chan = ch → c.set = [(k, some x)] →
      c.delay = none → s.audio.changes.filter (fun y => y.dest == d && y.chan == ch) = [c] →
      let done := fun t : State => (t.audio.crosses.find? fun e => e.1 == crossKey d ch k) = some (crossKey d ch k, x)
        ∧ (∀ j, j ≠ crossKey d ch k → (t.audio.crosses.find? fun e => e.1 == j) = s.audio.crosses.find? fun e => e.1 == j)
        ∧ t.audio.changes = s.audio.changes.filter fun y => !(y.dest == d && y.chan == ch)
      (∃ t, exec (.audioChangeDue d ch) s = .next t ∧ done t ∧ t.audio.chans = s.audio.chans
        ∧ t = { s.protocol t with audio := t.audio })
      ∧ (c.due + (s.audioDest d).timeout * 1000000 ≤ s.time.dt →
        ∃ t, exec (.zeroCrossTimeout d ch) s = .next t ∧ done t
          ∧ (t.destChan d ch).fades = (s.destChan d ch).fades + (if s.chanNonAudio d ch then 0 else 1)
          ∧ (t.destChan d ch).cuts = (s.destChan d ch).cuts + (if s.chanNonAudio d ch then 1 else 0)
          ∧ t = { s.protocol t with audio := t.audio })
      ∧ (s.time.dt < c.due + (s.audioDest d).timeout * 1000000 →
        ∃ t, exec (.zeroCrossTimeout d ch) s = .next t ∧ t.audio.crosses = s.audio.crosses ∧ t.audio.changes = s.audio.changes
          ∧ t.audio.chans = s.audio.chans ∧ t = { s.protocol t with audio := t.audio })))
  ∧ (
    (∀ (e : Nat) (drift ratio : Int) (s : State), s.houseLocked e = false → (s.audioSource e).sync = false →
      -125000 ≤ ratio → ratio ≤ 125000 → cls e ≠ 7 →
      let x := s.audioSource e
      (-1 ≤ drift ∧ drift ≤ 1 ∧ 2 ≤ x.windows →
        ∃ t, exec (.audioSyncWindow e drift ratio) s = .next t ∧ (t.audioSource e).sync ∧ (t.audioSource e).ratio = ratio
          ∧ (∀ k, k ≠ e → t.audioSource k = s.audioSource k)
          ∧ t = { s with audio := { s.audio with sources := t.audio.sources }, events := t.events })
      ∧ (-1 ≤ drift ∧ drift ≤ 1 ∧ x.windows < 2 →
        exec (.audioSyncWindow e drift ratio) s
          = .next (s.setAudioSource e { x with windows := x.windows + 1, ratio, outOfRange := false }))
      ∧ (drift < -1 ∨ 1 < drift →
        exec (.audioSyncWindow e drift ratio) s = .next (s.setAudioSource e { x with windows := 0, ratio, outOfRange := false })))
    ∧ (∀ (e : Nat) (s : State),
      let x := s.audioSource e
      let gap := fun c => x.nonAudio.contains ((c + 1) / 2) && bit x.exact (c - 1)
      (x.dev ≤ -1500 ∨ 1500 ≤ x.dev →
        ∃ t, exec (.exactSlipDue e) s = .next t ∧ (t.audioSource e).dev = (if 0 < x.dev then x.dev - 1000 else x.dev + 1000)
          ∧ (∀ c, (tabGet (t.audioSource e).chans c {}).slips = (tabGet x.chans c {}).slips
              + (if gap c then 0 else (s.slipChannels e).count c))
          ∧ (∀ c, c ∈ s.slipChannels e → gap c → ((c + 1) / 2, s.time.dt) ∈ (t.audioSource e).owed)
          ∧ (∀ k, k ≠ e → t.audioSource k = s.audioSource k)
          ∧ t = { s with audio := { s.audio with sources := t.audio.sources }, events := t.events })
      ∧ (-1500 < x.dev ∧ x.dev < 1500 → exec (.exactSlipDue e) s = .next s))
    ∧ (∀ (e pair : Nat) (s : State), 1 ≤ pair →
      let x := s.audioSource e
      let n := (x.owed.filter fun o => o.1 == pair).length
      (∃ t, exec (.nonAudioGapSlip e pair) s = .next t ∧ (t.audioSource e).owed = x.owed.filter (fun o => o.1 != pair)
        ∧ (∀ c, (c = 2 * pair - 1 ∨ c = 2 * pair) → (tabGet (t.audioSource e).chans c {}).slips = (tabGet x.chans c {}).slips + n
            ∧ (tabGet (t.audioSource e).chans c {}).burst = (tabGet x.chans c {}).burst)
        ∧ (t.audioSource e).nonAudio = x.nonAudio ∧ t = { s with audio := { s.audio with sources := t.audio.sources } })
      ∧ ((x.owed.any fun o => o.1 == pair && decide (o.2 + 40000000 ≤ s.time.dt)) →
        ∃ t, exec (.audioBurstSlip e pair) s = .next t ∧ (t.audioSource e).owed = x.owed.eraseP (fun o => o.1 == pair)
          ∧ (∀ c, (c = 2 * pair - 1 ∨ c = 2 * pair) → (tabGet (t.audioSource e).chans c {}).slips = (tabGet x.chans c {}).slips + 1
              ∧ (tabGet (t.audioSource e).chans c {}).burst = (tabGet x.chans c {}).burst + 1)
          ∧ t = { s with audio := { s.audio with sources := t.audio.sources }, events := t.events })
      ∧ (∃ t, exec (.nonAudioReturnPcm e pair) s = .next t ∧ (t.audioSource e).owed = x.owed.filter (fun o => o.1 != pair)
        ∧ (t.audioSource e).nonAudio = x.nonAudio.filter (· != pair)
        ∧ t = { s with audio := { s.audio with sources := t.audio.sources } })))
  ∧ (
    ∀ (n hz : Nat) (s : State), n < 16 →
      let p := s.tdm n
      let d := 0x7000 + n
      let near := 7 * portHz p.nominal ≤ 8 * hz ∧ 8 * hz ≤ 9 * portHz p.nominal
      let only := fun t : State => (∀ k, k ≠ n → t.tdm k = s.tdm k)
        ∧ t = { s.protocol t with audio := t.audio, clocks := t.clocks }
      (s.halted = false ∧ p.slave ∧ p.state = .mutedClock →
        (p.good + 1 < 32 → exec (.tdmFrameReceived n 0 hz) s
          = .next (s.setTdm n { p with good := p.good + 1, mutedFrames := p.mutedFrames + 1 }))
        ∧ (p.good = 31 ∧ near → ∃ t, exec (.tdmFrameReceived n 0 hz) s = .next t ∧ (t.tdm n).state = .running
            ∧ (t.tdm n).fading ∧ (t.tdm n).measured = hz ∧ only t)
        ∧ (p.good = 31 ∧ ¬near → ∃ t, exec (.tdmFrameReceived n 0 hz) s = .next t ∧ (t.tdm n).state = .mutedRate
            ∧ (t.tdm n).measuring ∧ only t))
      ∧ (s.halted = false ∧ p.slave ∧ p.state = .mutedFrame →
        (p.good = 0 → ∃ t, exec (.tdmFrameReceived n 0 hz) s = .next t ∧ (t.tdm n).state = .mutedFrame ∧ only t)
        ∧ (p.good = 1 → ∃ t, exec (.tdmFrameReceived n 0 hz) s = .next t
            ∧ (t.tdm n).state = (if p.measuring then .mutedRate else .running) ∧ only t))
      ∧ (s.halted = false ∧ p.slave ∧ p.state = .running →
        (∀ fault, fault = 1 ∨ fault = 2 → ∃ t, exec (.tdmFrameReceived n fault hz) s = .next t ∧ (t.tdm n).state = .mutedFrame
          ∧ (t.tdm n).frameErrors = p.frameErrors + 1 ∧ (t.tdm n).good = 0
          ∧ t.audio.changes = s.audio.changes.filter (fun c => c.dest != d) ∧ only t)
        ∧ exec (.tdmFrameReceived n 0 hz) s = .next s)
      ∧ (p.slave → ∃ t, exec (.clockLost n) s = .next t ∧ (t.tdm n).state = .mutedClock ∧ (t.tdm n).losses = p.losses + 1
          ∧ (t.tdm n).good = 0 ∧ (t.tdm n).measuring = false ∧ only t)
      ∧ (p.slave ∧ p.state = .running →
        (near → ∃ t, exec (.tdmRateWindow n hz) s = .next t ∧ t.tdm n = { p with measured := hz }
          ∧ (t.audioSource d).ratio = ratePpm hz (portHz p.nominal) ∧ only t)
        ∧ (¬near → ∃ t, exec (.tdmRateWindow n hz) s = .next t ∧ (t.tdm n).state = .mutedRate ∧ (t.tdm n).measured = hz ∧ only t))
      ∧ (p.slave ∧ p.state = .mutedRate →
        (∀ c, p.codeFor hz = some c → ∃ t, exec (.rateChanged n hz) s = .next t ∧ (t.tdm n).state = .running
          ∧ (t.tdm n).nominal = c ∧ c ∈ p.allowed ∧ rateNear hz (portHz c) ∧ (t.tdm n).rateChanges = p.rateChanges + 1 ∧ only t)
        ∧ (p.codeFor hz = none → ∃ t, exec (.rateChanged n hz) s = .next t ∧ (t.tdm n).state = .mutedRate
          ∧ (∀ c, c ∈ p.allowed → rateNear hz (portHz c) = false) ∧ only t))
      ∧ (p.fading → exec (.tdmFadeInComplete n) s = .next (s.setTdm n { p with fading := false }))
      ∧ (p.slave = false → exec (.clockLost n) s = .next s ∧ exec (.tdmRateWindow n hz) s = .next s
          ∧ exec (.rateChanged n hz) s = .next s ∧ exec (.tdmFrameReceived n 0 hz) s = .next s))

/-! ## Serial lanes -/

/-- QUAD_ALLOCATE (R370): the quad takes its protocol, mode, FEC and VCO frequency; on a change of protocol its lanes return to
the reset values of LANE_CONFIGURE, enabled in an ETHERNET, LIGHTPIPE or TEST quad; its QPLL retunes by Eclipse, or stops. A
quad that is fenced is UNIT_FENCED, one of whose lanes carries work UNIT_BUSY. LANE_CONFIGURE (R373) waits for its line;
LANE_REARM (R385) begins an attempt of the lane's unit with the count at 0, or waits for signal, and leaves a DISABLED lane
alone; LANE_TEST_SET (R392) sets generator, checker, injection and the quad's loopback. -/
def Obligations.QuadsAndLanesAreCommanded : Prop :=
  (
    ∀ (r : Request) (s : State), quadAllocate.executes r s →
      let p := r.payload
      let q := u8 p 0
      let b := quadAllocate.taken r s
      let jsn := (quadAllocate.work r s).jsn
      (b.fenced 2 q = false ∧ (∀ n, n / 4 = q → b.laneWork n = false) →
        ∃ t, exec (.quadAllocate r) s = .next t ∧ t.answered r stOk jsn
          ∧ t.quad q = { s.quad q with protocol := u8 p 1, mode := u8 p 2, fec := u8 p 3, vco := u32 p 4 }
          ∧ (∀ j, j ≠ q → t.quad j = s.quad j)
          ∧ ((s.quad q).protocol ≠ u8 p 1 → ∀ n, n / 4 = q →
              let l := t.lane n
              l.rxEn = decide (2 ≤ u8 p 1) ∧ l.txEn = decide (2 ≤ u8 p 1) ∧ l.rxIface = 0 ∧ l.txIface = 0 ∧ l.eqMode = 0
                ∧ l.flags = 0 ∧ l.pre = 0 ∧ l.post = 0 ∧ l.swing = 8)
          ∧ (u8 p 1 = 0 → (t.pll (2 + q)).state = 0 ∧ ∀ n, n / 4 = q → (t.lane n).state = .disabled)
          ∧ (u8 p 1 ≠ 0 ∧ (s.pll (2 + q)).state ≠ 5 → (t.pll (2 + q)).state = 4) ∧ (∀ j, j ≠ 2 + q → t.pll j = s.pll j)
          ∧ t = { s.protocol t with lanes := t.lanes, clocks := t.clocks, signals := t.signals })
      ∧ (b.fenced 2 q → ∃ t, exec (.quadAllocate r) s = .next t ∧ t.answered r stUnitFenced jsn ∧ t = s.protocol t)
      ∧ (b.fenced 2 q = false ∧ (∃ n, n / 4 = q ∧ b.laneWork n = true) →
        ∃ t, exec (.quadAllocate r) s = .next t ∧ t.answered r stUnitBusy jsn ∧ t = s.protocol t))
  ∧ (
    (∀ (r : Request) (s : State), laneConfigure.executes r s →
      let n := u16 r.payload 0
      let b := laneConfigure.taken r s
      (b.fenced 1 n = false ∧ sdFromFractional r.payload s = false ∧ laneConfigure.mayWait r s .anyLine r.group.toNat →
        ∃ t, exec (.laneConfigure r) s = .next t ∧ t.waitsFor laneConfigure r s .anyLine r.group.toNat ∧ t = s.protocol t)
      ∧ (b.fenced 1 n → ∃ t, exec (.laneConfigure r) s = .next t ∧ t.answered r stUnitFenced (laneConfigure.work r s).jsn
          ∧ t = s.protocol t))
    ∧ (∀ (r : Request) (s : State), laneRearm.executes r s → (laneRearm.taken r s).fenced 1 (u16 r.payload 0) = false →
      let n := u16 r.payload 0
      ∃ t, exec (.laneRearm r) s = .next t ∧ t.answered r stOk (laneRearm.work r s).jsn
        ∧ ((s.lane n).state = .disabled → t = s.protocol t)
        ∧ ((s.lane n).state ≠ .disabled → ∀ m, m ∈ s.unitOf n → (t.lane m).attempts = 0
            ∧ (t.lane m).state = if (s.unitOf n).all (fun k => (s.lane k).signal) then .training else .waitSignal)
        ∧ (∀ m, m ∉ s.unitOf n → t.lane m = s.lane m)
        ∧ t = { s.protocol t with lanes := t.lanes, signals := t.signals })
    ∧ (∀ (r : Request) (s : State), laneTestSet.executes r s →
      let p := r.payload
      let n := u16 p 0
      let b := laneTestSet.taken r s
      (b.fenced 1 n = false ∧ laneTestBusy p b = false →
        ∃ t, exec (.laneTestSet r) s = .next t ∧ t.answered r stOk (laneTestSet.work r s).jsn
          ∧ (let l := t.lane n
             l.gen = u8 p 2 ∧ l.chk = u8 p 3 ∧ l.testInv = u8 p 4 ∧ l.inject = u8 p 5 ∧ l.injExp = u8 p 6
              ∧ l.injLine = u16 p 8 ∧ l.injFrames = u16 p 10
              ∧ ((s.lane n).chk = 0 ∧ u8 p 3 ≠ 0 → l.chkBits = 0 ∧ l.chkErrors = 0 ∧ l.chkLosses = 0 ∧ l.chkLock = false))
          ∧ t.quad (n / 4) = { s.quad (n / 4) with loopback := u8 p 7 } ∧ (∀ m, m ≠ n → t.lane m = s.lane m)
          ∧ (∀ q, q ≠ n / 4 → t.quad q = s.quad q) ∧ t = { s.protocol t with lanes := t.lanes })
      ∧ (b.fenced 1 n = false ∧ laneTestBusy p b → flagAutoFence (laneTestSet.work r s).flags = false →
        ∃ t, exec (.laneTestSet r) s = .next t ∧ t.answered r stUnitBusy (laneTestSet.work r s).jsn ∧ t = s.protocol t)))

/-- Training (R384 to R386): a unit in WAIT_SIGNAL begins an attempt once each of its lanes has signal; losing signal aborts an
attempt uncounted and takes a unit out of UP; completing the last phase is UP; a timeout counts the attempt and enters
BACKOFF, or FAILED after the 8th; the end of a backoff and a loss of lock in UP begin a new attempt. Monitors of a lane
(R377, R379, R389): a high bit error rate is counted and faults the link without a restart; an eye report is taken while the
CDR is locked; a checker counts the bits and errors it received while locked, and its losses of lock. -/
def Obligations.LanesTrainAndAreMonitored : Prop :=
  (
    (∀ (n : Nat) (s : State), s.present 1 n →
      let u := s.unitOf n
      ((s.lane n).state = .waitSignal ∧ (∀ m, m ∈ u → m ≠ n → (s.lane m).signal) →
        ∃ t, exec (.laneSignalPresent n) s = .next t ∧ (∀ m, m ∈ u → (t.lane m).state = .training ∧ (t.lane m).phase = 1)
          ∧ (∀ m, m ∉ u → t.lane m = s.lane m) ∧ t = { s with lanes := t.lanes, signals := t.signals, events := t.events })
      ∧ ((s.lane n).state ≠ .waitSignal →
        exec (.laneSignalPresent n) s = .next (s.setLane n { s.lane n with signal := true }))
      ∧ ((s.lane n).state = .training →
        ∃ t, exec (.laneSignalLost n) s = .next t ∧ (t.lane n).signal = false
          ∧ (∀ m, m ∈ u → (t.lane m).state = .waitSignal ∧ (t.lane m).attempts = (s.lane m).attempts)
          ∧ (∀ m, m ∉ u → t.lane m = s.lane m) ∧ t = { s with lanes := t.lanes, events := t.events })
      ∧ ((s.lane n).state = .up →
        ∃ t, exec (.laneSignalLost n) s = .next t ∧ (∀ m, m ∈ u → (t.lane m).state = .waitSignal)
          ∧ (∀ m, m ∉ u → t.lane m = s.lane m) ∧ t = { s with lanes := t.lanes, signals := t.signals, events := t.events }))
    ∧ (∀ (n iface family : Nat) (offset : Int) (ctle : Nat) (dfe : List Int) (s : State), (s.lane n).state = .training →
      s.linkOf n = none → ∃ t, exec (.laneUp n iface family offset ctle dfe) s = .next t
        ∧ (∀ m, m ∈ s.unitOf n → (t.lane m).state = .up ∧ (t.lane m).attempts = 0 ∧ (t.lane m).detIface = iface
            ∧ (t.lane m).cdrOffset = offset)
        ∧ (∀ m, m ∉ s.unitOf n → t.lane m = s.lane m) ∧ t = { s with lanes := t.lanes, events := t.events })
    ∧ (∀ (n phase : Nat) (skews : List Nat) (s : State), (s.lane n).state = .training →
      let k := (s.lane n).attempts + 1
      (k ≠ 8 → ∃ t, exec (.trainingAttemptTimeout n phase skews) s = .next t
        ∧ (∀ m, m ∈ s.unitOf n → (t.lane m).state = .backoff ∧ (t.lane m).attempts = k ∧ (t.lane m).failPhase = phase)
        ∧ (∀ m, m ∉ s.unitOf n → t.lane m = s.lane m) ∧ t = { s with lanes := t.lanes, events := t.events })
      ∧ (k = 8 ∧ (s.policy 1).threshold = 0 → ∃ t, exec (.trainingAttemptTimeout n phase skews) s = .next t
        ∧ (∀ m, m ∈ s.unitOf n → (t.lane m).state = .failed ∧ (t.lane m).attempts = 8)
        ∧ t = { s with lanes := t.lanes, events := t.events, health := t.health }))
    ∧ (∀ (n : Nat) (s : State),
      let next := if (s.unitOf n).all (fun m => (s.lane m).signal) then Train.training else .waitSignal
      ((s.lane n).state = .backoff →
        ∃ t, exec (.backoffExpiry n) s = .next t ∧ (∀ m, m ∈ s.unitOf n → (t.lane m).state = next)
          ∧ (∀ m, m ∉ s.unitOf n → t.lane m = s.lane m) ∧ t = { s with lanes := t.lanes, signals := t.signals, events := t.events })
      ∧ ((s.lane n).state = .up →
        ∃ t, exec (.laneDown n) s = .next t ∧ (∀ m, m ∈ s.unitOf n → (t.lane m).state = next)
          ∧ (∀ m, m ∉ s.unitOf n → t.lane m = s.lane m) ∧ t = { s with lanes := t.lanes, signals := t.signals, events := t.events })))
  ∧ (
    (∀ (n : Nat) (s : State), s.present 1 n → s.is64b n →
      ∃ t, exec (.laneHiBer n) s = .next t ∧ t.lane n = { s.lane n with hiBer := (s.lane n).hiBer + 1, linkFault := true }
        ∧ (∀ m, m ≠ n → t.lane m = s.lane m) ∧ t = { s with lanes := t.lanes, events := t.events })
    ∧ (∀ (n h v : Nat) (s : State),
      ((s.lane n).cdrLock → exec (.eyeMonitorReport n h v) s
        = .next (s.setLane n { s.lane n with eyeH := h, eyeV := v, eyeReports := ((s.lane n).eyeReports + 1) % 2 ^ 32 }))
      ∧ ((s.lane n).cdrLock = false → exec (.eyeMonitorReport n h v) s = .next s))
    ∧ (∀ (n : Nat) (locked : Bool) (bits errors : Nat) (s : State),
      let l := s.lane n
      (l.chk ≠ 0 → ∃ t, exec (.prbsCheckerLock n locked bits errors) s = .next t ∧ (t.lane n).chkLock = locked
        ∧ (t.lane n).chkBits = (if l.chkLock then l.chkBits + bits else l.chkBits)
        ∧ (t.lane n).chkErrors = (if l.chkLock then l.chkErrors + errors else l.chkErrors)
        ∧ (t.lane n).chkLosses = l.chkLosses + b2n (l.chkLock && !locked)
        ∧ t = s.setLane n (t.lane n))
      ∧ (l.chk = 0 → exec (.prbsCheckerLock n locked bits errors) s = .next s)))

/-! ## The Lightpipe cascade -/

/-- CASCADE_CONFIGURE and CASCADE_EXPORT_SET (R396, R400, R402) act at acceptance: the module has the links that the payload
uses, with their quads, and the role of time master when it is enabled as one; a fenced quad is UNIT_FENCED, a change of a
link that carries something UNIT_BUSY, and so is another group for a routed slot (log entry 40). Subscriptions and media
(R397, R403 to R405): a subscription is admitted while the exports that cross the link stay at or below 95 % of its payload
rate, which 22 exports of 2160p60 do on 8 lanes and 23 do not; a subscription moves to a path that has room for it; a media
packet with a good CRC is counted and forwarded once on each link that a subscription leaves by, with three hops no more,
and one with a bad CRC is counted and goes no further. -/
def Obligations.CascadeIsConfiguredAndCarriesExports : Prop :=
  (
    (∀ (r : Request) (s : State), cascadeConfigure.executes r s →
      let p := r.payload
      let b := cascadeConfigure.taken r s
      let used := (List.range 4).filter fun k => u8 (linkEntry p k) 0 != 0xFF
      let quads := used.flatMap fun k => entryQuads (linkEntry p k)
      let jsn := (cascadeConfigure.work r s).jsn
      let stands := ∀ k, k < 4 → s.linkCarries k → linkChanges p s k = false
      ((∀ q, q ∈ quads → b.fenced 2 q = false) ∧ stands →
        ∃ t, exec (.cascadeConfigure r) s = .next t ∧ t.answered r stOk jsn ∧ t.cascade.cfg = p
          ∧ t.cascade.links.map (·.1) = used
          ∧ (∀ k, k ∈ used → (t.link k).map (·.quads) = (if linkChanges p s k ∨ s.link k = none then some (entryQuads (linkEntry p k))
              else (s.link k).map (·.quads)))
          ∧ (∀ k, k ∈ used → linkChanges p s k = false → ∀ l, s.link k = some l → t.link k = some l)
          ∧ t.cascade.master = (u8 p 0 == 1 && u8 p 3 == 1) ∧ t.cascade.subs = s.cascade.subs
          ∧ t.cascade.exports_ = s.cascade.exports_
          ∧ t = { s.protocol t with cascade := t.cascade, lanes := t.lanes, signals := t.signals })
      ∧ ((∃ q, q ∈ quads ∧ b.fenced 2 q) →
        ∃ t, exec (.cascadeConfigure r) s = .next t ∧ t.answered r stUnitFenced jsn ∧ t = s.protocol t)
      ∧ ((∀ q, q ∈ quads → b.fenced 2 q = false) ∧ ¬stands →
        ∃ t, exec (.cascadeConfigure r) s = .next t ∧ t.answered r stUnitBusy jsn ∧ t = s.protocol t))
    ∧ (∀ (r : Request) (s : State), cascadeExportSet.executes r s →
      let e := u16 r.payload 0
      let g := u8 r.payload 2
      let jsn := (cascadeExportSet.work r s).jsn
      ((s.dest (0x6000 + e)).source = 0xF000 ∨ s.exportGroup e = g →
        ∃ t, exec (.cascadeExportSet r) s = .next t ∧ t.answered r stOk jsn ∧ t.exportGroup e = g
          ∧ (∀ k, k ≠ e → t.exportGroup k = s.exportGroup k)
          ∧ t = { s.protocol t with cascade := { s.cascade with exports_ := t.cascade.exports_ } })
      ∧ ((s.dest (0x6000 + e)).source ≠ 0xF000 ∧ s.exportGroup e ≠ g →
        ∃ t, exec (.cascadeExportSet r) s = .next t ∧ t.answered r stUnitBusy jsn ∧ t = s.protocol t)))
  ∧ (
    (∀ (k origin slot taker : Nat) (l : Link) (s : State), s.link k = some l → s.linkUp k →
      let same := fun x : Subscription => x.origin == origin && x.slot == slot && x.taker == taker
      let g := s.tg (s.exportGroup slot)
      let charge := if origin = s.cascade.self then exportCharge (formatCost g.raster g.rate)
        else s.remoteCharge (0x6000 + origin * 256 + slot)
      let took := fun t : State => (∃ l', t.link k = some l' ∧ l'.packetsIn = (l.packetsIn + 1) % 2 ^ 64)
        ∧ t = { s with cascade := { s.cascade with links := t.cascade.links, subs := t.cascade.subs, remotes := t.cascade.remotes } }
      (s.cascade.subs.any same = false ∧ s.linkFits k origin slot charge →
        ∃ t, exec (.cascadeControlPacket k (.subscribe origin slot taker)) s = .next t
          ∧ t.cascade.subs = s.cascade.subs ++ [{ origin, slot, taker, link := some k, hops := 1, charge }] ∧ took t)
      ∧ (s.cascade.subs.any same ∨ s.linkFits k origin slot charge = false →
        ∃ t, exec (.cascadeControlPacket k (.subscribe origin slot taker)) s = .next t ∧ t.cascade.subs = s.cascade.subs ∧ took t)
      ∧ (∃ t, exec (.cascadeControlPacket k (.release origin slot taker)) s = .next t
          ∧ t.cascade.subs = s.cascade.subs.filter (fun x => !same x) ∧ took t)
      ∧ (∀ (raster rate : Nat) (phase : Int) (locked : Bool), origin ≠ s.cascade.self → origin ≤ 3 → slot ≤ 255 →
        ∃ t, exec (.cascadeControlPacket k (.describe origin slot raster rate phase locked)) s = .next t
          ∧ (t.cascade.remotes.find? fun e => e.1 == 0x6000 + origin * 256 + slot)
              = some (0x6000 + origin * 256 + slot, { raster, rate, phase, locked })
          ∧ t.cascade.subs = s.cascade.subs ∧ took t))
    ∧ (∀ (s : State) (k origin slot charge : Nat) (l : Link), s.link k = some l →
      (s.linkFits k origin slot charge ↔
        100 * ((tabPut (s.crossing k) (origin * 256 + slot) charge).map (·.2)).sum ≤ 95 * (if l.quads.length = 2 then 39712 else 79424)))
    ∧ 100 * (22 * exportCharge (formatCost 6 6)) ≤ 95 * 39712 ∧ 95 * 39712 < 100 * (23 * exportCharge (formatCost 6 6))
    ∧ (∀ (origin slot taker k hops : Nat) (x : Subscription) (s : State),
      let same := fun x : Subscription => x.origin == origin && x.slot == slot && x.taker == taker
      s.cascade.subs.find? same = some x →
      (s.linkUp k ∧ s.linkFits k origin slot x.charge ∧ x.link ≠ some k →
        ∃ t, exec (.cascadePathChanged origin slot taker (some k) hops) s = .next t
          ∧ t.cascade.subs = s.cascade.subs.map (fun y => if same y then { y with link := some k, hops } else y)
          ∧ t = { s with cascade := { s.cascade with subs := t.cascade.subs }, events := t.events })
      ∧ (∀ j, x.link = some j → s.linkUp j = false →
        ∃ t, exec (.cascadePathChanged origin slot taker none hops) s = .next t
          ∧ t.cascade.subs = s.cascade.subs.map (fun y => if same y then { y with link := none, hops } else y)
          ∧ t = { s with cascade := { s.cascade with subs := t.cascade.subs }, events := t.events }))
    ∧ (∀ (k : Nat) (p : MediaPacket) (l : Link) (s : State), s.link k = some l → s.linkUp k →
      s.ownSub (0x6000 + p.origin * 256 + p.slot) = none →
      (p.crcOk = false → ∃ t, exec (.cascadeMediaPacket k p) s = .next t
        ∧ t.link k = some { l with crcErrors := (l.crcErrors + 1) % 2 ^ 64 } ∧ (∀ j, j ≠ k → t.link j = s.link j)
        ∧ t = { s with cascade := { s.cascade with links := t.cascade.links } })
      ∧ (p.crcOk → ∃ t, exec (.cascadeMediaPacket k p) s = .next t
        ∧ t.link k = some { l with packetsIn := (l.packetsIn + 1) % 2 ^ 64, bytesIn := (l.bytesIn + packetBytes p.length) % 2 ^ 64 }
        ∧ (∀ j, j ≠ k → t.link j =
            if p.hops < 3 ∧ s.linkUp j ∧ (s.cascade.subs.any fun x => x.origin == p.origin && x.slot == p.slot
                && x.taker != s.cascade.self && x.link == some j) then
              (s.link j).map fun x => { x with packetsOut := (x.packetsOut + 1) % 2 ^ 64
                                               bytesOut := (x.bytesOut + packetBytes p.length) % 2 ^ 64 }
            else s.link j)
        ∧ t = { s with cascade := { s.cascade with links := t.cascade.links } })))

/-- Negotiation and time (R398 to R401): a HELLO is counted in the NEGOTIATE phase of its link, one that R399 names fails the
attempt; the master sends TIME on each link that is up at each DT millisecond; a follower takes the offset from a TIME
packet over the shorter path and counts those within 20 ns; an echo gives half the round trip less the turnaround; without
TIME for 10 ms the lock is gone. -/
def Obligations.CascadeNegotiatesAndKeepsTime : Prop :=
  (∀ (k id module_ versions : Nat) (isMaster : Bool) (l : Link) (s : State), s.link k = some l →
    let n := l.lanes.headD 0
    let bad := versions % 2 = 0 ∨ id ≠ u16 s.cascade.cfg 4 ∨ module_ = s.cascade.self ∨ (l.expected ≠ 0xFF ∧ module_ ≠ l.expected)
    (s.lane n).state = .training →
    (¬bad → ∃ t, exec (.cascadeHello k id module_ versions isMaster) s = .next t
      ∧ t.link k = some { l with
          hellos := if (s.lane n).phase = 5 then l.hellos + 1 else 1, peer := some module_, version := 1, peerMaster := isMaster }
      ∧ (∀ m, m ∈ l.lanes → t.lane m = { s.lane m with phase := 5 }) ∧ (∀ m, m ∉ l.lanes → t.lane m = s.lane m)
      ∧ t.cascade.master = (s.cascade.master && !(isMaster && decide (module_ < s.cascade.self)))
      ∧ (∀ j, j ≠ k → t.link j = s.link j)
      ∧ t = { s with cascade := { s.cascade with links := t.cascade.links, master := t.cascade.master }, lanes := t.lanes
                     events := t.events })
    ∧ (bad ∧ (s.lane n).attempts ≠ 7 → ∃ t, exec (.cascadeHello k id module_ versions isMaster) s = .next t
      ∧ (∀ m, m ∈ s.unitOf n → (t.lane m).state = .backoff ∧ (t.lane m).attempts = (s.lane n).attempts + 1)
      ∧ t = { s with lanes := t.lanes, events := t.events }))
  ∧ (∀ (s : State), s.cascade.enabled → s.cascade.master → s.time.dt % 1000000 = 0 → (s.cascade.links.map (·.1)).Nodup →
    ∃ t, exec .cascadeTimeTick s = .next t
      ∧ (∀ k, t.link k = if s.linkUp k then (s.link k).map fun l => { l with
            packetsOut := (l.packetsOut + 1) % 2 ^ 64, bytesOut := (l.bytesOut + 36) % 2 ^ 64 } else s.link k)
      ∧ t = { s with cascade := { s.cascade with links := t.cascade.links } })
  ∧ (∀ (s : State), s.cascade.enabled = false ∨ s.cascade.master = false ∨ s.time.dt % 1000000 ≠ 0 →
    exec .cascadeTimeTick s = .next s)
  ∧ (∀ (k origin hops dep delay : Nat) (l : Link) (s : State), s.link k = some l → s.linkUp k → s.cascade.master = false →
    let off : Int := (s.time.dt : Int) - (dep + delay : Nat)
    s.cascade.timeLink = some k ∨ s.cascade.timeLink = none ∨ hops < s.cascade.timeHops →
    ∃ t, exec (.cascadeTimePacket k origin hops dep delay) s = .next t ∧ t.cascade.timeLink = some k ∧ t.cascade.timeHops = hops
      ∧ t.cascade.timeLast = some s.time.dt ∧ t.cascade.timeOffset = off
      ∧ t.cascade.timeGood = (if off.natAbs ≤ 20 then s.cascade.timeGood + 1 else 0)
      ∧ (s.cascade.timeLocked ∨ 16 ≤ t.cascade.timeGood → t.cascade.timeLocked)
      ∧ (s.cascade.timeLocked = false ∧ t.cascade.timeGood < 16 → t.cascade.timeLocked = false)
      ∧ (∃ l', t.link k = some l' ∧ l'.delay = delay ∧ l'.packetsIn = (l.packetsIn + 1) % 2 ^ 64)
      ∧ (off.natAbs ≤ 1000000 → t.time.dt = s.time.dt ∧ t.time.dtSlew = -off))
  ∧ (∀ (k trip turn : Nat) (l : Link) (s : State), s.link k = some l → s.linkUp k →
    ∃ t, exec (.cascadeTimeEcho k trip turn) s = .next t ∧ (∃ l', t.link k = some l' ∧ l'.delay = (trip - turn) / 2)
      ∧ (∀ j, j ≠ k → t.link j = s.link j) ∧ t = { s with cascade := { s.cascade with links := t.cascade.links } })
  ∧ (∀ (new : Option Nat) (sdiRate last : Nat) (ext : List Int) (s : State), s.cascade.timeLast = some last →
    (last + 10000000 ≤ s.time.dt → ∃ t, exec (.cascadeTimeLost new sdiRate ext) s = .next t ∧ t.cascade.timeLocked = false
      ∧ t.cascade.timeLink = none ∧ t.cascade.timeLast = none ∧ t.time.cascadeTime = false
      ∧ (s.time.cascadeTime = false → t = { s with cascade := t.cascade })
      ∧ (s.time.cascadeTime → s.time.cands.all (fun c => c.state != .locked) → t.time.refState = .holdover))
    ∧ (s.time.dt < last + 10000000 → exec (.cascadeTimeLost new sdiRate ext) s = .next s))

/-! ## Start-up -/

/-- Reset and restart (R424, R540, R559, R560): in reset nothing is left but the part, the fuses, MRAM, the external flash and
the levels of the pins; a rail out of tolerance holds the module in reset; a function-level reset closes the sessions and
frees the mailboxes of its own view; DEVICE_RESTART answers, and the restart follows at the next idle step (log entry 49). -/
def Obligations.ResetsLeaveWhatMramHolds : Prop :=
  (∀ (s : State), s.store.commit = none →
    let bare := fun t : State => t = { State.reset with
        part := s.part, pending := s.pending, freeCount := s.freeCount, store := t.store, boot := t.boot
        lantern := { fuses := s.lantern.fuses, ballLow := s.lantern.ballLow }
        flash := { slots := s.flash.slots, active := s.flash.active } }
      ∧ t.store = { recs := s.store.recs, directory := s.store.directory, committed := s.store.committed
                    logHead := s.store.logHead, events := s.store.events, counters := s.store.counters, wear := s.store.wear
                    powerLow := s.store.powerLow }
    (∃ t, exec .porstNAssert s = .next t ∧ bare t ∧ t.boot = { perstN := s.boot.perstN, railBad := s.boot.railBad })
    ∧ (s.boot.porstN → ∃ t, exec .railOutOfTolerance s = .next t ∧ bare t
        ∧ t.boot = { perstN := s.boot.perstN, railBad := true, porstN := true })
    ∧ (s.boot.porstN = false → exec .railOutOfTolerance s = .next s))
  ∧ (∀ (s : State),
    (s.boot.porstN = false → exec .porstNRelease s = .next { s with boot := { s.boot with porstN := true, uptime := 0 } })
    ∧ (s.boot.porstN → exec .porstNRelease s = .next s)
    ∧ (s.boot.porstN ∧ s.boot.railBad → exec .railGoodRestart s = .next { s with boot := { s.boot with railBad := false, uptime := 0 } })
    ∧ (s.boot.porstN = false ∨ s.boot.railBad = false → exec .railGoodRestart s = .next s))
  ∧ (∀ (v : View) (s : State),
    let own := fun k : Nat => (v == .pf0) == decide (k < 16)
    let ours := fun k : Nat => (v == .pf0) == decide (k ≤ 2)
    let cleared := fun t : State => t.ccp.sessions = s.ccp.sessions.filter (fun x => x.view != v)
      ∧ (∀ k, (t.mailbox k) = if own k then {} else s.mailbox k)
      ∧ (∀ k, k ≠ 4 → ours k → (t.ring k).watermark = (s.ring k).watermark ∧ (t.ring k).written = (s.ring k).written
          ∧ (t.ring k).enabled = false)
      ∧ (∀ k, k = 4 ∨ ours k = false → t.ring k = s.ring k) ∧ t.ccp.schedule = s.ccp.schedule
      ∧ t.ccp.jobs = s.ccp.jobs
    ∃ t, exec (.functionLevelReset v) s = .next t ∧ cleared t ∧ t = { s with ccp := t.ccp, events := t.events })
  ∧ (∀ (s : State), ∃ t, exec .pciePerstNAssert s = .next t ∧ t.ccp.sessions = s.ccp.sessions.filter (fun x => x.view != .pf0 && x.view != .pf1)
      ∧ (∀ k, t.mailbox k = {}) ∧ (∀ k, k ≠ 4 → (t.ring k).enabled = false) ∧ t.ccp.schedule = s.ccp.schedule
      ∧ t = { s with ccp := t.ccp, events := t.events, boot := { s.boot with perstN := false, pcieUp := false } })
  ∧ (∀ (r : Request) (s : State), deviceRestart.executes r s →
    ∃ t, exec (.deviceRestart r) s = .next t ∧ t.answered r stOk (deviceRestart.work r s).jsn
      ∧ t = { s.protocol t with boot := { s.boot with restart := some (u8 r.payload 0) } })
  ∧ (∀ (m : Nat) (s : State), s.pending = [] → s.health.tripped = false → s.boot.restart = some m →
    ∃ t, step s = .next t ∧ t.boot.porstN ∧ t.boot.warm ∧ t.boot.restart = none ∧ t.ccp = State.reset.ccp
      ∧ t.journal = State.reset.journal ∧ t.routing = State.reset.routing ∧ t.lantern.fuses = s.lantern.fuses
      ∧ (m = 0 → t.boot.stage = 0 ∧ t.lanes = State.reset.lanes)
      ∧ (m ≠ 0 → t.boot.stage = 2 ∧ t.lanes = s.lanes))

/-- The boot chain (R407, R410, R415 to R419, R441 to R445): the sequencer brings up the passes of a valid map, the PCIe link
brings the host, the Lantern's tests lead to stage 1 of the active slot, a bad component to the other slot or to WAIT_IMAGE,
where an image that verifies may be pushed; HBM that has trained enters the address map, and one that failed is fenced;
firmware counts its start and runs from its package; and full function follows. -/
def Obligations.TheBootChainFollowsItsStages : Prop :=
  (∀ (s : State), s.boot.porstN → s.boot.railBad = false → s.boot.stage = 0 →
    (∀ m, s.store.body 0x0002 = some (.map m) →
      (m.valid → ∃ t, exec (.mramReadable []) s = .next t ∧ t.boot.stage = 2 ∧ t.boot.mapValid ∧ t.boot.map = some m
        ∧ t.boot.passes = s.mapPasses m ∧ ((t.boot.passes.map (·.record)).length < m.passes.length → t.boot.skipped ∧ t.boot.fault ≠ 0)
        ∧ (∀ e, e ∈ m.quads → (t.quad e.1).protocol = 1) ∧ t.routing = s.routing ∧ t.signals = s.signals)
      ∧ (m.valid = false → ∃ t, exec (.mramReadable []) s = .next t ∧ t.boot.stage = 2 ∧ t.boot.mapValid = s.boot.mapValid
        ∧ t.boot.passes = s.boot.passes ∧ t.boot.fault = (if s.boot.fault = 0 then 1 else s.boot.fault) ∧ t = { s with boot := t.boot })))
  ∧ (∀ (s : State), s.boot.porstN → 2 ≤ s.boot.stage →
    exec .pcieLinkUp s = .next { s with boot := { s.boot with
      perstN := true, pcieUp := true, stage := if s.boot.stage = 2 then 3 else s.boot.stage } })
  ∧ (∀ (p : Package) (s : State), s.lantern.state = 0 → s.boot.porstN → s.boot.stage = 3 → s.lantern.ballLow = false →
    s.flash.tried = [] → s.flash.active ≤ 1 → s.flash.slots[s.flash.active]? = some (some p) →
    (s.stage1Ok p → ∃ t, exec (.lanternSelfTestDone true) s = .next t ∧ t.lantern.state = 1 ∧ t.boot.stage = 4
      ∧ t.flash.trying = some s.flash.active ∧ t = { s with lantern := t.lantern, flash := t.flash, boot := t.boot })
    ∧ (s.stage1Ok p = false ∧ s.flash.slots[1 - s.flash.active]? = some none →
      ∃ t, exec (.lanternSelfTestDone true) s = .next t ∧ t.lantern.state = 1 ∧ t.boot.stage = 0x10 ∧ t.boot.fault ≠ 0
        ∧ t = { s with lantern := t.lantern, flash := t.flash, boot := t.boot }))
  ∧ (∀ (k : Nat) (p : Package) (s : State), s.boot.stage = 4 ∨ s.boot.stage = 5 → s.flash.trying = some k →
    s.bootPackage = some p →
    (p.hashOk.all id → exec .componentVerifyFailed s = .next s)
    ∧ (p.hashOk.all id = false ∧ s.flash.tried.contains 0 ∧ s.flash.tried.contains 1 ∧ s.flash.active ≤ 1 →
      ∃ t, exec .componentVerifyFailed s = .next t ∧ t.boot.stage = 0x10 ∧ t.flash.trying = none
        ∧ t.boot.fault = (if s.boot.fault = 0 then s.slotFault k (some p) else s.boot.fault)
        ∧ t = { s with flash := t.flash, boot := t.boot }))
  ∧ (∀ (r : Request) (s : State), s.service r.view r.mailbox = .boot → s.boot.stage = 0x10 → r.view = .pf0 → r.mailbox = 0 →
    (s.mailbox 0).state ≠ .submitted → (s.mailbox 0).state ≠ .accepted → r.major = 0 → r.minor = 0 → requestIsDma r →
    dmaValid r.payload → r.payload.length = 8 + 16 * (u16 r.payload 0 + u16 r.payload 2) → r.reserved = 0 →
    flagsValid r.flags.toNat → r.atFrame = 0 → r.atLine = 0 → r.group = 0 → r.dma.readFails = false →
    let p := Package.parse (padTo (dmaRequestLen r.payload) r.dma.data)
    (s.verifies p → ∃ t, exec (.bootImagePush r) s = .next t ∧ t.answered r stOk 0 ∧ t.bootPackage = some p
      ∧ t.boot.stage = (if s.boot.hbmTrained then 5 else 4)
      ∧ t = { s with ccp := t.ccp, events := t.events, flash := t.flash, boot := { s.boot with stage := t.boot.stage } })
    ∧ (s.verifies p = false → ∃ t, exec (.bootImagePush r) s = .next t ∧ (t.mailbox 0).state = .error
      ∧ (t.mailbox 0).status = stSecurity ∧ t = { s with ccp := t.ccp, events := t.events }))
  ∧ (∀ (failed : List Nat) (s : State), s.boot.stage = 4 →
    let here := (List.range 4).filter fun h => s.present 4 h && !s.stacksOut.contains h
    ∃ t, exec (.hbmTrained failed) s = .next t ∧ t.boot.hbmTrained
      ∧ t.boot.stage = (if t.mapStacks.isEmpty then 0x12 else 5)
      ∧ (∀ h, h ∈ here → (t.stack h).mapped = !failed.contains h) ∧ (∀ h, h ∉ here → t.stack h = s.stack h)
      ∧ (∀ h, h ∈ here → failed.contains h → (⟨4, h, 0⟩ : Fence) ∈ t.health.fences)
      ∧ t = { s with memory := t.memory, health := { s.health with fences := t.health.fences }, boot := t.boot, events := t.events })
  ∧ (∀ (p : Package) (s : State), s.boot.stage = 5 → s.bootPackage = some p → p.hashOk.all id → 2 ≤ s.store.counters.length →
    ∃ t, exec (.firmwareStart [] []) s = .next t ∧ t.boot.stage = 6 ∧ t.boot.fwBuild = p.build ∧ t.boot.fwSvn = p.version
      ∧ t.boot.majors = p.majors ∧ t.lantern.running = some p ∧ t.store.counters.getD 0 0 = s.store.counters.getD 0 0 + 1
      ∧ t.store.counters.getD 1 0 = s.store.counters.getD 1 0 + 1
      ∧ t.journal.epoch = (s.store.counters.getD 1 0 + 1) % 2 ^ 24)
  ∧ (∀ (s : State),
    (s.boot.stage = 6 → ∃ t, exec .fullFunction s = .next t ∧ t.boot = { s.boot with stage := 7 }
      ∧ (∀ p, s.lantern.running = some p → s.journal.swapping = false → 2 < s.store.counters.length →
          t.store.counters.getD 2 0 = max (s.store.counters.getD 2 0) p.commit)
      ∧ t.routing = { s.routing with told := t.routing.told } ∧ t.journal = s.journal ∧ t.lantern = s.lantern
      ∧ t.memory = s.memory)
    ∧ (s.boot.stage ≠ 6 → exec .fullFunction s = .next s))

/-- Nightlight (R412 to R414, R421, R422): the lock of its primary makes a pass live; without it a locked backup is chosen; a
live pass whose source loses lock switches at most once, to a source that is locked; firmware adopts a live pass whole, or
on a follow raster that the destination joins when it has reached the group's phase. NIGHTLIGHT_POLICY_SET sets a
destination's policy. -/
def Obligations.NightlightPassesRunAndAreAdopted : Prop :=
  (∀ (d : Nat) (p : Pass) (s : State), s.pass d = some p →
    let others := fun t : State => ∀ e, e ≠ d → t.pass e = s.pass e
    (∃ t, exec (.nightlightSourceLock d false) s = .next t ∧ (p.record.primary ≠ 0xFFFF →
        t.pass d = some { p with lock1 := true, live := true } ∧ (t.lane p.record.primary).state = .up)
      ∧ others t ∧ t = { s with lanes := t.lanes, boot := { s.boot with passes := t.boot.passes } })
    ∧ (p.record.backup ≠ 0xFFFF → ∃ t, exec (.nightlightSourceLock d true) s = .next t
        ∧ t.pass d = some { p with lock2 := true } ∧ (t.lane p.record.backup).state = .up ∧ others t
        ∧ t = { s with lanes := t.lanes, boot := { s.boot with passes := t.boot.passes } })
    ∧ (p.live = false ∧ p.lock1 = false ∧ p.lock2 → ∃ t, exec (.nightlightPrimaryTimeout d) s = .next t
        ∧ t.pass d = some { p with onBackup := true, live := true } ∧ others t
        ∧ t = { s with boot := { s.boot with passes := t.boot.passes } })
    ∧ (p.live ∨ p.lock1 ∨ p.lock2 = false → exec (.nightlightPrimaryTimeout d) s = .next s)
    ∧ (p.live ∧ p.locked ∧ s.fwRunning = false → ∃ t, exec (.nightlightSourceSwitch d) s = .next t ∧ others t
        ∧ t = { s with boot := { s.boot with passes := t.boot.passes } } ∧ ∃ p', t.pass d = some p'
        ∧ ((if p.onBackup then p.lock1 else p.lock2) ∧ p.switched = false → p'.onBackup = !p.onBackup ∧ p'.switched ∧ p'.locked)
        ∧ (p.switched → p'.onBackup = p.onBackup ∧ p'.switched ∧ p'.locked = false))
    ∧ (s.boot.stage = 7 ∧ p.live ∧ p.adopt = 0 ∧ s.adoptKind p = 0 →
        ∀ (lines : Int) (within : Bool), ∃ t, exec (.nightlightAdopt d lines within) s = .next t
          ∧ t.boot = { s.boot with passes := s.boot.passes.filter fun q => q.record.dest != d }
          ∧ t = { s.protocol t with boot := t.boot })
    ∧ (s.boot.stage = 7 ∧ p.live ∧ p.adopt = 0 ∧ s.adoptKind p = 1 ∧ s.syncSelected d →
        ∀ (lines : Int), ∃ t, exec (.nightlightAdopt d lines false) s = .next t
          ∧ t.pass d = some { p with adopt := 1, follow := lines } ∧ others t
          ∧ t = { s.protocol t with boot := { s.boot with passes := t.boot.passes } })
    ∧ (s.boot.stage = 7 ∧ p.live ∧ p.adopt = 0 ∧ s.adoptKind p = 2 →
        ∀ (lines : Int) (within : Bool), ∃ t, exec (.nightlightAdopt d lines within) s = .next t ∧ t.pass d = none
          ∧ (t.dest d).source = (s.dest d).source ∧ (t.dest d).hotCut ∧ others t)
    ∧ (s.boot.stage ≠ 7 ∨ p.live = false ∨ p.adopt ≠ 0 →
        ∀ (lines : Int) (within : Bool), exec (.nightlightAdopt d lines within) s = .next s)
    ∧ (p.adopt = 1 ∧ p.follow = 0 → exec (.adoptionJoin d) s
        = .next { s with boot := { s.boot with passes := s.boot.passes.filter fun q => q.record.dest != d } })
    ∧ (p.adopt ≠ 1 ∨ p.follow ≠ 0 → exec (.adoptionJoin d) s = .next s))
  ∧ (∀ (r : Request) (s : State), nightlightPolicySet.executes r s →
    let d := u16 r.payload 0
    let b := nightlightPolicySet.taken r s
    (b.fenced 1 d = false → ∃ t, exec (.nightlightPolicySet r) s = .next t ∧ t.answered r stOk (nightlightPolicySet.work r s).jsn
      ∧ t.dest d = { s.dest d with nightlight := u8 r.payload 2 } ∧ (∀ e, e ≠ d → t.dest e = s.dest e)
      ∧ t = { s.protocol t with routing := { s.routing with dests := t.routing.dests } })
    ∧ (b.fenced 1 d → ∃ t, exec (.nightlightPolicySet r) s = .next t
      ∧ t.answered r stUnitFenced (nightlightPolicySet.work r s).jsn ∧ t = s.protocol t))

/-! ## The Lantern -/

/-- Authentication (R430 to R433): an OPERATIONAL Lantern answers a challenge with a fresh nonce for the session; a response
that verifies within 60 s grants the role, a response that does not is SECURITY_ERROR and the fifth in a row locks the role
out for 10 minutes; in any other state a service is SECURITY_ERROR, which is counted. -/
def Obligations.RolesAreGrantedByChallengeAndResponse : Prop :=
  (∀ (officer : Bool) (r : Request) (s : State),
    let c := if officer then coChallenge else userChallenge
    let i := if officer then Instr.coChallenge r else Instr.userChallenge r
    c.executes r s →
    let x := c.work r s
    let v := Config.drbg s.lantern.drawn
    (s.lantern.state = 1 ∧ s.lantern.fuses.decommissioned = false →
      ∃ t, exec i s = .next t ∧ t.answeredWith r stOk x.jsn (s.serviceHeader ++ digestBytes v)
        ∧ t.lantern = { s.lantern with
            nonces := { session := x.session, officer, value := v, since := s.time.dt }
              :: s.lantern.nonces.filter fun n => n.session != x.session, drawn := s.lantern.drawn + 1 }
        ∧ t = { s.protocol t with lantern := t.lantern })
    ∧ (s.lantern.state ≠ 1 ∨ s.lantern.fuses.decommissioned →
      ∃ t, exec i s = .next t ∧ t.answeredWith r stSecurity x.jsn s.serviceHeader
        ∧ t = { s.protocol t with lantern := { s.lantern with refusals := (s.lantern.refusals + 1) % 2 ^ 64 } }))
  ∧ (∀ (officer : Bool) (r : Request) (s : State),
    let c := if officer then coRespond else userRespond s.lantern.fuses.dual
    let i := if officer then Instr.coRespond r else Instr.userRespond r
    c.executes r s →
    let x := c.work r s
    let b := c.taken r s
    let k := b2n (!officer)
    let l := s.lantern
    let spent := l.nonces.filter fun n => !(n.session == x.session && n.officer == officer)
    let granted := fun n : Nonce => s.time.dt ≤ n.since + 60 * 1000000000
      ∧ (let m := challengeMessage officer n.value x.session
         if officer then b.officerValid m x.args x.data else b.userValid m x.args x.data)
    l.state = 1 → l.fuses.decommissioned = false → l.locked k s.time.dt = false → l.failures.length = 2 → l.lockout.length = 2 →
    (∀ n, (l.nonces.find? fun n => n.session == x.session && n.officer == officer) = some n → granted n →
      ∃ t, exec i s = .next t ∧ t.answered r stOk x.jsn
        ∧ t.ccp.sessions = s.ccp.sessions.map (fun y => if y.id = x.session then
            { y with crypto := y.crypto || officer, user := y.user || !officer } else y)
        ∧ t.lantern = { l with nonces := spent, failures := l.failures.set k 0 } ∧ t = { s.protocol t with lantern := t.lantern })
    ∧ ((∀ n, (l.nonces.find? fun n => n.session == x.session && n.officer == officer) = some n → ¬granted n) →
      ∃ t, exec i s = .next t ∧ t.answered r stSecurity x.jsn ∧ t.ccp.sessions = s.ccp.sessions
        ∧ (l.failures.getD k 0 < 4 → t.lantern.failures = l.failures.set k (l.failures.getD k 0 + 1) ∧ t.lantern.lockout = l.lockout)
        ∧ (4 ≤ l.failures.getD k 0 → t.lantern.failures.getD k 0 = 0
            ∧ t.lantern.lockout.getD k none = some (s.time.dt + 600 * 1000000000))
        ∧ t.lantern.nonces = spent ∧ t.lantern.authFailures = (l.authFailures + 1) % 2 ^ 64 ∧ t.lantern.fuses = l.fuses
        ∧ t = { s.protocol t with lantern := t.lantern }))
  ∧ (∀ (officer : Bool) (s : State) (d : Nat),
    let k := b2n (!officer)
    s.lantern.lockout.getD k none = some d →
    (d ≤ s.time.dt → exec (.authLockoutExpiry officer) s
      = .next { s with lantern := { s.lantern with lockout := s.lantern.lockout.set k none } })
    ∧ (s.time.dt < d → exec (.authLockoutExpiry officer) s = .next s ∧ s.lantern.locked k s.time.dt))

/-- Services of an OPERATIONAL Lantern (R434 to R439, R446 to R449, R451, R452): fuse burns, key records, the self-test and
zeroisation go on in the background; REGISTER_LOCK acts at acceptance; ATTEST signs the report of the state; a stream key is
offered and accepted into two key slots, and withdrawn. -/
def Obligations.LanternServicesRun : Prop :=
  (∀ (r : Request) (s : State), s.lantern.state = 1 →
    (coProvision.executes r s → (coProvision.taken r s).fusesThen.provisioned = false →
      ∃ t, exec (.coProvision r) s = .next t ∧ t.worksOn coProvision r s ∧ t = s.protocol t)
    ∧ (coProvision.executes r s → (coProvision.taken r s).fusesThen.provisioned →
      ∃ t, exec (.coProvision r) s = .next t ∧ t.answered r stSecurity (coProvision.work r s).jsn
        ∧ t = { s.protocol t with lantern := t.lantern })
    ∧ (fusePolicySet.executes r s →
      ∃ t, exec (.fusePolicySet r) s = .next t ∧ t.worksOn fusePolicySet r s ∧ t = s.protocol t)
    ∧ (userKeySet.executes r s →
      ∃ t, exec (.userKeySet r) s = .next t ∧ t.worksOn userKeySet r s ∧ t = s.protocol t)
    ∧ (peerKeySet.executes r s →
      ∃ t, exec (.peerKeySet r) s = .next t ∧ t.worksOn peerKeySet r s ∧ t = s.protocol t)
    ∧ (selfTestRun.executes r s →
      ∃ t, exec (.selfTestRun r) s = .next t ∧ t.worksOn selfTestRun r s
        ∧ t = { s.protocol t with lantern := { s.lantern with testing := true } })
    ∧ (zeroize.executes r s → s.ccp.jobs = [] → u8 r.payload 0 = 0 →
      ∃ t, exec (.zeroize r) s = .next t ∧ t.worksOn zeroize r s ∧ t.lantern.state = 2 ∧ t.lantern.slots = []
        ∧ t.lantern.exchanges = [] ∧ t.lantern.fuses = s.lantern.fuses ∧ t.ccp.sessions.all (fun x => !x.crypto && !x.user)
        ∧ t = { s.protocol t with lantern := t.lantern })
    ∧ (registerLock.executes r s →
      ∃ t, exec (.registerLock r) s = .next t ∧ t.answeredWith r stOk (registerLock.work r s).jsn s.serviceHeader
        ∧ t = { s.protocol t with regs := { s.regs with lock := u8 r.payload 0 == 1 } })
    ∧ (s.lantern.fuses.dual = false → s.lantern.fuses.decommissioned = false → (attest false).executes r s →
      let b := ((attest false).taken r s).report r.payload
      let k := s.lantern.attest.getD (0, 0)
      ∃ t, exec (.attest r) s = .next t
        ∧ t.answeredWith r stOk ((attest false).work r s).jsn
          (s.serviceHeader ++ (b ++ sigBytes (Config.ecdsaSign k.1 k.2 (Config.sha384 b))))
        ∧ slice b 8 48 = r.payload ∧ t = s.protocol t)
    ∧ (streamKeyWithdraw.executes r s →
      ∃ t, exec (.streamKeyWithdraw r) s = .next t ∧ t.answered r stOk (streamKeyWithdraw.work r s).jsn
        ∧ t.lantern = { s.lantern with slots := s.lantern.slots.filter fun e => e.2.handle != u32 r.payload 0 }
        ∧ t = { s.protocol t with lantern := t.lantern })
    ∧ (streamKeyEstablish.executes r s → s.lantern.fuses.decommissioned = false → u8 r.payload 0 = 0 →
      let l := s.lantern
      (l.exchanges.length < 64 → ∃ t, exec (.streamKeyEstablish r) s = .next t
        ∧ t.answered r stOk (streamKeyEstablish.work r s).jsn
        ∧ t.lantern = { l with
            exchanges := l.exchanges ++ [{ id := l.nextExchange, context := slice r.payload 8 48, side := u8 r.payload 3
                                           own := sigBytes (Config.ephemeral l.drawn), since := s.time.dt }]
            nextExchange := (l.nextExchange + 1) % 2 ^ 32, drawn := l.drawn + 1 }
        ∧ t = { s.protocol t with lantern := t.lantern })
      ∧ (64 ≤ l.exchanges.length → ∃ t, exec (.streamKeyEstablish r) s = .next t
        ∧ t.answered r stNoCapacity (streamKeyEstablish.work r s).jsn ∧ t = s.protocol t))
    ∧ (streamKeyEstablish.executes r s → s.lantern.fuses.decommissioned = false → u8 r.payload 0 = 1 →
      let p := r.payload
      let l := s.lantern
      let peer := slice p 56 96
      ∀ x, (l.exchanges.find? fun y => y.id == u32 p 4) = some x →
      let signed := Config.sha384 (labelSk ++ slice p 8 48 ++ peer ++ x.own)
      (s.time.dt ≤ x.since + 30 * 1000000000 ∧ Config.onCurve peer →
        ∀ k, s.peerKey (u8 p 2) = some k → Config.ecdsaVerify k signed (sigOf (slice p 152 96)) → l.freeSlots.length = 2 →
        ∃ t, exec (.streamKeyEstablish r) s = .next t ∧ t.answered r stOk (streamKeyEstablish.work r s).jsn
          ∧ t.lantern.exchanges = l.exchanges.filter (fun y => y.id != x.id) ∧ t.lantern.nextHandle = (l.nextHandle + 2) % 2 ^ 32
          ∧ (∀ a, a ∈ l.freeSlots → tabHas t.lantern.slots a) ∧ t = { s.protocol t with lantern := t.lantern })
      ∧ (x.since + 30 * 1000000000 < s.time.dt ∨ Config.onCurve peer = false ∨ s.peerKey (u8 p 2) = none →
        ∃ t, exec (.streamKeyEstablish r) s = .next t ∧ t.answered r stSecurity (streamKeyEstablish.work r s).jsn
          ∧ t.lantern = { l with refusals := (l.refusals + 1) % 2 ^ 64 } ∧ t = { s.protocol t with lantern := t.lantern })))

/-- Events of the Lantern (R448 to R455, R101): key slots and exchanges end at their limits; the ball, a command or the
environment zeroises, after which the Lantern is OPERATIONAL again, but for an error, which keeps it in ERROR with its
cause; a glitch is counted; a failed health test is an error. A seal is made of the newest closed page, and skipped while
ZEROISING. -/
def Obligations.LanternEventsZeroiseAndSeal : Prop :=
  (∀ (slot : Nat) (e : Nat × KeySlot) (s : State), (s.lantern.slots.find? fun x => x.1 == slot) = some e →
    (e.2.packets < 2 ^ 31 → ∃ t, exec (.streamKeyRekeyDue slot) s = .next t
      ∧ t.lantern.slots = tabPut s.lantern.slots slot { e.2 with packets := 2 ^ 31 }
      ∧ t = { s with lantern := { s.lantern with slots := t.lantern.slots }, events := t.events })
    ∧ (2 ^ 31 ≤ e.2.packets → ∃ t, exec (.streamKeyExpired slot) s = .next t ∧ t.lantern.slots = tabDrop s.lantern.slots slot
      ∧ t = { s with lantern := { s.lantern with slots := t.lantern.slots }, events := t.events }))
  ∧ (∀ (n : Nat) (s : State), (s.rx n).oldKey.isSome →
    exec (.receiveKeyOverlapEnd n) s = .next (s.setRx n { s.rx n with oldKey := none }))
  ∧ (∀ (id : Nat) (s : State), exec (.exchangeExpiry id) s = .next { s with lantern := { s.lantern with
      exchanges := s.lantern.exchanges.filter fun x => !(x.id == id && decide (x.since + 30 * 1000000000 ≤ s.time.dt)) } })
  ∧ (∀ (s : State), ∃ t, exec .zeroizeGlitch s = .next t
      ∧ t = { s with lantern := { s.lantern with glitches := (s.lantern.glitches + 1) % 2 ^ 64 }, events := t.events })
  ∧ (∀ (s : State), s.ccp.jobs = [] → s.lantern.state = 1 →
    let gone := fun t : State => t.lantern.slots = [] ∧ t.lantern.exchanges = []
      ∧ t.ccp.sessions.all (fun x => !x.crypto && !x.user) ∧ t.lantern.fuses = s.lantern.fuses
    (∃ t, exec .zeroizeNLow s = .next t ∧ t.lantern.state = 2 ∧ t.lantern.ballLow ∧ gone t
      ∧ t.lantern.zeroisations = (s.lantern.zeroisations + 1) % 2 ^ 64 ∧ t = { s.protocol t with lantern := t.lantern })
    ∧ (∃ t, exec .environmentalFailure s = .next t ∧ t.lantern.state = 3 ∧ t.lantern.cause = 3 ∧ gone t)
    ∧ (∀ cause, 1 ≤ cause → cause ≤ 5 → s.boot.porstN →
      ∃ t, exec (.lanternError cause) s = .next t ∧ t.lantern.state = 3 ∧ t.lantern.cause = cause ∧ gone t)
    ∧ (∃ t, exec (.entropyHealthTest false) s = .next t ∧ t.lantern.state = 3 ∧ t.lantern.cause = 2 ∧ gone t)
    ∧ exec (.entropyHealthTest true) s = .next s)
  ∧ (∀ (cause : Nat) (s : State), s.lantern.state = 3 → exec (.lanternError cause) s = .next s
      ∧ exec .environmentalFailure s = .next s ∧ exec .zeroisationComplete s = .next s
      ∧ exec (.entropyHealthTest false) s = .next s)
  ∧ (∀ (s : State), s.lantern.state = 2 → s.boot.stage ≠ 3 → ∃ t, exec .zeroisationComplete s = .next t
      ∧ t.lantern = { s.lantern with state := 1, ballLow := false }
      ∧ (∀ j, j ∈ t.ccp.jobs → j.opcode ≠ 0x0A05) ∧ t = { s.protocol t with lantern := t.lantern })
  ∧ (∀ (s : State), s.journal.epoch ≠ 0 →
    (s.lantern.state = 2 → exec .sealTick s = .next { s with lantern := { s.lantern with
      skipped := (s.lantern.skipped + 1) % 2 ^ 64 } })
    ∧ (s.lantern.state ≠ 2 ∧ (s.lantern.state ≠ 1 ∨ s.lantern.fuses.decommissioned) → exec .sealTick s = .next s)
    ∧ (s.lantern.state = 1 ∧ s.lantern.fuses.decommissioned = false ∧ s.journal.open_ ≠ [] →
      ∃ t, exec .sealTick s = .next t ∧ t.journal.open_ = [] ∧ t.journal.sealSeq = s.journal.sealSeq + 1
        ∧ (∃ p, t.journal.pages.head? = some p ∧ p.entries.take s.journal.open_.length = s.journal.open_.reverse
          ∧ t.journal.lastSealHash = p.hash
          ∧ ∃ x, t.journal.seals.head? = some x ∧ x.hash = p.hash ∧ x.page = p.index ∧ x.dt = s.time.dt)
        ∧ t.lantern = { s.lantern with sealed_ := (s.lantern.sealed_ + 1) % 2 ^ 64 }
        ∧ t = { s.protocol t with lantern := t.lantern }))

/-! ## Memory -/

/-- Memory commands (R462, R471): APERTURE_SET moves the BAR4 window and MEMORY_QOS_SET sets the cap of a BULK port, the scrub
period, or both, at acceptance; nothing else changes. Scrub and SRAM (R467, R473, R474): the scrub takes the granules in
turn; a bank that wakes is in no other state, and the accesses it stalled are counted; a double-bit error of SRAM is counted
to its bank and handled by its use: a panel port's tiles are marked dirty, flattened images are built again, any other
bank's error goes to the fault log. -/
def Obligations.MemoryIsManagedAndScrubbed : Prop :=
  (
    (∀ (r : Request) (s : State), apertureSet.executes r s →
      ∃ t, exec (.apertureSet r) s = .next t ∧ t.answered r stOk (apertureSet.work r s).jsn
        ∧ u64 r.payload 0 % 1048576 = 0 ∧ u64 r.payload 0 < s.mapStacks.length * 2 ^ 34
        ∧ t.memory = { s.memory with aperture := u64 r.payload 0 } ∧ t = { s.protocol t with memory := t.memory })
    ∧ (∀ (r : Request) (s : State), memoryQosSet.executes r s →
      let p := u8 r.payload 0
      let m := s.memory
      ∃ t, exec (.memoryQosSet r) s = .next t ∧ t.answered r stOk (memoryQosSet.work r s).jsn
        ∧ t.memory = { m with
            caps := if p = 255 then m.caps else m.caps.set (p - 44) (u16 r.payload 2)
            scrubPeriod := if u16 r.payload 4 = 0 then m.scrubPeriod else u16 r.payload 4 }
        ∧ t = { s.protocol t with memory := t.memory }))
  ∧ (
    (∀ (s : State), s.mapStacks ≠ [] → exec (.scrubRead [] []) s = .next { s with memory := { s.memory with
        scrubAt := if s.memory.scrubAt + 1 < s.hbmEnd / 256 then s.memory.scrubAt + 1 else 0 } })
    ∧ (∀ (b n : Nat) (s : State),
      (s.memory.bankState b ≠ 0 → ∃ t, exec (.sramBankWake b n) s = .next t ∧ t.memory.bankState b = 0
        ∧ (∀ c, c ≠ b → t.memory.bankState c = s.memory.bankState c)
        ∧ t.memory.wakeStalls = (s.memory.wakeStalls + n) % 2 ^ 64
        ∧ t = { s with memory := { s.memory with
            waking := t.memory.waking, retention := t.memory.retention, wakeStalls := t.memory.wakeStalls } })
      ∧ (s.memory.bankState b = 0 → exec (.sramBankWake b n) s = .next s))
    ∧ (∀ (b master addr : Nat) (write : Bool) (tiles : List Nat) (s : State), b < 48 →
      let counted := tabPut s.memory.sramErrors b (tabGet s.memory.sramErrors b 0 + 1)
      ∃ t, exec (.sramEccUncorrectable b master addr write tiles) s = .next t
        ∧ (8 ≤ b → b ≤ 15 → (∀ x, x ∈ tiles → x ∈ (t.panel ((b - 8) / 4)).dirty)
            ∧ t = { s.setPanel ((b - 8) / 4) { s.panel ((b - 8) / 4) with dirty := (t.panel ((b - 8) / 4)).dirty } with
                memory := { s.memory with sramErrors := counted }, events := t.events })
        ∧ (16 ≤ b → b ≤ 27 → t.pictures.canvases = tabMap (fun _ c => if c.flat = .none then c else { c with flat := .building })
              s.pictures.canvases
            ∧ t = { s with
                memory := { s.memory with sramErrors := counted }, pictures := { s.pictures with canvases := t.pictures.canvases }
                events := t.events })
        ∧ (b < 8 ∨ 28 ≤ b → t.regs.faultCount = (s.regs.faultCount + 1) % 2 ^ 64
            ∧ t.regs.faults.head? = some { addr := addr % 2 ^ 40, master, cause := 1, write, seq := (s.regs.faultCount + 1) % 2 ^ 14 }
            ∧ t = { s with memory := { s.memory with sramErrors := counted }, regs := t.regs, events := t.events })))

/-- The address map (R458): the device addresses are those below 16 GiB for each stack in the map; decoding is a one-to-one
correspondence between them and the bytes of 32 pseudo-channels of 512 MiB in each stack, with consecutive granules on
consecutive stacks. -/
def Obligations.AddressDecodingIsOneToOne : Prop :=
  (∀ (s : State), s.hbmEnd = s.mapStacks.length * 2 ^ 34 ∧ s.mapStacks.length ≤ 4 ∧ s.mapStacks.Pairwise (· < ·)
    ∧ ∀ h, h ∈ s.mapStacks ↔ h < 4 ∧ (s.stack h).mapped)
  ∧ (∀ (n a : Nat), 1 ≤ n → n ≤ 4 → a < n * 2 ^ 34 →
    let d := decodeAddress n a
    d.1 < n ∧ d.2.1 < 32 ∧ d.2.2 < 2 ^ 29 ∧ (decodeAddress n (a + 256)).1 = (d.1 + 1) % n)
  ∧ (∀ (n a b : Nat), 1 ≤ n → n ≤ 4 → a < n * 2 ^ 34 → b < n * 2 ^ 34 → decodeAddress n a = decodeAddress n b → a = b)
  ∧ (∀ (n slot pc x : Nat), 1 ≤ n → n ≤ 4 → slot < n → pc < 32 → x < 2 ^ 29 →
    ∃ a, a < n * 2 ^ 34 ∧ decodeAddress n a = (slot, pc, x))

/-- Refresh (R463 to R465): every interval adds one owed refresh to every bank; a bank's refresh stands at the rank its owed
count gives; at 85 °C the rate doubles, every count doubles and a bank above 4 enters CATCH-UP; below 82 °C the counts are
halved and rounded up; a completed refresh takes one away, ends CATCH-UP at 2, and is counted as forced at 12 or more. Ports
(R460 to R462, R466, R475): a RASTER request is never passed over by another port's, and BULK at U3 stands above CODING at
U1; a read is counted to its port unless it is a BULK port at its cap, whose window then ends; an error that cannot be
corrected is counted to its stack with its address and handled by its reader, and 16 within a second fence the stack. -/
def Obligations.RefreshesAndPortsAreKept : Prop :=
  (
    (∀ (h : Nat) (s : State), (s.stack h).mapped →
      (∃ t, exec (.hbmRefreshInterval h) s = .next t
        ∧ (∀ b, (t.stack h).bank b = { (s.stack h).bank b with owed := ((s.stack h).bank b).owed + 1 })
        ∧ t = s.setStack h (t.stack h))
      ∧ (∀ (b : Nat), 0 < ((s.stack h).bank b).owed →
        let c := (s.stack h).bank b
        ∃ t, exec (.perBankRefreshComplete h b) s = .next t
          ∧ (t.stack h).bank b = { owed := c.owed - 1, catchUp := c.catchUp && decide (2 < c.owed - 1) }
          ∧ (∀ b', b' ≠ b → (t.stack h).bank b' = (s.stack h).bank b')
          ∧ (t.stack h).forced = (s.stack h).forced + (if c.catchUp ∧ 12 ≤ c.owed then 1 else 0)
          ∧ t = { s.setStack h (t.stack h) with events := t.events })
      ∧ (∀ (temp : Int),
        ∃ t, exec (.hbmTempRead h temp) s = .next t ∧ (t.stack h).temp = temp
          ∧ (85 ≤ temp → (s.stack h).doubled = false → (t.stack h).doubled ∧ (t.stack h).limit = 4
              ∧ ∀ b, (t.stack h).bank b
                = { owed := 2 * ((s.stack h).bank b).owed, catchUp := decide (4 < 2 * ((s.stack h).bank b).owed) })
          ∧ (temp < 82 → (s.stack h).doubled → (t.stack h).doubled = false ∧ (t.stack h).limit = 8
              ∧ ∀ b, (t.stack h).bank b = { owed := (((s.stack h).bank b).owed + 1) / 2, catchUp := false })
          ∧ ((if (s.stack h).doubled then 82 ≤ temp else temp < 85) → t.stack h = { s.stack h with temp })
          ∧ t = { s.setStack h (t.stack h) with events := t.events }))
    ∧ (∀ (h b : Nat) (temp : Int) (s : State), (s.stack h).mapped = false → exec (.hbmRefreshInterval h) s = .next s
        ∧ exec (.perBankRefreshComplete h b) s = .next s ∧ exec (.hbmTempRead h temp) s = .next s)
    ∧ (∀ (x : Stack) (b : Nat),
      let c := (x.bank b).owed
      let l := if x.doubled then 4 else 8
      (c = 0 → x.refreshRank b = none)
      ∧ (0 < c → (x.bank b).catchUp → x.refreshRank b = some (if 12 ≤ c then 1 else 6))
      ∧ (0 < c → (x.bank b).catchUp = false →
        x.refreshRank b = some (if c < l then 13 else if c = l then 6 else 1))))
  ∧ (
    (∀ (p q a b : Nat), portClass p = 0 → portClass q ≠ 0 → portRank p a < portRank q b)
    ∧ (∀ (p a q b : Nat), portClass p = 2 → portUrgency p a = 3 → portClass q = 1 → portUrgency q b ≤ 1 →
      portRank p a < portRank q b)
    ∧ (∀ (p a b : Nat), a ≤ b → portUrgency p a ≤ portUrgency p b ∧ portRank p b ≤ portRank p a)
    ∧ (∀ (p : Nat) (s : State), 44 ≤ p → p ≤ 47 →
      exec (.bulkCapWindow p) s = .next (s.mapPort p fun u => { u with window := 0 }))
    ∧ (∀ (p addr len age : Nat) (rd : Reader) (s : State), p < 48 → addr + len ≤ s.hbmEnd →
      (s.capReached p → exec (.hbmReadComplete p addr len age [] [] rd) s = .next s)
      ∧ (s.capReached p = false →
        ∃ t, exec (.hbmReadComplete p addr len age [] [] rd) s = .next t
          ∧ (t.port p).read = (s.port p).read + len ∧ (t.port p).written = (s.port p).written
          ∧ (t.port p).age = max (s.port p).age age ∧ (t.port p).window = (s.port p).window + len
          ∧ ((s.port p).urgency.length = 4 → (t.port p).urgency.sum = (s.port p).urgency.sum + age)
          ∧ t = s.mapPort p fun _ => t.port p)
      ∧ (∀ (bad : Nat), s.capReached p = false →
        let h := s.stackOf bad
        let recent := (s.stack h).recent.filter fun t => decide (s.time.dt < t + 1000000000)
        recent.length < 15 →
        let counted := fun (u t : State) => t.memory.lastBad = some bad
          ∧ t.stack h = { s.stack h with uncorrectable := (s.stack h).uncorrectable + 1, recent := recent ++ [s.time.dt] }
          ∧ t.memory = { (s.mapPort p fun _ => t.port p).memory with hbmStacks := t.memory.hbmStacks, lastBad := some bad }
          ∧ t = { u with memory := t.memory, events := t.events }
        (∃ t, exec (.hbmReadComplete p addr len age [] [bad] .other) s = .next t ∧ counted s t)
        ∧ (∀ d line, ∃ t, exec (.hbmReadComplete p addr len age [] [bad] (.egress d line)) s = .next t
            ∧ counted (s.setDest d { s.dest d with late := (s.dest d).late + 1, lateLine := line }) t)
        ∧ (∀ n, ∃ t, exec (.hbmReadComplete p addr len age [] [bad] (.pipe n)) s = .next t
            ∧ counted (s.setPipe n { s.pipe n with
                count := { (s.pipe n).count with captureLate := (s.pipe n).count.captureLate + 1 } }) t)
        ∧ (∀ n k, ∃ t, exec (.hbmReadComplete p addr len age [] [bad] (.audio n k)) s = .next t
            ∧ counted (s.setAudioSource n { s.audioSource n with underrun := (s.audioSource n).underrun + k }) t)
        ∧ (∀ n e, s.enc n = some e →
            ∃ t, exec (.hbmReadComplete p addr len age [] [bad] (.encRef n)) s = .next t
              ∧ counted (s.setEnc n { e with force := true }) t)
        ∧ (∀ n k d, s.dec n = some d →
            ∃ t, exec (.hbmReadComplete p addr len age [] [bad] (.decRef n k)) s = .next t
              ∧ counted (s.setDec n (d.mapHead fun p => { p with concealed := p.concealed + k })) t)))
    ∧ (∀ (bad : Nat) (s : State), s.mapStacks ≠ [] →
      15 ≤ ((s.stack (s.stackOf bad)).recent.filter fun t => decide (s.time.dt < t + 1000000000)).length →
      ∃ t, exec (.scrubRead [] [bad]) s = .next t ∧ t.memory.lastBad = some bad
        ∧ (s.present 4 (s.stackOf bad) → s.fenced 4 (s.stackOf bad) = false → s.testOf 4 (s.stackOf bad) = none →
            t.fenced 4 (s.stackOf bad))))

/-- The host aperture (R471, R220): a read of a byte in a surface returns it, whatever the surface's state, and of any other
address zero; a write within an IDLE surface is performed, clears its READY flag and changes no other byte; one within a
surface in use is dropped and counted to the surface; one elsewhere is dropped and counted as APERTURE_WRITE_BLOCKED. -/
def Obligations.TheApertureReachesSurfacesOnly : Prop :=
  (∀ (o n : Nat) (s : State), s.boot.pcieUp → o + n ≤ 268435456 → s.capReached 44 = false →
    s.memory.aperture + o + n ≤ s.hbmEnd →
    let a := s.memory.aperture + o
    ∃ t, exec (.apertureRead o n) s = .next t ∧ t.regs.lastRead.length = n
      ∧ (∀ i, i < n → t.regs.lastRead[i]? = some (if (s.surfaceAt (a + i)).isSome then memGet s.memory.hbm (a + i) else 0))
      ∧ t = { s.mapPort 44 fun _ => t.port 44 with regs := { s.regs with lastRead := t.regs.lastRead } })
  ∧ (∀ (o : Nat) (data : Bytes) (s : State), s.boot.pcieUp → o + data.length ≤ 268435456 → s.capReached 44 = false →
    s.memory.aperture + o + data.length ≤ s.hbmEnd → s.memory.wf → data ≠ [] →
    let a := s.memory.aperture + o
    (∀ e, (s.surfaceAt a) = some e → (∀ i, i < data.length → s.surfaceAt (a + i) = some e) →
      (e.2.state = .idle →
        ∃ t, exec (.apertureWrite o data) s = .next t ∧ t.memory.wf
          ∧ memRead t.memory.hbm a data.length = data
          ∧ (∀ b, b < a ∨ a + data.length ≤ b → memGet t.memory.hbm b = memGet s.memory.hbm b)
          ∧ t.surface e.1 = some { e.2 with ready := false }
          ∧ t.memory.blocked = s.memory.blocked
          ∧ t = { (s.mapPort 44 fun _ => t.port 44).setSurface e.1 { e.2 with ready := false } with
              memory := { (s.mapPort 44 fun _ => t.port 44).memory with hbm := t.memory.hbm } })
      ∧ (e.2.state ≠ .idle →
        ∃ t, exec (.apertureWrite o data) s = .next t ∧ t.memory.hbm = s.memory.hbm
          ∧ t.surface e.1 = some { e.2 with blocked := e.2.blocked + 1 } ∧ t.memory.blocked = s.memory.blocked
          ∧ t = { (s.mapPort 44 fun _ => t.port 44).setSurface e.1 { e.2 with blocked := e.2.blocked + 1 } with
              events := t.events }))
    ∧ ((∀ i, i < data.length → s.surfaceAt (a + i) = none) →
      ∃ t, exec (.apertureWrite o data) s = .next t ∧ t.memory.hbm = s.memory.hbm
        ∧ t.memory.blocked = (s.memory.blocked + 1) % 2 ^ 64
        ∧ t = { s with memory := { (s.mapPort 44 fun _ => t.port 44).memory with blocked := t.memory.blocked } }))

/-! ## The non-volatile store -/

/-- When a commit starts (R484, R490, R491, R493): on NV_COMMIT, on the oldest entry's reaching 100 ms, when the spacing of 50
ms is over, and on POWER_FAIL_N, for which the spacing is waived, the flip is flagged and an open long batch is abandoned;
while POWER_FAIL_N is low no other starts. NV_COMMIT of a clean store answers with the commit number. The flip (R480, R483,
R485, R489): the commit number rises by one, the directory names the commit, every entry's record reads as committed, no
other record changes, the staged log records are valid, no commit is in progress, and a waiting NV_COMMIT completes with the
commit number. -/
def Obligations.TheStoreCommitsAtomically : Prop :=
  (
    let spaced := fun s : State => s.store.lastFlip.all fun f => decide (f + 50000000 < s.time.dt)
    let holds := fun s : State => s.store.commit = none ∧ s.store.buffer ≠ []
    let begun := fun (s t : State) (fail : Bool) => t.store = { s.store with
      buffer := [], oldest := none, waiting := false, powerLow := fail, logDropped := t.store.logDropped
      commit := some { entries := s.store.buffer, serial := s.store.gathered, logs := (stageLogs s.events.staged).1
                       powerFail := fail, long := false } }
    let alone := fun s t : State => t = { s with store := t.store, events := t.events }
    (∀ (r : Request) (s : State), nvCommit.executes r s →
      let x := nvCommit.work r s
      (s.store.clean → ∃ t, exec (.nvCommit r) s = .next t ∧ t.answeredWith r stOk x.jsn (le 8 s.store.committed) ∧ t.store = s.store
        ∧ t = s.protocol t)
      ∧ (s.store.clean = false → ∃ t, exec (.nvCommit r) s = .next t ∧ t.worksOn nvCommit r s ∧ t = s.protocol t
        ∧ (holds s → s.store.powerLow = false → spaced s → begun s t false)
        ∧ (holds s → s.store.powerLow ∨ ¬spaced s → t.store = { s.store with waiting := true })
        ∧ (¬holds s → t.store = s.store)))
    ∧ (∀ (s : State) (a : Nat), s.store.oldest = some a → holds s →
      (s.time.dt < a + 100000000 → exec .nvGatherAgeExpiry s = .next s)
      ∧ (a + 100000000 ≤ s.time.dt →
        (s.store.powerLow = false → spaced s →
          ∃ t, exec .nvGatherAgeExpiry s = .next t ∧ begun s t false ∧ alone s t)
        ∧ (s.store.powerLow ∨ ¬spaced s →
          exec .nvGatherAgeExpiry s = .next { s with store := { s.store with waiting := true } })))
    ∧ (∀ (s : State), holds s →
      (s.store.waiting → s.store.powerLow = false → spaced s →
        ∃ t, exec .nvSpacingExpiry s = .next t ∧ begun s t false ∧ alone s t)
      ∧ (s.store.waiting = false ∨ s.store.powerLow ∨ ¬spaced s → exec .nvSpacingExpiry s = .next s))
    ∧ (∀ (s : State), (∀ n, (s.cvu n).busy = false) → s.store.powerLow = false →
      (holds s → ∃ t, exec .powerFailNAssert s = .next t ∧ begun s t true ∧ alone s t)
      ∧ (s.store.commit = none → s.store.buffer = [] →
        ∃ t, exec .powerFailNAssert s = .next t ∧ t.store = { s.store with powerLow := true } ∧ alone s t)
      ∧ (∀ c, s.store.commit = some c → c.long = false →
        ∃ t, exec .powerFailNAssert s = .next t
          ∧ t.store = { s.store with powerLow := true, commit := some { c with powerFail := true } } ∧ alone s t)
      ∧ (∀ c, s.store.commit = some c → c.long →
        ∃ t, exec .powerFailNAssert s = .next t
          ∧ t.store = { s.store with powerLow := true, commit := none, waiting := true
                                     queue := { serial := c.serial, entries := c.entries } :: s.store.queue } ∧ alone s t))
    ∧ (∀ (s : State), s.store.powerLow →
      exec .powerFailNAssert s = .next s
      ∧ (∀ c, s.store.commit = some c →
        exec .powerFailNRelease s = .next { s with store := { s.store with powerLow := false } })
      ∧ (holds s → s.store.waiting → spaced s → ∃ t, exec .powerFailNRelease s = .next t ∧ begun s t false ∧ alone s t)
      ∧ (holds s → s.store.waiting → ¬spaced s →
        exec .powerFailNRelease s = .next { s with store := { s.store with powerLow := false } })))
  ∧ (
    ∀ (s : State) (c : Commit), s.store.commit = some c →
      ∃ t, exec .nvFlip s = .next t ∧ t.store.committed = s.store.committed + 1 ∧ t.store.commit = none
        ∧ t.store.done = c.serial ∧ t.store.lastFlip = some s.time.dt
        ∧ t.store.directory.head? = some { number := s.store.committed + 1, logHead := (s.store.logHead + c.logs.length) % 2 ^ 32
                                           records := c.entries.length, flags := b2n c.powerFail + 2 * b2n c.long
                                           dt := s.time.dt / 1000000000 }
        ∧ t.store.logHead = (s.store.logHead + c.logs.length) % 2 ^ 32
        ∧ (c.logs.length ≤ 1920 → ∀ i x, c.logs[i]? = some x → (s.store.logHead + i, x) ∈ t.store.events)
        ∧ ((c.entries.map fun e => e.id).Nodup →
          (∀ e, e ∈ c.entries → ((s.store.rec_ e.id).a.all fun x => decide (x.commit ≤ s.store.committed))
              → ((s.store.rec_ e.id).b.all fun x => decide (x.commit ≤ s.store.committed)) →
            t.store.body e.id = some e.body))
        ∧ (∀ id, (∀ e, e ∈ c.entries → e.id ≠ id) → id ∉ s.store.conflicted → t.store.rec_ id = s.store.rec_ id)
        ∧ (∀ j, s.ccp.jobs = [j] → j.opcode = 0x0901 → u64 j.args 0 ≤ c.serial → s.carries j →
          t.ccp.jobs = [] ∧ (t.mailbox j.key).state = .done ∧ (t.mailbox j.key).status = stOk
            ∧ (t.mailbox j.key).payload = le 8 (s.store.committed + 1))
        ∧ t = s.protocol t)

/-! ## Check-value units -/

/-- CVU_START, CVU_ABORT and the end of a scan (R494 to R501, R503): a start takes the options and begins the scan, a scan that
cannot start ends with CONFIG_ERROR, one of length 0 is COMPLETE at once, and a second start is ignored and noted; an end
clears CVU_BUSY, sets CVU_DONE and the end code, and compares the result at COMPLETE; the value is that of the bytes
consumed, and a computation may be split between scans. CVU_SCAN (R504): the CVU that is named, or the lowest idle one of
CVU2 to CVU7, is held until the end of the scan, with its registers as the payload gives them; a busy one is UNIT_BUSY, and
none idle is NO_CAPACITY; a scan of length 0 answers at once. -/
def Obligations.CheckUnitsScan : Prop :=
  (
    let ended := fun (x : Cvu) (code : Nat) =>
      let met := x.result == x.expect % 2 ^ x.width
      let y : Cvu := { x with busy := false, done := true, endCode := code, holder := none
                              matched := x.compare && code == 1 && met
                              irq := x.irq || x.irqDone || (x.irqMismatch && x.compare && code == 1 && !met) }
      y
    (∀ (fw : Bool) (n ctrl : Nat) (s : State), (if fw then n < 2 else 2 ≤ n ∧ n < 8) →
      let x := s.cvu n
      let y : Cvu := { x with ctrl := ctrl / 4 % 16 }
      let z : Cvu := { y with done := false, matched := false, progress := 0, busy := true, endCode := 0
                              value := if bit y.ctrl 0 then x.init else x.value }
      (x.holder.isSome → exec (.cvuStart fw n ctrl) s = .next (s.setCvu n { x with ignored := true }))
      ∧ (x.holder = none → x.busy → exec (.cvuStart fw n ctrl) s = .next (s.setCvu n { y with ignored := true }))
      ∧ (x.holder = none → x.busy = false →
        (s.scanOk x.space x.width x.addr x.length = false →
          ∃ t, exec (.cvuStart fw n ctrl) s = .next t ∧ t.cvu n = ended y 4
            ∧ t = { s.setCvu n (t.cvu n) with events := t.events })
        ∧ (s.scanOk x.space x.width x.addr x.length → 0 < x.length →
          ∃ t, exec (.cvuStart fw n ctrl) s = .next t ∧ t.cvu n = z ∧ t = s.setCvu n z)
        ∧ (s.scanOk x.space x.width x.addr x.length → x.length = 0 →
          ∃ t, exec (.cvuStart fw n ctrl) s = .next t ∧ t.cvu n = ended z 1
            ∧ t = { s.setCvu n (t.cvu n) with events := t.events })))
    ∧ (∀ (fw : Bool) (n ctrl k : Nat) (data : Bytes) (s : State), ¬(if fw then n < 2 else 2 ≤ n ∧ n < 8) →
      exec (.cvuStart fw n ctrl) s = .next s ∧ exec (.cvuAbort fw n k data) s = .next s)
    ∧ (∀ (fw : Bool) (n k : Nat) (data : Bytes) (s : State), (if fw then n < 2 else 2 ≤ n ∧ n < 8) →
      let x := s.cvu n
      let bs := (s.scanBytes x data).take k
      (x.busy → x.holder = none →
        ∃ t, exec (.cvuAbort fw n k data) s = .next t
          ∧ t.cvu n = ended { x with value := crcRun x.width x.poly x.refin (x.value % 2 ^ x.width) bs, progress := bs.length }
              (if x.length ≤ k then 1 else 2)
          ∧ t = { s.setCvu n (t.cvu n) with events := t.events })
      ∧ (x.busy → x.holder.isSome → exec (.cvuAbort fw n k data) s = .next (s.setCvu n { x with ignored := true }))
      ∧ (x.busy = false → exec (.cvuAbort fw n k data) s = .next s))
    ∧ (∀ (n : Nat) (data : Bytes) (err : Option Nat) (s : State),
      let x := s.cvu n
      let bs := (s.scanBytes x data).take (err.getD x.length)
      let y := ended { x with value := crcRun x.width x.poly x.refin (x.value % 2 ^ x.width) bs, progress := bs.length }
        (if err.isNone then 1 else 3)
      (x.busy → x.holder = none →
        ∃ t, exec (.cvuScanEnd n data err) s = .next t ∧ t.cvu n = y ∧ t = { s.setCvu n y with events := t.events })
      ∧ (x.busy → ∀ j, x.holder = some j.jsn → s.ccp.jobs = [j] → s.carries j →
        ∃ t, exec (.cvuScanEnd n data err) s = .next t ∧ t.cvu n = y
          ∧ (t.mailbox j.key).state = .done ∧ (t.mailbox j.key).status = stOk ∧ t.ccp.jobs = []
          ∧ (t.mailbox j.key).payload
            = le 1 n ++ le 1 y.endCode ++ le 1 (b2n y.matched) ++ zeros 5 ++ le 8 y.value ++ le 8 y.result
          ∧ t = (s.setCvu n y).protocol t)
      ∧ (x.busy = false → exec (.cvuScanEnd n data err) s = .next s))
    ∧ (∀ (w p v : Nat) (refin : Bool) (a b : Bytes), crcRun w p refin v (a ++ b) = crcRun w p refin (crcRun w p refin v a) b)
    ∧ (∀ (s : State) (x : Cvu) (data : Bytes), (s.scanBytes x data).length = x.length))
  ∧ (
    ∀ (r : Request) (s : State), cvuScan.executes r s →
      let p := r.payload
      let x := cvuScan.work r s
      (u8 p 0 = 255 → (∀ n, 2 ≤ n → n < 8 → (s.cvu n).busy) →
        ∃ t, exec (.cvuScan r) s = .next t ∧ t.answered r stNoCapacity x.jsn ∧ t = s.protocol t)
      ∧ (u8 p 0 ≠ 255 → (s.cvu (u8 p 0)).busy →
        ∃ t, exec (.cvuScan r) s = .next t ∧ t.answered r stUnitBusy x.jsn ∧ t = s.protocol t)
      ∧ (∀ n, 2 ≤ n → n < 8 → (s.cvu n).busy = false →
        (u8 p 0 = 255 → ∀ k, k < n → 2 ≤ k → (s.cvu k).busy) → (u8 p 0 ≠ 255 → u8 p 0 = n) →
        (0 < u64 p 40 →
          ∃ t, exec (.cvuScan r) s = .next t ∧ t.worksOn cvuScan r s
            ∧ (t.cvu n).busy ∧ (t.cvu n).done = false ∧ (t.cvu n).holder = some x.jsn ∧ (t.cvu n).progress = 0
            ∧ (t.cvu n).space = u8 p 1 ∧ (t.cvu n).width = u8 p 2 ∧ (t.cvu n).refin = bit (u8 p 3) 0
            ∧ (t.cvu n).refout = bit (u8 p 3) 1 ∧ (t.cvu n).compare = bit (u8 p 3) 3 ∧ (t.cvu n).poly = u64 p 8
            ∧ (t.cvu n).value = u64 p 16 ∧ (t.cvu n).xorout = u64 p 24 ∧ (t.cvu n).addr = u64 p 32
            ∧ (t.cvu n).length = u64 p 40 ∧ (t.cvu n).expect = u64 p 48
            ∧ t = { s.protocol t with cvus := (s.setCvu n (t.cvu n)).cvus })
        ∧ (u64 p 40 = 0 →
          ∃ t, exec (.cvuScan r) s = .next t ∧ t.answered r stOk x.jsn
            ∧ (t.cvu n).busy = false ∧ (t.cvu n).done ∧ (t.cvu n).endCode = 1 ∧ (t.cvu n).value = u64 p 16
            ∧ t = { s.protocol t with cvus := (s.setCvu n (t.cvu n)).cvus })))

/-! ## Health, tests and dimming -/

/-- Fencing (R468 to R470, R529 to R532): UNIT_FENCE waits for its effect point, where the unit is fenced with cause 2; a hard
fault fences at once with cause 0, but never the last CPC core, and ends a test of the unit; a fenced stack leaves the map,
its contents are lost and its surfaces are no longer ready; UNIT_UNFENCE tests first, and of a stack it is kept for the next
start; a policy is set at acceptance. -/
def Obligations.UnitsAreFencedAndReturned : Prop :=
  (∀ (r : Request) (s : State), unitFence.executes r s →
    let k := u8 r.payload 0
    let i := u16 r.payload 2
    let p : Point := if k = 4 then .dusk else .frameStart
    (s.fenced k i → ∃ t, exec (.unitFence r) s = .next t ∧ t.answered r stUnitFenced (unitFence.work r s).jsn ∧ t = s.protocol t)
    ∧ (s.fenced k i = false → unitFence.mayWait r s p (s.unitTg k i) →
      ∃ t, exec (.unitFence r) s = .next t ∧ t.waitsFor unitFence r s p (s.unitTg k i) ∧ t = s.protocol t))
  ∧ (∀ (r : Request) (s : State), unitUnfence.executes r s →
    let k := u8 r.payload 0
    let i := u16 r.payload 2
    let x := unitUnfence.work r s
    (s.health.fencedSelf k i = false →
      ∃ t, exec (.unitUnfence r) s = .next t ∧ t.answered r stOk x.jsn ∧ t = s.protocol t)
    ∧ (s.health.fencedSelf k i → k = 4 →
      ∃ t, exec (.unitUnfence r) s = .next t ∧ t.answered r stOk x.jsn ∧ i ∈ t.health.unfencing
        ∧ t.health.fences = s.health.fences ∧ t = { s.protocol t with health := { s.health with unfencing := t.health.unfencing } })
    ∧ (s.health.fencedSelf k i → k ≠ 4 → s.testOf k i = none →
      ∃ t, exec (.unitUnfence r) s = .next t ∧ t.worksOn unitUnfence r s
        ∧ t.health = { s.health with tests := s.health.tests ++
            [{ cls := k, idx := i, code := testCode k, jsn := x.jsn, auto := false, running := true, due := none }] }
        ∧ t = { s.protocol t with health := t.health })
    ∧ (s.health.fencedSelf k i → k ≠ 4 → s.testOf k i ≠ none →
      ∃ t, exec (.unitUnfence r) s = .next t ∧ t.answered r stUnitBusy x.jsn ∧ t = s.protocol t))
  ∧ (∀ (jsn : Nat) (e : Sched) (s : State), (s.ccp.schedule.find? fun x => x.jsn == jsn && x.opcode == 0x0B01) = some e →
    s.health.fencedSelf (u8 e.args 0) (u16 e.args 2) = false →
    ∃ t, exec (.commandedFenceEffect jsn) s = .next t
      ∧ t.health.fences = s.health.fences ++ [{ cls := u8 e.args 0, idx := u16 e.args 2, cause := 2 }]
      ∧ (∀ x, x ∈ t.ccp.schedule → ¬(x.jsn = e.jsn ∧ x.effect = e.effect))
      ∧ (u8 e.args 0 = 8 → t = { s.protocol t with health := { s.health with fences := t.health.fences } }))
  ∧ (∀ (jsn : Nat) (x : UnitTest) (d : Nat × Nat × Nat) (j : Job) (s : State),
    (∀ e, e ∈ s.ccp.schedule → e.jsn ≠ jsn) → s.health.tests = [x] → x.jsn = jsn → x.due = some d → x.cls = 8 →
    s.ccp.jobs = [j] → j.jsn = jsn → s.carries j →
    ∃ t, exec (.commandedFenceEffect jsn) s = .next t ∧ t.health.tests = []
      ∧ t.health.fences = s.health.fences.filter (fun f => !(f.cls == 8 && f.idx == x.idx))
      ∧ (t.mailbox j.key).state = .done ∧ (t.mailbox j.key).status = stOk ∧ (t.mailbox j.key).effect = some ⟨d.1, d.2.1, d.2.2⟩
      ∧ t.ccp.jobs = [])
  ∧ (∀ (c i : Nat) (s : State),
    (c = 0 ∨ 8 < c ∨ s.present c i = false → exec (.hardFaultFence c i) s = .next s)
    ∧ (1 ≤ c → c ≤ 8 → s.present c i → s.testOf c i = none → s.health.fencedSelf c i = false → (c = 8 → s.lastOne 8 i = false) →
      ∃ t, exec (.hardFaultFence c i) s = .next t
        ∧ t.health.fences = s.health.fences ++ [{ cls := c, idx := i, cause := 0 }]
        ∧ (c = 8 → t = { s.protocol t with health := { s.health with fences := t.health.fences } }))
    ∧ (c = 8 → s.present 8 i → s.testOf 8 i = none → s.lastOne 8 i →
      ∃ t, exec (.hardFaultFence c i) s = .next t ∧ t = s.protocol t))
  ∧ (∀ (k : Nat) (s : State), s.present 5 k → s.testOf 5 k = none → s.health.fencedSelf 5 k = false →
    (∃ t, exec (.codingCoreFault k) s = .next t
      ∧ t.health.fences = s.health.fences ++ [{ cls := 5, idx := k, cause := 0 }])
    ∧ (∃ t, exec (.decoderCoreFault k) s = .next t
      ∧ t.health.fences = s.health.fences ++ [{ cls := 5, idx := k, cause := 0 }]))
  ∧ (∀ (h : Nat) (s : State), s.present 4 h → s.testOf 4 h = none → s.health.fencedSelf 4 h = false →
    (s.pictures.surfaces.map fun e => e.1).Pairwise (· < ·) →
    ∃ t, exec (.hbmStackFenced h) s = .next t
      ∧ t.health.fences = s.health.fences ++ [{ cls := 4, idx := h, cause := 0 }]
      ∧ (t.stack h).mapped = false ∧ h ∉ t.mapStacks ∧ t.memory.hbm = [] ∧ t.memory.rebuilding ∧ t.journal.newChain
      ∧ (∀ e, e ∈ t.pictures.surfaces → e.2.ready = false ∧ e.2.addr + e.2.size ≤ t.hbmEnd)
      ∧ (t.mapStacks = [] → t.boot.stage = 0x12))
  ∧ (∀ (s : State), exec .hbmRebuildComplete s = .next { s with memory := { s.memory with rebuilding := false } })
  ∧ (∀ (r : Request) (s : State), fencePolicySet.executes r s →
    let k := u8 r.payload 0
    (∀ h, h ∈ s.health.hits → h.1 ≠ k) →
    ∃ t, exec (.fencePolicySet r) s = .next t ∧ t.answered r stOk (fencePolicySet.work r s).jsn
      ∧ t.health = { s.health with
          policies := tabPut s.health.policies k { threshold := u32 r.payload 4, window := u32 r.payload 8 } }
      ∧ t = { s.protocol t with health := t.health })

/-- Tests in service (R526 to R528, R531): UNIT_TEST holds an idle unit until its result; on a unit that carries work it is
UNIT_BUSY, or with AUTO_FENCE the work moves to a spare, the unit is fenced with cause 3 and tested, and it returns on PASS
and stays fenced as on a hard fault on FAIL; the test of UNIT_UNFENCE sets the return on PASS and is UNIT_FENCED on FAIL. -/
def Obligations.UnitTestsHoldMoveAndReturn : Prop :=
  (∀ (r : Request) (s : State), unitTest.executes r s →
    let k := u8 r.payload 0
    let i := u16 r.payload 2
    let x := unitTest.work r s
    let b := unitTest.taken r s
    let auto := flagAutoFence x.flags
    let held := fun movesAway : Bool => s.health.tests ++
      [{ cls := k, idx := i, code := u8 r.payload 4, jsn := x.jsn, auto := movesAway, running := !movesAway, due := none }]
    (s.fenced k i → ∃ t, exec (.unitTest r) s = .next t ∧ t.answered r stUnitFenced x.jsn ∧ t = s.protocol t)
    ∧ (s.fenced k i = false → k ≠ 4 → s.testOf k i = none → b.unitWork k i = false →
      ∃ t, exec (.unitTest r) s = .next t ∧ t.worksOn unitTest r s ∧ t.health = { s.health with tests := held false }
        ∧ (k ≠ 1 → t = { s.protocol t with health := t.health }))
    ∧ (s.fenced k i = false → k ≠ 4 → s.testOf k i = none → b.unitWork k i → auto = false →
      ∃ t, exec (.unitTest r) s = .next t ∧ t.answered r stUnitBusy x.jsn ∧ t = s.protocol t)
    ∧ (s.fenced k i = false → k ≠ 4 → s.testOf k i = none → b.unitWork k i → auto → b.hasSpare k i = false →
      ∃ t, exec (.unitTest r) s = .next t ∧ t.answered r stNoCapacity x.jsn ∧ t = s.protocol t)
    ∧ (s.fenced k i = false → k ≠ 4 → s.testOf k i = none → b.unitWork k i → auto → b.hasSpare k i →
      ∃ t, exec (.unitTest r) s = .next t ∧ t.worksOn unitTest r s ∧ t.health = { s.health with tests := held true }
        ∧ t = { s.protocol t with health := t.health }))
  ∧ (∀ (c i : Nat) (x : UnitTest) (s : State), s.testOf c i = some x → x.auto → x.running = false →
    s.health.fencedSelf c i = false →
    ∃ t, exec (.autoFenceMove c i) s = .next t
      ∧ t.health.fences = s.health.fences ++ [{ cls := c, idx := i, cause := 3 }]
      ∧ t.testOf c i = some { x with running := true }
      ∧ (c = 8 → t = { s.protocol t with health := { s.health with fences := t.health.fences, tests := t.health.tests } }))
  ∧ (∀ (i : Nat) (pass : Bool) (failing : Nat) (x : UnitTest) (j : Job) (s : State), s.health.tests = [x] → x.cls = 8 → x.idx = i →
    x.running → s.ccp.jobs = [j] → j.jsn = x.jsn → s.carries j →
    let result := le 1 (b2n (!pass)) ++ zeros 3 ++ le 4 (if x.auto && pass then 0 else failing)
    (x.auto = false → j.opcode = 0x0B03 → ∃ t, exec (.unitTestComplete 8 i pass failing) s = .next t
      ∧ (t.mailbox j.key).state = .done ∧ (t.mailbox j.key).status = stOk ∧ (t.mailbox j.key).payload = result
      ∧ t.health = { s.health with tests := [] } ∧ t = { s.protocol t with health := t.health })
    ∧ (x.auto → ∃ t, exec (.unitTestComplete 8 i pass failing) s = .next t
      ∧ (t.mailbox j.key).state = .done ∧ (t.mailbox j.key).status = stOk ∧ (t.mailbox j.key).payload = result
      ∧ t.health.tests = []
      ∧ t.health.fences = (if pass then s.health.fences.filter fun f => !(f.cls == 8 && f.idx == i)
          else s.health.fences.map fun f => if f.cls = 8 ∧ f.idx = i then { f with cause := 0 } else f))
    ∧ (x.auto = false → j.opcode = 0x0B02 → pass = false → ∃ t, exec (.unitTestComplete 8 i pass failing) s = .next t
      ∧ (t.mailbox j.key).state = .done ∧ (t.mailbox j.key).status = stUnitFenced ∧ t.health = { s.health with tests := [] }
      ∧ t = { s.protocol t with health := t.health })
    ∧ (x.auto = false → j.opcode = 0x0B02 → pass → ∃ t, exec (.unitTestComplete 8 i pass failing) s = .next t
      ∧ (t.health.tests.map fun y => { y with due := none }) = [{ x with running := false, due := none }]
      ∧ t.health.tests.all (fun y => y.due.isSome)
      ∧ t.ccp = s.ccp ∧ t = { s with health := { s.health with tests := t.health.tests } }))

/-- The thermal policy (R425, R426, R533, R534): at 100.0 °C the first step is in force and each 2 °C adds one; at 110.0 °C the
device in full function enters retreat, which stops its media units; a step is left at 1 °C below its entry; the retreat is
left at 100 °C; at 120 °C the device trips. -/
def Obligations.ThermalStepsRetreatAndTrip : Prop :=
  (∀ (tj : Int) (s : State), s.fwRunning →
    let n := if tj < 1000 then 0 else ((tj - 1000) / 20).toNat + 1
    let h := { s.health with tj, tjPeak := max s.health.tjPeak tj }
    (n ≤ s.health.steps → exec (.thermalSample tj) s = .next { s with health := h })
    ∧ (s.health.steps < n → tj < 1100 →
      ∃ t, exec (.thermalSample tj) s = .next t ∧ t.health = { h with steps := n } ∧ t = { s.protocol t with health := t.health })
    ∧ (s.health.steps < n → 1100 ≤ tj → s.boot.stage = 7 → s.health.tests = [] →
      ∃ t, exec (.thermalSample tj) s = .next t ∧ t.health = { h with steps := n } ∧ t.boot.retreat ∧ t.boot.stage = 0x13
        ∧ t.signals.syncs = [] ∧ (∀ e, e ∈ t.conversion.pipes → e.2.core = none)
        ∧ (∀ e, e ∈ t.coding.encs → e.2.closed ∨ e.2.stopped) ∧ (∀ e, e ∈ t.coding.decs → e.2.state = .stopped)))
  ∧ (∀ (s : State), s.fwRunning →
    let n := s.health.steps
    (0 < n → s.health.tj ≤ 980 + 20 * n - 10 →
      ∃ t, exec .thermalStepLeft s = .next t ∧ t.health = { s.health with steps := n - 1 }
        ∧ t = { s.protocol t with health := t.health })
    ∧ (n = 0 ∨ 980 + 20 * n - 10 < s.health.tj → exec .thermalStepLeft s = .next s))
  ∧ (∀ (s : State),
    (s.boot.retreat → s.health.tripped = false → s.health.tj ≤ 1000 →
      ∃ t, exec .thermalRetreatExit s = .next t ∧ t.boot.retreat = false ∧ t.boot.stage = 7)
    ∧ (s.boot.retreat = false ∨ s.health.tripped ∨ 1000 < s.health.tj → exec .thermalRetreatExit s = .next s))
  ∧ (∀ (tj : Int) (s : State), s.boot.porstN → s.health.tripped = false →
    (1200 ≤ tj → ∃ t, exec (.thermalTrip tj) s = .next t
      ∧ t.health = { s.health with tj, tjPeak := max s.health.tjPeak tj, trips := s.health.trips + 1, tripped := true }
      ∧ t = { s with health := t.health, boot := { s.boot with passes := [], pcieUp := false }, events := t.events })
    ∧ (tj < 1200 → exec (.thermalTrip tj) s = .next s))

/-- The event rings (R91, R94, R523, R524, R549): EVENT_ROUTE_SET sets a ring's watermark and masks; enabling a ring starts its
producer at the consumer, or sets EVR_CONFIG_ERROR; a consumer value beyond the records is refused and noted; moderation is
set within its range, and its holdoff signals the vector; a ring of the other function is out of reach. Event records (R520
to R522): CRITICAL records are written while the ring has room and held when it is full, MINOR and MAJOR are dropped and
INFO and TRACE replaced above their fills; a coalescing window of 100 ms closes with one record of its further occurrences;
what was replaced or dropped is written as summaries, and the oldest held CRITICAL record as room comes. -/
def Obligations.EventsReachTheirRings : Prop :=
  (
    (∀ (r : Request) (s : State), eventRouteSet.executes r s →
      let k := u8 r.payload 0
      ∃ t, exec (.eventRouteSet r) s = .next t ∧ t.answered r stOk (eventRouteSet.work r s).jsn
        ∧ (t.ring k).watermark = u8 r.payload 1 ∧ (t.ring k).mask = u8 r.payload 2 ∧ (t.ring k).trace = u32 r.payload 4
        ∧ t = s.protocol t)
    ∧ (∀ (v : View) (k value count hold : Nat) (s : State), (if v = .pf0 then 2 < k else k ≠ 3) →
      exec (.evrEnable v k) s = .next s ∧ exec (.evrDisable v k) s = .next s ∧ exec (.evrConsumerWrite v k value) s = .next s
        ∧ exec (.evrModerationWrite v k count hold) s = .next s)
    ∧ (∀ (v : View) (k : Nat) (s : State), (if v = .pf0 then k ≤ 2 else k = 3) →
      let x := s.ring k
      let ok := 6 ≤ x.sizeLog ∧ x.sizeLog ≤ 16 ∧ x.base % 4096 = 0 ∧ x.writeback % 4096 = 0
      (x.enabled = false → ok → s.events.toBoot = false →
        exec (.evrEnable v k) s = .next (s.setRing k { x with enabled := true, producer := x.consumer, backIndex := x.consumer }))
      ∧ (x.enabled = false → ok → s.events.toBoot →
        ∃ t, exec (.evrEnable v k) s = .next t ∧ t.events.toBoot = false ∧ t.events.boot.records = []
          ∧ t = { s with events := t.events })
      ∧ (x.enabled = false → ¬ok → exec (.evrEnable v k) s = .next (s.setRing k { x with configError := true }))
      ∧ (x.enabled → exec (.evrEnable v k) s = .next s)
      ∧ exec (.evrDisable v k) s = .next (s.setRing k { x with enabled := false })
      ∧ (∀ value, exec (.evrConsumerWrite v k value) s = .next (s.setRing k
          (if value < 2 ^ 32 ∧ (x.producer + 2 ^ 32 - value) % 2 ^ 32 ≤ 2 ^ x.sizeLog then { x with consumer := value }
           else { x with consumerInvalid := true })))
      ∧ (∀ count hold, exec (.evrModerationWrite v k count hold) s = .next (s.setRing k
          (if 1 ≤ count ∧ count ≤ 1024 ∧ hold ≤ 1000 then { x with modCount := count, holdoff := hold }
           else { x with configError := true }))))
    ∧ (∀ (k : Nat) (s : State), k < 4 →
      let x := s.ring k
      (0 < x.unsignalled → 0 < x.holdoff → ∃ t, exec (.moderationHoldoffExpiry k) s = .next t
        ∧ t.ring k = { x with unsignalled := 0, signals := x.signals + 1 }
        ∧ t.events.msix = msixSignal s.events.msix (if k = 3 then 68 else 16 + k)
        ∧ t = { s with events := { (s.setRing k (t.ring k)).events with msix := t.events.msix } })
      ∧ (x.unsignalled = 0 ∨ x.holdoff = 0 → exec (.moderationHoldoffExpiry k) s = .next s)))
  ∧ (
    (∀ (x : Ring) (v : Nat),
      let full := x.enabled = false ∨ x.size ≤ x.fill
      x.verdict v = if v = 0 then (if full then .held else .written)
        else if v ≤ 2 then (if full ∨ x.size * 15 ≤ x.fill * 16 then .dropped else .written)
        else (if full ∨ x.size * x.watermark ≤ x.fill * 100 then .replaced else .written))
    ∧ (∀ (n : EventName) (src : Src) (f : Option Nat) (s : State),
      ((s.events.windows.find? fun w => w.name == n && w.src == src) = none →
        exec (.coalesceWindowClose n src f) s = .next s)
      ∧ (∀ w, (s.events.windows.find? fun w => w.name == n && w.src == src) = some w →
        (s.time.dt < w.opened + 100000000 → exec (.coalesceWindowClose n src f) s = .next s)
        ∧ (w.opened + 100000000 ≤ s.time.dt →
          (w.count = 0 → exec (.coalesceWindowClose n src f) s = .next { s with events := { s.events with
              windows := s.events.windows.filter fun x => !(x.name == n && x.src == src) } })
          ∧ (0 < w.count → f = none →
            let ev := { s.events with windows := s.events.windows.filter fun x => !(x.name == n && x.src == src) }
            exec (.coalesceWindowClose n src f) s = .next { s with events := ev.send .pf0 { w.last with
              count := min 65535 w.count, flags := 2 + (if 65535 < w.count then 4 else 0) } }))))
    ∧ (∀ (k : Nat) (a : Summary) (s : State), k < 4 → (s.ring k).summaries = [a] →
      let x := s.ring k
      (x.verdict a.severity = .written → (a.dropped → x.fill * 16 < x.size * 15) →
        ∃ t, exec (.eventSummary k false) s = .next t ∧ (t.ring k).summaries = []
          ∧ (t.ring k).producer = (x.producer + 1) % 2 ^ 32
          ∧ (t.ring k).records.getLast? = some { name := .eventSummary, severity := a.severity, src := ⟨a.cls, 65535⟩
                                                 count := min 65535 a.count, dt := s.time.dt, frame := 0, line := 0, tg := 255
                                                 flags := 1, detail := a.count % 2 ^ 32 }
          ∧ t.events.summariesWritten = s.events.summariesWritten + 1
          ∧ t = { s with events := { (s.setRing k (t.ring k)).events with
              msix := t.events.msix, summariesWritten := t.events.summariesWritten } })
      ∧ (x.verdict a.severity ≠ .written ∨ (a.dropped ∧ x.size * 15 ≤ x.fill * 16) →
        ∃ t, exec (.eventSummary k false) s = .next t ∧ t.ring k = x ∧ t = s.setRing k x))
    ∧ (∀ (k : Nat) (s : State), k < 4 →
      let x := s.ring k
      (x.verdict 0 = .held → exec (.heldCriticalWrite k false) s = .next s)
      ∧ (x.verdict 0 = .written → ∀ e q, x.queue = e :: q →
        ∃ t, exec (.heldCriticalWrite k false) s = .next t ∧ (t.ring k).queue = q
          ∧ (t.ring k).records.getLast? = some e ∧ (t.ring k).producer = (x.producer + 1) % 2 ^ 32
          ∧ (t.ring k).holding = !(q.isEmpty && x.slots.isEmpty)
          ∧ t = { s with events := { (s.setRing k (t.ring k)).events with msix := t.events.msix } })))

/-! ## Registers -/

/-- Accesses of the control fabric (R539, R544, R545, R550, R567): a read of HRT_DT_LO or of a group's HRT_TG_FRAME returns it
and latches the rest for its master, so that HRT_DT_HI and HRT_TG_LINE read with it later; an undecoded access is a fault
entry with cause DECODE that reads zero; a forced lock release is one with cause LOCK and is counted; a JTAG instruction
other than BYPASS, IDCODE and SAMPLE acts as BYPASS in service. -/
def Obligations.FabricReadsLatchAndFaultsAreLogged : Prop :=
  let logged := fun (s t : State) (addr master cause : Nat) (write : Bool) =>
    t.regs.faults = { addr := addr % 2 ^ 40, master, cause, write, seq := (s.regs.faultCount + 1) % 2 ^ 14 } :: s.regs.faults.take 15
      ∧ t.regs.faultCount = (s.regs.faultCount + 1) % 2 ^ 64
  (∀ (m n : Nat) (s : State), s.masterOn m → (m = 4 ∨ m = 5 → s.fwRunning) → n ≤ 8 →
    (∃ t, exec (.hrtDtLoRead m n) s = .next t
      ∧ t.regs.lastRead = le n (s.time.dt % 1000000000 + s.time.dt / 1000000000 % 2 ^ 32 * 2 ^ 32)
      ∧ t.readReg m ⟨.houseTime, 0, 1⟩ = s.time.dt / 1000000000 / 2 ^ 32 % 2 ^ 16
      ∧ (∀ k, k ≠ m → t.latch k = s.latch k)
      ∧ t = { s with regs := { s.regs with lastRead := t.regs.lastRead, latches := t.regs.latches } })
    ∧ (∀ g, g < 8 → (s.tg g).enabled →
      ∃ t, exec (.hrtTgFrameRead m g n) s = .next t ∧ t.regs.lastRead = le n ((s.tg g).pos.frame % 2 ^ 48)
        ∧ t.readReg m ⟨.group, g, 3⟩ = (s.tg g).pos.line % 2 ^ 16 + (s.tg g).pos.sample % 2 ^ 16 * 2 ^ 16
        ∧ (∀ k, k ≠ m → t.latch k = s.latch k)
        ∧ t = { s with regs := { s.regs with lastRead := t.regs.lastRead, latches := t.regs.latches } }))
  ∧ (∀ (m n g : Nat) (s : State), s.masterOn m = false →
    exec (.hrtDtLoRead m n) s = .next s ∧ exec (.hrtTgFrameRead m g n) s = .next s)
  ∧ (∀ (m addr n : Nat) (s : State),
    (∃ t, exec (.decodeErrorAccess m addr n false) s = .next t ∧ logged s t addr m 1 false ∧ t.regs.lastRead = zeros n
      ∧ t = { s with regs := t.regs, events := t.events })
    ∧ (∃ t, exec (.decodeErrorAccess m addr n true) s = .next t ∧ logged s t addr m 1 true ∧ t.regs.lastRead = s.regs.lastRead
      ∧ t = { s with regs := t.regs, events := t.events }))
  ∧ (∀ (m addr : Nat) (write : Bool) (s : State),
    (m ≤ 3 ∨ m = 8 → ∃ t, exec (.lockForcedRelease m addr write) s = .next t ∧ logged s t addr m 2 write
      ∧ t.regs.lockReleases = (s.regs.lockReleases + 1) % 2 ^ 64 ∧ t = { s with regs := t.regs, events := t.events })
    ∧ (3 < m → m ≠ 8 → exec (.lockForcedRelease m addr write) s = .next s))
  ∧ (∀ (i : JtagInstr) (s : State),
    let e := if s.boot.porstN ∧ i ≠ .bypass ∧ i ≠ .idcode ∧ i ≠ .sample then JtagInstr.bypass else i
    ∃ t, exec (.jtagTapOperation i) s = .next t ∧ t.regs.jtag = e
      ∧ (e = .idcode → t.regs.lastRead = le 4 s.part.idcode) ∧ (e ≠ .idcode → t.regs.lastRead = s.regs.lastRead)
      ∧ t = { s with regs := { s.regs with jtag := e, lastRead := t.regs.lastRead } })

/-- Register writes (R538, R541, R542): a direct write of 8 bytes to a lockable register sets it and is recorded, unless the
register lock is set, the value is out of range or the write log is full, when it is dropped and logged with the cause; a
write that is not of whole halves is dropped with cause WIDTH; a view writes its own registers only. -/
def Obligations.RegisterWritesReachTheirOwn : Prop :=
  let fault := fun (s t : State) (off master cause : Nat) =>
    t.regs.faults.head? = some { addr := off % 2 ^ 40, master, cause, write := true, seq := (s.regs.faultCount + 1) % 2 ^ 14 }
      ∧ t = { s with regs := t.regs, events := t.events }
  (∀ (m n v : Nat) (s : State), m ≤ 4 → n < 144 → s.masterOn m → s.fwRunning → v < 2 ^ 64 →
    let off := 0x100000 + 64 * n + 16
    let pre := toSigned 8 (v % 256)
    let post := toSigned 8 (v / 256 % 256)
    let swing := v / 65536 % 16
    let ok := (s.quad (n / 4)).protocol ≠ 0 ∧ -16 ≤ pre ∧ pre ≤ 0 ∧ -26 ≤ post ∧ post ≤ 0 ∧ swing ≤ 12
    (m = 4 → s.regs.lock → ∃ t, exec (.directConfigWrite m off (le 8 v)) s = .next t ∧ fault s t off m 3)
    ∧ ((m = 4 → s.regs.lock = false) →
      (¬ok → ∃ t, exec (.directConfigWrite m off (le 8 v)) s = .next t ∧ fault s t off m 5)
      ∧ (ok → 64 ≤ s.regs.writeLog.length → ∃ t, exec (.directConfigWrite m off (le 8 v)) s = .next t ∧ fault s t off m 6)
      ∧ (ok → s.regs.writeLog.length < 64 → ∃ t, exec (.directConfigWrite m off (le 8 v)) s = .next t
        ∧ t.lane n = { s.lane n with pre, post, swing } ∧ (∀ k, k ≠ n → t.lane k = s.lane k)
        ∧ t.regs.writeLog = (if s.journal.swapping
            then s.regs.writeLog ++ [{ view := if m = 4 then 0 else 2, offset := off, value := v, standing := true }] else [])
        ∧ t = { s.protocol t with lanes := t.lanes, regs := { s.regs with writeLog := t.regs.writeLog } })))
  ∧ (∀ (m off : Nat) (data : Bytes) (s : State), 4 < m ∨ lockableAt off = false →
    exec (.directConfigWrite m off data) s = .next s)
  ∧ (∀ (m off : Nat) (data : Bytes) (r : Reg) (s : State), s.masterOn m → (m = 4 ∨ m = 5 → s.fwRunning) →
    (msixAt m off).isNone → bufferAt m off = false →
    (regOf m (off / 8 * 8) = some r → off % 4 ≠ 0 ∨ data.length % 4 ≠ 0 ∨ data = [] →
      ∃ t, exec (.genericRegisterWrite m off data) s = .next t ∧ fault s t off m 4)
    ∧ (regOf m off = none → off % 8 = 0 → data.length = 8 →
      ∃ t, exec (.genericRegisterWrite m off data) s = .next t ∧ fault s t off m 1))
  ∧ (∀ (n v : Nat) (s : State), s.masterOn 4 → s.fwRunning → v < 2 ^ 64 →
    (2 ≤ n → n < 8 → (s.cvu n).holder = none → (s.cvu n).busy = false →
      exec (.genericRegisterWrite 4 (0x340000 + 128 * n + 16) (le 8 v)) s = .next (s.setCvu n { s.cvu n with poly := v }))
    ∧ (n < 2 → exec (.genericRegisterWrite 4 (0x340000 + 128 * n + 16) (le 8 v)) s = .next s)
    ∧ (n < 16 → exec (.genericRegisterWrite 4 (0x010000 + 64 * n + 16) (le 8 v)) s
        = .next (s.setMailbox n { s.mailbox n with intEn := v % 2 == 1 }))
    ∧ (16 ≤ n → n < 20 → exec (.genericRegisterWrite 4 (0x010000 + 64 * n + 16) (le 8 v)) s = .next s)
    ∧ (n < 3 → (s.ring n).enabled = false → exec (.genericRegisterWrite 4 (0x020000 + 128 * n + 8) (le 8 v)) s
        = .next (s.setRing n { s.ring n with base := v / 4096 * 4096 })))
  ∧ (∀ (m off : Nat) (data : Bytes) (s : State), s.masterOn m = false → exec (.genericRegisterWrite m off data) s = .next s)

/-! ## Reset, the shaded view, and what every step keeps -/

/-- The shaded view (R13): a register that is not visible there reads as zero, and a write to it changes nothing, whatever its
access code in the privileged view. -/
def Obligations.TheShadedViewHidesRegisters : Prop :=
  ∀ (off v : Nat) (r : Reg) (s : State), regPf1 off = some r → r.shaded = false → off % 8 = 0 → (msixAt 5 off).isNone →
    bufferAt 5 off = false →
    s.readReg 5 r = 0 ∧ s.readSlot 5 off = 0 ∧ exec (.genericRegisterWrite 5 off (le 8 v)) s = .next s
      ∧ (∀ data, data.length = 4 → exec (.genericRegisterWrite 5 off data) s = .next s
          ∧ exec (.genericRegisterWrite 5 (off + 4) data) s = .next s)
end

