-- ==== Sys2Proof/Laws/Tables.lean ====
section
/-! SUPPORT. Reading a table after a write of it. -/

namespace Sys2Proof.Machine

/-- A table read where it was written gives what was written. -/
@[simp] theorem tabGet_tabPut_self {α : Type} (t : Tab α) (k : Nat) (v d : α) : tabGet (tabPut t k v) k d = v := by
  induction t with
  | nil => simp [tabPut, tabGet]
  | cons e r ih =>
    unfold tabPut
    split
    · simp [tabGet]
    · split
      · simp [tabGet]
      · simp [tabGet, *]

/-- A write of a table leaves every other index alone. -/
@[simp] theorem tabGet_tabPut_other {α : Type} (t : Tab α) (k j : Nat) (v d : α) (h : j ≠ k) :
    tabGet (tabPut t k v) j d = tabGet t j d := by
  induction t with
  | nil => simp [tabPut, tabGet, h]
  | cons e r ih =>
    unfold tabPut
    split
    · simp [tabGet, h]
    · split
      · rename_i _ hk
        subst hk
        simp [tabGet, h]
      · simp [tabGet, ih]

/-- A table searched where it was written gives what was written. -/
theorem tabFind_tabPut_self {α : Type} (t : Tab α) (k : Nat) (v : α) :
    ((tabPut t k v).find? fun e => e.1 == k).map (·.2) = some v := by
  induction t with
  | nil => simp [tabPut]
  | cons e r ih =>
    unfold tabPut
    split
    · simp
    · split
      · simp
      · rename_i _ hk
        have h : (e.1 == k) = false := by simpa using fun h => hk h.symm
        rw [List.find?_cons, h]
        exact ih

/-- A table searched elsewhere than where it was written is as before. -/
theorem tabFind_tabPut_other {α : Type} (t : Tab α) (k j : Nat) (v : α) (h : j ≠ k) :
    ((tabPut t k v).find? fun e => e.1 == j).map (·.2) = (t.find? fun e => e.1 == j).map (·.2) := by
  have hk : (k == j) = false := by simpa using fun e => h e.symm
  induction t with
  | nil => simp [tabPut, hk]
  | cons e r ih =>
    unfold tabPut
    split
    · simp [List.find?_cons, hk]
    · split
      · rename_i _ he
        have h' : (e.1 == j) = false := by rw [← he]; exact hk
        simp [List.find?_cons, hk, h']
      · cases h' : e.1 == j
        · simpa [List.find?_cons, h'] using ih
        · simp [List.find?_cons, h']

/-- A table read of a changed table, where the index was listed or its reset record is fixed by the change. -/
theorem tabGet_tabMap {α : Type} (f : Nat → α → α) (t : Tab α) (k : Nat) (d : α) (h : f k d = d) :
    tabGet (tabMap f t) k d = f k (tabGet t k d) := by
  induction t with
  | nil => simp [tabMap, tabGet, h]
  | cons e r ih =>
    simp only [tabMap, List.map_cons, tabGet] at *
    split
    · rename_i hk; rw [hk]
    · exact ih

end Sys2Proof.Machine
end

