-- ==== Sys2Proof/Laws/State.lean ====
section
/-! SUPPORT. Reading a field, or a record of a table, after an update of the state: one lemma for each field that an update
leaves alone, and two for the record that it stores. -/

namespace Sys2Proof.Machine

/-! ## What the protocol leaves alone -/

@[simp] theorem State.protocol_part (s t : State) : (s.protocol t).part = s.part := rfl
@[simp] theorem State.protocol_time (s t : State) : (s.protocol t).time = s.time := rfl
@[simp] theorem State.protocol_ccp (s t : State) : (s.protocol t).ccp = t.ccp := rfl
@[simp] theorem State.protocol_journal (s t : State) : (s.protocol t).journal = t.journal := rfl
@[simp] theorem State.protocol_events (s t : State) : (s.protocol t).events = t.events := rfl
@[simp] theorem State.protocol_boot (s t : State) : (s.protocol t).boot = s.boot := rfl
@[simp] theorem State.protocol_health (s t : State) : (s.protocol t).health = s.health := rfl
@[simp] theorem State.protocol_lanes (s t : State) : (s.protocol t).lanes = s.lanes := rfl
@[simp] theorem State.protocol_clocks (s t : State) : (s.protocol t).clocks = s.clocks := rfl
@[simp] theorem State.protocol_signals (s t : State) : (s.protocol t).signals = s.signals := rfl
@[simp] theorem State.protocol_routing (s t : State) : (s.protocol t).routing = s.routing := rfl
@[simp] theorem State.protocol_conversion (s t : State) : (s.protocol t).conversion = s.conversion := rfl
@[simp] theorem State.protocol_pictures (s t : State) : (s.protocol t).pictures = s.pictures := rfl
@[simp] theorem State.protocol_panels (s t : State) : (s.protocol t).panels = s.panels := rfl
@[simp] theorem State.protocol_coding (s t : State) : (s.protocol t).coding = s.coding := rfl
@[simp] theorem State.protocol_audio (s t : State) : (s.protocol t).audio = s.audio := rfl
@[simp] theorem State.protocol_cascade (s t : State) : (s.protocol t).cascade = s.cascade := rfl
@[simp] theorem State.protocol_memory (s t : State) : (s.protocol t).memory = s.memory := rfl
@[simp] theorem State.protocol_regs (s t : State) : (s.protocol t).regs = s.regs := rfl
@[simp] theorem State.protocol_cvus (s t : State) : (s.protocol t).cvus = s.cvus := rfl
@[simp] theorem State.protocol_lantern (s t : State) : (s.protocol t).lantern = s.lantern := rfl
@[simp] theorem State.protocol_flash (s t : State) : (s.protocol t).flash = s.flash := rfl
@[simp] theorem State.protocol_store (s t : State) : (s.protocol t).store = t.store := rfl
@[simp] theorem State.protocol_pending (s t : State) : (s.protocol t).pending = s.pending := rfl
@[simp] theorem State.protocol_freeCount (s t : State) : (s.protocol t).freeCount = s.freeCount := rfl

/-! ## State.setMailbox -/

@[simp] theorem State.setMailbox_part (s : State) (k : Nat) (m : Mailbox) : (s.setMailbox k m).part = s.part := rfl
@[simp] theorem State.setMailbox_time (s : State) (k : Nat) (m : Mailbox) : (s.setMailbox k m).time = s.time := rfl
@[simp] theorem State.setMailbox_journal (s : State) (k : Nat) (m : Mailbox) : (s.setMailbox k m).journal = s.journal := rfl
@[simp] theorem State.setMailbox_events (s : State) (k : Nat) (m : Mailbox) : (s.setMailbox k m).events = s.events := rfl
@[simp] theorem State.setMailbox_boot (s : State) (k : Nat) (m : Mailbox) : (s.setMailbox k m).boot = s.boot := rfl
@[simp] theorem State.setMailbox_health (s : State) (k : Nat) (m : Mailbox) : (s.setMailbox k m).health = s.health := rfl
@[simp] theorem State.setMailbox_lanes (s : State) (k : Nat) (m : Mailbox) : (s.setMailbox k m).lanes = s.lanes := rfl
@[simp] theorem State.setMailbox_clocks (s : State) (k : Nat) (m : Mailbox) : (s.setMailbox k m).clocks = s.clocks := rfl
@[simp] theorem State.setMailbox_signals (s : State) (k : Nat) (m : Mailbox) : (s.setMailbox k m).signals = s.signals := rfl
@[simp] theorem State.setMailbox_routing (s : State) (k : Nat) (m : Mailbox) : (s.setMailbox k m).routing = s.routing := rfl
@[simp] theorem State.setMailbox_conversion (s : State) (k : Nat) (m : Mailbox) : (s.setMailbox k m).conversion = s.conversion := rfl
@[simp] theorem State.setMailbox_pictures (s : State) (k : Nat) (m : Mailbox) : (s.setMailbox k m).pictures = s.pictures := rfl
@[simp] theorem State.setMailbox_panels (s : State) (k : Nat) (m : Mailbox) : (s.setMailbox k m).panels = s.panels := rfl
@[simp] theorem State.setMailbox_coding (s : State) (k : Nat) (m : Mailbox) : (s.setMailbox k m).coding = s.coding := rfl
@[simp] theorem State.setMailbox_audio (s : State) (k : Nat) (m : Mailbox) : (s.setMailbox k m).audio = s.audio := rfl
@[simp] theorem State.setMailbox_cascade (s : State) (k : Nat) (m : Mailbox) : (s.setMailbox k m).cascade = s.cascade := rfl
@[simp] theorem State.setMailbox_memory (s : State) (k : Nat) (m : Mailbox) : (s.setMailbox k m).memory = s.memory := rfl
@[simp] theorem State.setMailbox_regs (s : State) (k : Nat) (m : Mailbox) : (s.setMailbox k m).regs = s.regs := rfl
@[simp] theorem State.setMailbox_cvus (s : State) (k : Nat) (m : Mailbox) : (s.setMailbox k m).cvus = s.cvus := rfl
@[simp] theorem State.setMailbox_lantern (s : State) (k : Nat) (m : Mailbox) : (s.setMailbox k m).lantern = s.lantern := rfl
@[simp] theorem State.setMailbox_flash (s : State) (k : Nat) (m : Mailbox) : (s.setMailbox k m).flash = s.flash := rfl
@[simp] theorem State.setMailbox_store (s : State) (k : Nat) (m : Mailbox) : (s.setMailbox k m).store = s.store := rfl
@[simp] theorem State.setMailbox_pending (s : State) (k : Nat) (m : Mailbox) : (s.setMailbox k m).pending = s.pending := rfl
@[simp] theorem State.setMailbox_freeCount (s : State) (k : Nat) (m : Mailbox) : (s.setMailbox k m).freeCount = s.freeCount := rfl
@[simp] theorem State.setMailbox_mailbox (s : State) (k : Nat) (m : Mailbox) : (s.setMailbox k m).mailbox k = m := by
  simp [State.setMailbox, State.mailbox]
@[simp] theorem State.setMailbox_mailbox_other (s : State) (k : Nat) (m : Mailbox) (j : Nat) (h : j ≠ k) : (s.setMailbox k m).mailbox j = s.mailbox j := by
  simp [State.setMailbox, State.mailbox, h]

/-! ## State.setTg -/

@[simp] theorem State.setTg_part (s : State) (k : Nat) (m : Tg) : (s.setTg k m).part = s.part := rfl
@[simp] theorem State.setTg_ccp (s : State) (k : Nat) (m : Tg) : (s.setTg k m).ccp = s.ccp := rfl
@[simp] theorem State.setTg_journal (s : State) (k : Nat) (m : Tg) : (s.setTg k m).journal = s.journal := rfl
@[simp] theorem State.setTg_events (s : State) (k : Nat) (m : Tg) : (s.setTg k m).events = s.events := rfl
@[simp] theorem State.setTg_boot (s : State) (k : Nat) (m : Tg) : (s.setTg k m).boot = s.boot := rfl
@[simp] theorem State.setTg_health (s : State) (k : Nat) (m : Tg) : (s.setTg k m).health = s.health := rfl
@[simp] theorem State.setTg_lanes (s : State) (k : Nat) (m : Tg) : (s.setTg k m).lanes = s.lanes := rfl
@[simp] theorem State.setTg_clocks (s : State) (k : Nat) (m : Tg) : (s.setTg k m).clocks = s.clocks := rfl
@[simp] theorem State.setTg_signals (s : State) (k : Nat) (m : Tg) : (s.setTg k m).signals = s.signals := rfl
@[simp] theorem State.setTg_routing (s : State) (k : Nat) (m : Tg) : (s.setTg k m).routing = s.routing := rfl
@[simp] theorem State.setTg_conversion (s : State) (k : Nat) (m : Tg) : (s.setTg k m).conversion = s.conversion := rfl
@[simp] theorem State.setTg_pictures (s : State) (k : Nat) (m : Tg) : (s.setTg k m).pictures = s.pictures := rfl
@[simp] theorem State.setTg_panels (s : State) (k : Nat) (m : Tg) : (s.setTg k m).panels = s.panels := rfl
@[simp] theorem State.setTg_coding (s : State) (k : Nat) (m : Tg) : (s.setTg k m).coding = s.coding := rfl
@[simp] theorem State.setTg_audio (s : State) (k : Nat) (m : Tg) : (s.setTg k m).audio = s.audio := rfl
@[simp] theorem State.setTg_cascade (s : State) (k : Nat) (m : Tg) : (s.setTg k m).cascade = s.cascade := rfl
@[simp] theorem State.setTg_memory (s : State) (k : Nat) (m : Tg) : (s.setTg k m).memory = s.memory := rfl
@[simp] theorem State.setTg_regs (s : State) (k : Nat) (m : Tg) : (s.setTg k m).regs = s.regs := rfl
@[simp] theorem State.setTg_cvus (s : State) (k : Nat) (m : Tg) : (s.setTg k m).cvus = s.cvus := rfl
@[simp] theorem State.setTg_lantern (s : State) (k : Nat) (m : Tg) : (s.setTg k m).lantern = s.lantern := rfl
@[simp] theorem State.setTg_flash (s : State) (k : Nat) (m : Tg) : (s.setTg k m).flash = s.flash := rfl
@[simp] theorem State.setTg_store (s : State) (k : Nat) (m : Tg) : (s.setTg k m).store = s.store := rfl
@[simp] theorem State.setTg_pending (s : State) (k : Nat) (m : Tg) : (s.setTg k m).pending = s.pending := rfl
@[simp] theorem State.setTg_freeCount (s : State) (k : Nat) (m : Tg) : (s.setTg k m).freeCount = s.freeCount := rfl
@[simp] theorem State.setTg_tg (s : State) (k : Nat) (m : Tg) : (s.setTg k m).tg k = m := by
  simp [State.setTg, State.tg]
@[simp] theorem State.setTg_tg_other (s : State) (k : Nat) (m : Tg) (j : Nat) (h : j ≠ k) : (s.setTg k m).tg j = s.tg j := by
  simp [State.setTg, State.tg, h]

/-! ## State.setPll -/

@[simp] theorem State.setPll_part (s : State) (k : Nat) (m : Pll) : (s.setPll k m).part = s.part := rfl
@[simp] theorem State.setPll_time (s : State) (k : Nat) (m : Pll) : (s.setPll k m).time = s.time := rfl
@[simp] theorem State.setPll_ccp (s : State) (k : Nat) (m : Pll) : (s.setPll k m).ccp = s.ccp := rfl
@[simp] theorem State.setPll_journal (s : State) (k : Nat) (m : Pll) : (s.setPll k m).journal = s.journal := rfl
@[simp] theorem State.setPll_events (s : State) (k : Nat) (m : Pll) : (s.setPll k m).events = s.events := rfl
@[simp] theorem State.setPll_boot (s : State) (k : Nat) (m : Pll) : (s.setPll k m).boot = s.boot := rfl
@[simp] theorem State.setPll_health (s : State) (k : Nat) (m : Pll) : (s.setPll k m).health = s.health := rfl
@[simp] theorem State.setPll_lanes (s : State) (k : Nat) (m : Pll) : (s.setPll k m).lanes = s.lanes := rfl
@[simp] theorem State.setPll_signals (s : State) (k : Nat) (m : Pll) : (s.setPll k m).signals = s.signals := rfl
@[simp] theorem State.setPll_routing (s : State) (k : Nat) (m : Pll) : (s.setPll k m).routing = s.routing := rfl
@[simp] theorem State.setPll_conversion (s : State) (k : Nat) (m : Pll) : (s.setPll k m).conversion = s.conversion := rfl
@[simp] theorem State.setPll_pictures (s : State) (k : Nat) (m : Pll) : (s.setPll k m).pictures = s.pictures := rfl
@[simp] theorem State.setPll_panels (s : State) (k : Nat) (m : Pll) : (s.setPll k m).panels = s.panels := rfl
@[simp] theorem State.setPll_coding (s : State) (k : Nat) (m : Pll) : (s.setPll k m).coding = s.coding := rfl
@[simp] theorem State.setPll_audio (s : State) (k : Nat) (m : Pll) : (s.setPll k m).audio = s.audio := rfl
@[simp] theorem State.setPll_cascade (s : State) (k : Nat) (m : Pll) : (s.setPll k m).cascade = s.cascade := rfl
@[simp] theorem State.setPll_memory (s : State) (k : Nat) (m : Pll) : (s.setPll k m).memory = s.memory := rfl
@[simp] theorem State.setPll_regs (s : State) (k : Nat) (m : Pll) : (s.setPll k m).regs = s.regs := rfl
@[simp] theorem State.setPll_cvus (s : State) (k : Nat) (m : Pll) : (s.setPll k m).cvus = s.cvus := rfl
@[simp] theorem State.setPll_lantern (s : State) (k : Nat) (m : Pll) : (s.setPll k m).lantern = s.lantern := rfl
@[simp] theorem State.setPll_flash (s : State) (k : Nat) (m : Pll) : (s.setPll k m).flash = s.flash := rfl
@[simp] theorem State.setPll_store (s : State) (k : Nat) (m : Pll) : (s.setPll k m).store = s.store := rfl
@[simp] theorem State.setPll_pending (s : State) (k : Nat) (m : Pll) : (s.setPll k m).pending = s.pending := rfl
@[simp] theorem State.setPll_freeCount (s : State) (k : Nat) (m : Pll) : (s.setPll k m).freeCount = s.freeCount := rfl
@[simp] theorem State.setPll_pll (s : State) (k : Nat) (m : Pll) : (s.setPll k m).pll k = m := by
  simp [State.setPll, State.pll]
@[simp] theorem State.setPll_pll_other (s : State) (k : Nat) (m : Pll) (j : Nat) (h : j ≠ k) : (s.setPll k m).pll j = s.pll j := by
  simp [State.setPll, State.pll, h]

/-! ## State.setClockIn -/

@[simp] theorem State.setClockIn_part (s : State) (k : Nat) (m : ClockIn) : (s.setClockIn k m).part = s.part := rfl
@[simp] theorem State.setClockIn_time (s : State) (k : Nat) (m : ClockIn) : (s.setClockIn k m).time = s.time := rfl
@[simp] theorem State.setClockIn_ccp (s : State) (k : Nat) (m : ClockIn) : (s.setClockIn k m).ccp = s.ccp := rfl
@[simp] theorem State.setClockIn_journal (s : State) (k : Nat) (m : ClockIn) : (s.setClockIn k m).journal = s.journal := rfl
@[simp] theorem State.setClockIn_events (s : State) (k : Nat) (m : ClockIn) : (s.setClockIn k m).events = s.events := rfl
@[simp] theorem State.setClockIn_boot (s : State) (k : Nat) (m : ClockIn) : (s.setClockIn k m).boot = s.boot := rfl
@[simp] theorem State.setClockIn_health (s : State) (k : Nat) (m : ClockIn) : (s.setClockIn k m).health = s.health := rfl
@[simp] theorem State.setClockIn_lanes (s : State) (k : Nat) (m : ClockIn) : (s.setClockIn k m).lanes = s.lanes := rfl
@[simp] theorem State.setClockIn_signals (s : State) (k : Nat) (m : ClockIn) : (s.setClockIn k m).signals = s.signals := rfl
@[simp] theorem State.setClockIn_routing (s : State) (k : Nat) (m : ClockIn) : (s.setClockIn k m).routing = s.routing := rfl
@[simp] theorem State.setClockIn_conversion (s : State) (k : Nat) (m : ClockIn) : (s.setClockIn k m).conversion = s.conversion := rfl
@[simp] theorem State.setClockIn_pictures (s : State) (k : Nat) (m : ClockIn) : (s.setClockIn k m).pictures = s.pictures := rfl
@[simp] theorem State.setClockIn_panels (s : State) (k : Nat) (m : ClockIn) : (s.setClockIn k m).panels = s.panels := rfl
@[simp] theorem State.setClockIn_coding (s : State) (k : Nat) (m : ClockIn) : (s.setClockIn k m).coding = s.coding := rfl
@[simp] theorem State.setClockIn_audio (s : State) (k : Nat) (m : ClockIn) : (s.setClockIn k m).audio = s.audio := rfl
@[simp] theorem State.setClockIn_cascade (s : State) (k : Nat) (m : ClockIn) : (s.setClockIn k m).cascade = s.cascade := rfl
@[simp] theorem State.setClockIn_memory (s : State) (k : Nat) (m : ClockIn) : (s.setClockIn k m).memory = s.memory := rfl
@[simp] theorem State.setClockIn_regs (s : State) (k : Nat) (m : ClockIn) : (s.setClockIn k m).regs = s.regs := rfl
@[simp] theorem State.setClockIn_cvus (s : State) (k : Nat) (m : ClockIn) : (s.setClockIn k m).cvus = s.cvus := rfl
@[simp] theorem State.setClockIn_lantern (s : State) (k : Nat) (m : ClockIn) : (s.setClockIn k m).lantern = s.lantern := rfl
@[simp] theorem State.setClockIn_flash (s : State) (k : Nat) (m : ClockIn) : (s.setClockIn k m).flash = s.flash := rfl
@[simp] theorem State.setClockIn_store (s : State) (k : Nat) (m : ClockIn) : (s.setClockIn k m).store = s.store := rfl
@[simp] theorem State.setClockIn_pending (s : State) (k : Nat) (m : ClockIn) : (s.setClockIn k m).pending = s.pending := rfl
@[simp] theorem State.setClockIn_freeCount (s : State) (k : Nat) (m : ClockIn) : (s.setClockIn k m).freeCount = s.freeCount := rfl
@[simp] theorem State.setClockIn_clockIn (s : State) (k : Nat) (m : ClockIn) : (s.setClockIn k m).clockIn k = m := by
  simp [State.setClockIn, State.clockIn]
@[simp] theorem State.setClockIn_clockIn_other (s : State) (k : Nat) (m : ClockIn) (j : Nat) (h : j ≠ k) : (s.setClockIn k m).clockIn j = s.clockIn j := by
  simp [State.setClockIn, State.clockIn, h]

/-! ## State.setDest -/

@[simp] theorem State.setDest_part (s : State) (k : Nat) (m : Dest) : (s.setDest k m).part = s.part := rfl
@[simp] theorem State.setDest_time (s : State) (k : Nat) (m : Dest) : (s.setDest k m).time = s.time := rfl
@[simp] theorem State.setDest_ccp (s : State) (k : Nat) (m : Dest) : (s.setDest k m).ccp = s.ccp := rfl
@[simp] theorem State.setDest_journal (s : State) (k : Nat) (m : Dest) : (s.setDest k m).journal = s.journal := rfl
@[simp] theorem State.setDest_events (s : State) (k : Nat) (m : Dest) : (s.setDest k m).events = s.events := rfl
@[simp] theorem State.setDest_boot (s : State) (k : Nat) (m : Dest) : (s.setDest k m).boot = s.boot := rfl
@[simp] theorem State.setDest_health (s : State) (k : Nat) (m : Dest) : (s.setDest k m).health = s.health := rfl
@[simp] theorem State.setDest_lanes (s : State) (k : Nat) (m : Dest) : (s.setDest k m).lanes = s.lanes := rfl
@[simp] theorem State.setDest_clocks (s : State) (k : Nat) (m : Dest) : (s.setDest k m).clocks = s.clocks := rfl
@[simp] theorem State.setDest_signals (s : State) (k : Nat) (m : Dest) : (s.setDest k m).signals = s.signals := rfl
@[simp] theorem State.setDest_conversion (s : State) (k : Nat) (m : Dest) : (s.setDest k m).conversion = s.conversion := rfl
@[simp] theorem State.setDest_pictures (s : State) (k : Nat) (m : Dest) : (s.setDest k m).pictures = s.pictures := rfl
@[simp] theorem State.setDest_panels (s : State) (k : Nat) (m : Dest) : (s.setDest k m).panels = s.panels := rfl
@[simp] theorem State.setDest_coding (s : State) (k : Nat) (m : Dest) : (s.setDest k m).coding = s.coding := rfl
@[simp] theorem State.setDest_audio (s : State) (k : Nat) (m : Dest) : (s.setDest k m).audio = s.audio := rfl
@[simp] theorem State.setDest_cascade (s : State) (k : Nat) (m : Dest) : (s.setDest k m).cascade = s.cascade := rfl
@[simp] theorem State.setDest_memory (s : State) (k : Nat) (m : Dest) : (s.setDest k m).memory = s.memory := rfl
@[simp] theorem State.setDest_regs (s : State) (k : Nat) (m : Dest) : (s.setDest k m).regs = s.regs := rfl
@[simp] theorem State.setDest_cvus (s : State) (k : Nat) (m : Dest) : (s.setDest k m).cvus = s.cvus := rfl
@[simp] theorem State.setDest_lantern (s : State) (k : Nat) (m : Dest) : (s.setDest k m).lantern = s.lantern := rfl
@[simp] theorem State.setDest_flash (s : State) (k : Nat) (m : Dest) : (s.setDest k m).flash = s.flash := rfl
@[simp] theorem State.setDest_store (s : State) (k : Nat) (m : Dest) : (s.setDest k m).store = s.store := rfl
@[simp] theorem State.setDest_pending (s : State) (k : Nat) (m : Dest) : (s.setDest k m).pending = s.pending := rfl
@[simp] theorem State.setDest_freeCount (s : State) (k : Nat) (m : Dest) : (s.setDest k m).freeCount = s.freeCount := rfl
@[simp] theorem State.setDest_dest (s : State) (k : Nat) (m : Dest) : (s.setDest k m).dest k = m := by
  simp [State.setDest, State.dest]
@[simp] theorem State.setDest_dest_other (s : State) (k : Nat) (m : Dest) (j : Nat) (h : j ≠ k) : (s.setDest k m).dest j = s.dest j := by
  simp [State.setDest, State.dest, h]

/-! ## State.setGen -/

@[simp] theorem State.setGen_part (s : State) (k : Nat) (m : Generator) : (s.setGen k m).part = s.part := rfl
@[simp] theorem State.setGen_time (s : State) (k : Nat) (m : Generator) : (s.setGen k m).time = s.time := rfl
@[simp] theorem State.setGen_ccp (s : State) (k : Nat) (m : Generator) : (s.setGen k m).ccp = s.ccp := rfl
@[simp] theorem State.setGen_journal (s : State) (k : Nat) (m : Generator) : (s.setGen k m).journal = s.journal := rfl
@[simp] theorem State.setGen_events (s : State) (k : Nat) (m : Generator) : (s.setGen k m).events = s.events := rfl
@[simp] theorem State.setGen_boot (s : State) (k : Nat) (m : Generator) : (s.setGen k m).boot = s.boot := rfl
@[simp] theorem State.setGen_health (s : State) (k : Nat) (m : Generator) : (s.setGen k m).health = s.health := rfl
@[simp] theorem State.setGen_lanes (s : State) (k : Nat) (m : Generator) : (s.setGen k m).lanes = s.lanes := rfl
@[simp] theorem State.setGen_clocks (s : State) (k : Nat) (m : Generator) : (s.setGen k m).clocks = s.clocks := rfl
@[simp] theorem State.setGen_signals (s : State) (k : Nat) (m : Generator) : (s.setGen k m).signals = s.signals := rfl
@[simp] theorem State.setGen_conversion (s : State) (k : Nat) (m : Generator) : (s.setGen k m).conversion = s.conversion := rfl
@[simp] theorem State.setGen_pictures (s : State) (k : Nat) (m : Generator) : (s.setGen k m).pictures = s.pictures := rfl
@[simp] theorem State.setGen_panels (s : State) (k : Nat) (m : Generator) : (s.setGen k m).panels = s.panels := rfl
@[simp] theorem State.setGen_coding (s : State) (k : Nat) (m : Generator) : (s.setGen k m).coding = s.coding := rfl
@[simp] theorem State.setGen_audio (s : State) (k : Nat) (m : Generator) : (s.setGen k m).audio = s.audio := rfl
@[simp] theorem State.setGen_cascade (s : State) (k : Nat) (m : Generator) : (s.setGen k m).cascade = s.cascade := rfl
@[simp] theorem State.setGen_memory (s : State) (k : Nat) (m : Generator) : (s.setGen k m).memory = s.memory := rfl
@[simp] theorem State.setGen_regs (s : State) (k : Nat) (m : Generator) : (s.setGen k m).regs = s.regs := rfl
@[simp] theorem State.setGen_cvus (s : State) (k : Nat) (m : Generator) : (s.setGen k m).cvus = s.cvus := rfl
@[simp] theorem State.setGen_lantern (s : State) (k : Nat) (m : Generator) : (s.setGen k m).lantern = s.lantern := rfl
@[simp] theorem State.setGen_flash (s : State) (k : Nat) (m : Generator) : (s.setGen k m).flash = s.flash := rfl
@[simp] theorem State.setGen_store (s : State) (k : Nat) (m : Generator) : (s.setGen k m).store = s.store := rfl
@[simp] theorem State.setGen_pending (s : State) (k : Nat) (m : Generator) : (s.setGen k m).pending = s.pending := rfl
@[simp] theorem State.setGen_freeCount (s : State) (k : Nat) (m : Generator) : (s.setGen k m).freeCount = s.freeCount := rfl
@[simp] theorem State.setGen_gen (s : State) (k : Nat) (m : Generator) : (s.setGen k m).gen k = m := by
  simp [State.setGen, State.gen]
@[simp] theorem State.setGen_gen_other (s : State) (k : Nat) (m : Generator) (j : Nat) (h : j ≠ k) : (s.setGen k m).gen j = s.gen j := by
  simp [State.setGen, State.gen, h]

/-! ## State.setRule -/

@[simp] theorem State.setRule_part (s : State) (k : Nat) (m : Rule) : (s.setRule k m).part = s.part := rfl
@[simp] theorem State.setRule_time (s : State) (k : Nat) (m : Rule) : (s.setRule k m).time = s.time := rfl
@[simp] theorem State.setRule_ccp (s : State) (k : Nat) (m : Rule) : (s.setRule k m).ccp = s.ccp := rfl
@[simp] theorem State.setRule_journal (s : State) (k : Nat) (m : Rule) : (s.setRule k m).journal = s.journal := rfl
@[simp] theorem State.setRule_events (s : State) (k : Nat) (m : Rule) : (s.setRule k m).events = s.events := rfl
@[simp] theorem State.setRule_boot (s : State) (k : Nat) (m : Rule) : (s.setRule k m).boot = s.boot := rfl
@[simp] theorem State.setRule_health (s : State) (k : Nat) (m : Rule) : (s.setRule k m).health = s.health := rfl
@[simp] theorem State.setRule_lanes (s : State) (k : Nat) (m : Rule) : (s.setRule k m).lanes = s.lanes := rfl
@[simp] theorem State.setRule_clocks (s : State) (k : Nat) (m : Rule) : (s.setRule k m).clocks = s.clocks := rfl
@[simp] theorem State.setRule_signals (s : State) (k : Nat) (m : Rule) : (s.setRule k m).signals = s.signals := rfl
@[simp] theorem State.setRule_conversion (s : State) (k : Nat) (m : Rule) : (s.setRule k m).conversion = s.conversion := rfl
@[simp] theorem State.setRule_pictures (s : State) (k : Nat) (m : Rule) : (s.setRule k m).pictures = s.pictures := rfl
@[simp] theorem State.setRule_panels (s : State) (k : Nat) (m : Rule) : (s.setRule k m).panels = s.panels := rfl
@[simp] theorem State.setRule_coding (s : State) (k : Nat) (m : Rule) : (s.setRule k m).coding = s.coding := rfl
@[simp] theorem State.setRule_audio (s : State) (k : Nat) (m : Rule) : (s.setRule k m).audio = s.audio := rfl
@[simp] theorem State.setRule_cascade (s : State) (k : Nat) (m : Rule) : (s.setRule k m).cascade = s.cascade := rfl
@[simp] theorem State.setRule_memory (s : State) (k : Nat) (m : Rule) : (s.setRule k m).memory = s.memory := rfl
@[simp] theorem State.setRule_regs (s : State) (k : Nat) (m : Rule) : (s.setRule k m).regs = s.regs := rfl
@[simp] theorem State.setRule_cvus (s : State) (k : Nat) (m : Rule) : (s.setRule k m).cvus = s.cvus := rfl
@[simp] theorem State.setRule_lantern (s : State) (k : Nat) (m : Rule) : (s.setRule k m).lantern = s.lantern := rfl
@[simp] theorem State.setRule_flash (s : State) (k : Nat) (m : Rule) : (s.setRule k m).flash = s.flash := rfl
@[simp] theorem State.setRule_store (s : State) (k : Nat) (m : Rule) : (s.setRule k m).store = s.store := rfl
@[simp] theorem State.setRule_pending (s : State) (k : Nat) (m : Rule) : (s.setRule k m).pending = s.pending := rfl
@[simp] theorem State.setRule_freeCount (s : State) (k : Nat) (m : Rule) : (s.setRule k m).freeCount = s.freeCount := rfl
@[simp] theorem State.setRule_rule (s : State) (k : Nat) (m : Rule) : (s.setRule k m).rule k = some m := tabFind_tabPut_self ..
@[simp] theorem State.setRule_rule_other (s : State) (k : Nat) (m : Rule) (j : Nat) (h : j ≠ k) : (s.setRule k m).rule j = s.rule j :=
  tabFind_tabPut_other _ _ _ _ h

/-! ## State.setPipe -/

@[simp] theorem State.setPipe_part (s : State) (k : Nat) (m : Pipe) : (s.setPipe k m).part = s.part := rfl
@[simp] theorem State.setPipe_time (s : State) (k : Nat) (m : Pipe) : (s.setPipe k m).time = s.time := rfl
@[simp] theorem State.setPipe_ccp (s : State) (k : Nat) (m : Pipe) : (s.setPipe k m).ccp = s.ccp := rfl
@[simp] theorem State.setPipe_journal (s : State) (k : Nat) (m : Pipe) : (s.setPipe k m).journal = s.journal := rfl
@[simp] theorem State.setPipe_events (s : State) (k : Nat) (m : Pipe) : (s.setPipe k m).events = s.events := rfl
@[simp] theorem State.setPipe_boot (s : State) (k : Nat) (m : Pipe) : (s.setPipe k m).boot = s.boot := rfl
@[simp] theorem State.setPipe_health (s : State) (k : Nat) (m : Pipe) : (s.setPipe k m).health = s.health := rfl
@[simp] theorem State.setPipe_lanes (s : State) (k : Nat) (m : Pipe) : (s.setPipe k m).lanes = s.lanes := rfl
@[simp] theorem State.setPipe_clocks (s : State) (k : Nat) (m : Pipe) : (s.setPipe k m).clocks = s.clocks := rfl
@[simp] theorem State.setPipe_signals (s : State) (k : Nat) (m : Pipe) : (s.setPipe k m).signals = s.signals := rfl
@[simp] theorem State.setPipe_routing (s : State) (k : Nat) (m : Pipe) : (s.setPipe k m).routing = s.routing := rfl
@[simp] theorem State.setPipe_pictures (s : State) (k : Nat) (m : Pipe) : (s.setPipe k m).pictures = s.pictures := rfl
@[simp] theorem State.setPipe_panels (s : State) (k : Nat) (m : Pipe) : (s.setPipe k m).panels = s.panels := rfl
@[simp] theorem State.setPipe_coding (s : State) (k : Nat) (m : Pipe) : (s.setPipe k m).coding = s.coding := rfl
@[simp] theorem State.setPipe_audio (s : State) (k : Nat) (m : Pipe) : (s.setPipe k m).audio = s.audio := rfl
@[simp] theorem State.setPipe_cascade (s : State) (k : Nat) (m : Pipe) : (s.setPipe k m).cascade = s.cascade := rfl
@[simp] theorem State.setPipe_memory (s : State) (k : Nat) (m : Pipe) : (s.setPipe k m).memory = s.memory := rfl
@[simp] theorem State.setPipe_regs (s : State) (k : Nat) (m : Pipe) : (s.setPipe k m).regs = s.regs := rfl
@[simp] theorem State.setPipe_cvus (s : State) (k : Nat) (m : Pipe) : (s.setPipe k m).cvus = s.cvus := rfl
@[simp] theorem State.setPipe_lantern (s : State) (k : Nat) (m : Pipe) : (s.setPipe k m).lantern = s.lantern := rfl
@[simp] theorem State.setPipe_flash (s : State) (k : Nat) (m : Pipe) : (s.setPipe k m).flash = s.flash := rfl
@[simp] theorem State.setPipe_store (s : State) (k : Nat) (m : Pipe) : (s.setPipe k m).store = s.store := rfl
@[simp] theorem State.setPipe_pending (s : State) (k : Nat) (m : Pipe) : (s.setPipe k m).pending = s.pending := rfl
@[simp] theorem State.setPipe_freeCount (s : State) (k : Nat) (m : Pipe) : (s.setPipe k m).freeCount = s.freeCount := rfl
@[simp] theorem State.setPipe_pipe (s : State) (k : Nat) (m : Pipe) : (s.setPipe k m).pipe k = m := by
  simp [State.setPipe, State.pipe]
@[simp] theorem State.setPipe_pipe_other (s : State) (k : Nat) (m : Pipe) (j : Nat) (h : j ≠ k) : (s.setPipe k m).pipe j = s.pipe j := by
  simp [State.setPipe, State.pipe, h]

/-! ## State.setCanvas -/

@[simp] theorem State.setCanvas_part (s : State) (k : Nat) (m : Canvas) : (s.setCanvas k m).part = s.part := rfl
@[simp] theorem State.setCanvas_time (s : State) (k : Nat) (m : Canvas) : (s.setCanvas k m).time = s.time := rfl
@[simp] theorem State.setCanvas_ccp (s : State) (k : Nat) (m : Canvas) : (s.setCanvas k m).ccp = s.ccp := rfl
@[simp] theorem State.setCanvas_journal (s : State) (k : Nat) (m : Canvas) : (s.setCanvas k m).journal = s.journal := rfl
@[simp] theorem State.setCanvas_events (s : State) (k : Nat) (m : Canvas) : (s.setCanvas k m).events = s.events := rfl
@[simp] theorem State.setCanvas_boot (s : State) (k : Nat) (m : Canvas) : (s.setCanvas k m).boot = s.boot := rfl
@[simp] theorem State.setCanvas_health (s : State) (k : Nat) (m : Canvas) : (s.setCanvas k m).health = s.health := rfl
@[simp] theorem State.setCanvas_lanes (s : State) (k : Nat) (m : Canvas) : (s.setCanvas k m).lanes = s.lanes := rfl
@[simp] theorem State.setCanvas_clocks (s : State) (k : Nat) (m : Canvas) : (s.setCanvas k m).clocks = s.clocks := rfl
@[simp] theorem State.setCanvas_signals (s : State) (k : Nat) (m : Canvas) : (s.setCanvas k m).signals = s.signals := rfl
@[simp] theorem State.setCanvas_routing (s : State) (k : Nat) (m : Canvas) : (s.setCanvas k m).routing = s.routing := rfl
@[simp] theorem State.setCanvas_conversion (s : State) (k : Nat) (m : Canvas) : (s.setCanvas k m).conversion = s.conversion := rfl
@[simp] theorem State.setCanvas_panels (s : State) (k : Nat) (m : Canvas) : (s.setCanvas k m).panels = s.panels := rfl
@[simp] theorem State.setCanvas_coding (s : State) (k : Nat) (m : Canvas) : (s.setCanvas k m).coding = s.coding := rfl
@[simp] theorem State.setCanvas_audio (s : State) (k : Nat) (m : Canvas) : (s.setCanvas k m).audio = s.audio := rfl
@[simp] theorem State.setCanvas_cascade (s : State) (k : Nat) (m : Canvas) : (s.setCanvas k m).cascade = s.cascade := rfl
@[simp] theorem State.setCanvas_memory (s : State) (k : Nat) (m : Canvas) : (s.setCanvas k m).memory = s.memory := rfl
@[simp] theorem State.setCanvas_regs (s : State) (k : Nat) (m : Canvas) : (s.setCanvas k m).regs = s.regs := rfl
@[simp] theorem State.setCanvas_cvus (s : State) (k : Nat) (m : Canvas) : (s.setCanvas k m).cvus = s.cvus := rfl
@[simp] theorem State.setCanvas_lantern (s : State) (k : Nat) (m : Canvas) : (s.setCanvas k m).lantern = s.lantern := rfl
@[simp] theorem State.setCanvas_flash (s : State) (k : Nat) (m : Canvas) : (s.setCanvas k m).flash = s.flash := rfl
@[simp] theorem State.setCanvas_store (s : State) (k : Nat) (m : Canvas) : (s.setCanvas k m).store = s.store := rfl
@[simp] theorem State.setCanvas_pending (s : State) (k : Nat) (m : Canvas) : (s.setCanvas k m).pending = s.pending := rfl
@[simp] theorem State.setCanvas_freeCount (s : State) (k : Nat) (m : Canvas) : (s.setCanvas k m).freeCount = s.freeCount := rfl
@[simp] theorem State.setCanvas_canvas (s : State) (k : Nat) (m : Canvas) : (s.setCanvas k m).canvas k = m := by
  simp [State.setCanvas, State.canvas]
@[simp] theorem State.setCanvas_canvas_other (s : State) (k : Nat) (m : Canvas) (j : Nat) (h : j ≠ k) : (s.setCanvas k m).canvas j = s.canvas j := by
  simp [State.setCanvas, State.canvas, h]

/-! ## State.setMirror -/

@[simp] theorem State.setMirror_part (s : State) (k : Nat) (m : Mirror) : (s.setMirror k m).part = s.part := rfl
@[simp] theorem State.setMirror_time (s : State) (k : Nat) (m : Mirror) : (s.setMirror k m).time = s.time := rfl
@[simp] theorem State.setMirror_ccp (s : State) (k : Nat) (m : Mirror) : (s.setMirror k m).ccp = s.ccp := rfl
@[simp] theorem State.setMirror_journal (s : State) (k : Nat) (m : Mirror) : (s.setMirror k m).journal = s.journal := rfl
@[simp] theorem State.setMirror_events (s : State) (k : Nat) (m : Mirror) : (s.setMirror k m).events = s.events := rfl
@[simp] theorem State.setMirror_boot (s : State) (k : Nat) (m : Mirror) : (s.setMirror k m).boot = s.boot := rfl
@[simp] theorem State.setMirror_health (s : State) (k : Nat) (m : Mirror) : (s.setMirror k m).health = s.health := rfl
@[simp] theorem State.setMirror_lanes (s : State) (k : Nat) (m : Mirror) : (s.setMirror k m).lanes = s.lanes := rfl
@[simp] theorem State.setMirror_clocks (s : State) (k : Nat) (m : Mirror) : (s.setMirror k m).clocks = s.clocks := rfl
@[simp] theorem State.setMirror_signals (s : State) (k : Nat) (m : Mirror) : (s.setMirror k m).signals = s.signals := rfl
@[simp] theorem State.setMirror_routing (s : State) (k : Nat) (m : Mirror) : (s.setMirror k m).routing = s.routing := rfl
@[simp] theorem State.setMirror_conversion (s : State) (k : Nat) (m : Mirror) : (s.setMirror k m).conversion = s.conversion := rfl
@[simp] theorem State.setMirror_panels (s : State) (k : Nat) (m : Mirror) : (s.setMirror k m).panels = s.panels := rfl
@[simp] theorem State.setMirror_coding (s : State) (k : Nat) (m : Mirror) : (s.setMirror k m).coding = s.coding := rfl
@[simp] theorem State.setMirror_audio (s : State) (k : Nat) (m : Mirror) : (s.setMirror k m).audio = s.audio := rfl
@[simp] theorem State.setMirror_cascade (s : State) (k : Nat) (m : Mirror) : (s.setMirror k m).cascade = s.cascade := rfl
@[simp] theorem State.setMirror_memory (s : State) (k : Nat) (m : Mirror) : (s.setMirror k m).memory = s.memory := rfl
@[simp] theorem State.setMirror_regs (s : State) (k : Nat) (m : Mirror) : (s.setMirror k m).regs = s.regs := rfl
@[simp] theorem State.setMirror_cvus (s : State) (k : Nat) (m : Mirror) : (s.setMirror k m).cvus = s.cvus := rfl
@[simp] theorem State.setMirror_lantern (s : State) (k : Nat) (m : Mirror) : (s.setMirror k m).lantern = s.lantern := rfl
@[simp] theorem State.setMirror_flash (s : State) (k : Nat) (m : Mirror) : (s.setMirror k m).flash = s.flash := rfl
@[simp] theorem State.setMirror_store (s : State) (k : Nat) (m : Mirror) : (s.setMirror k m).store = s.store := rfl
@[simp] theorem State.setMirror_pending (s : State) (k : Nat) (m : Mirror) : (s.setMirror k m).pending = s.pending := rfl
@[simp] theorem State.setMirror_freeCount (s : State) (k : Nat) (m : Mirror) : (s.setMirror k m).freeCount = s.freeCount := rfl
@[simp] theorem State.setMirror_mirror (s : State) (k : Nat) (m : Mirror) : (s.setMirror k m).mirror k = m := by
  simp [State.setMirror, State.mirror]
@[simp] theorem State.setMirror_mirror_other (s : State) (k : Nat) (m : Mirror) (j : Nat) (h : j ≠ k) : (s.setMirror k m).mirror j = s.mirror j := by
  simp [State.setMirror, State.mirror, h]

/-! ## State.setSurface -/

@[simp] theorem State.setSurface_part (s : State) (k : Nat) (m : Surface) : (s.setSurface k m).part = s.part := rfl
@[simp] theorem State.setSurface_time (s : State) (k : Nat) (m : Surface) : (s.setSurface k m).time = s.time := rfl
@[simp] theorem State.setSurface_ccp (s : State) (k : Nat) (m : Surface) : (s.setSurface k m).ccp = s.ccp := rfl
@[simp] theorem State.setSurface_journal (s : State) (k : Nat) (m : Surface) : (s.setSurface k m).journal = s.journal := rfl
@[simp] theorem State.setSurface_events (s : State) (k : Nat) (m : Surface) : (s.setSurface k m).events = s.events := rfl
@[simp] theorem State.setSurface_boot (s : State) (k : Nat) (m : Surface) : (s.setSurface k m).boot = s.boot := rfl
@[simp] theorem State.setSurface_health (s : State) (k : Nat) (m : Surface) : (s.setSurface k m).health = s.health := rfl
@[simp] theorem State.setSurface_lanes (s : State) (k : Nat) (m : Surface) : (s.setSurface k m).lanes = s.lanes := rfl
@[simp] theorem State.setSurface_clocks (s : State) (k : Nat) (m : Surface) : (s.setSurface k m).clocks = s.clocks := rfl
@[simp] theorem State.setSurface_signals (s : State) (k : Nat) (m : Surface) : (s.setSurface k m).signals = s.signals := rfl
@[simp] theorem State.setSurface_routing (s : State) (k : Nat) (m : Surface) : (s.setSurface k m).routing = s.routing := rfl
@[simp] theorem State.setSurface_conversion (s : State) (k : Nat) (m : Surface) : (s.setSurface k m).conversion = s.conversion := rfl
@[simp] theorem State.setSurface_panels (s : State) (k : Nat) (m : Surface) : (s.setSurface k m).panels = s.panels := rfl
@[simp] theorem State.setSurface_coding (s : State) (k : Nat) (m : Surface) : (s.setSurface k m).coding = s.coding := rfl
@[simp] theorem State.setSurface_audio (s : State) (k : Nat) (m : Surface) : (s.setSurface k m).audio = s.audio := rfl
@[simp] theorem State.setSurface_cascade (s : State) (k : Nat) (m : Surface) : (s.setSurface k m).cascade = s.cascade := rfl
@[simp] theorem State.setSurface_memory (s : State) (k : Nat) (m : Surface) : (s.setSurface k m).memory = s.memory := rfl
@[simp] theorem State.setSurface_regs (s : State) (k : Nat) (m : Surface) : (s.setSurface k m).regs = s.regs := rfl
@[simp] theorem State.setSurface_cvus (s : State) (k : Nat) (m : Surface) : (s.setSurface k m).cvus = s.cvus := rfl
@[simp] theorem State.setSurface_lantern (s : State) (k : Nat) (m : Surface) : (s.setSurface k m).lantern = s.lantern := rfl
@[simp] theorem State.setSurface_flash (s : State) (k : Nat) (m : Surface) : (s.setSurface k m).flash = s.flash := rfl
@[simp] theorem State.setSurface_store (s : State) (k : Nat) (m : Surface) : (s.setSurface k m).store = s.store := rfl
@[simp] theorem State.setSurface_pending (s : State) (k : Nat) (m : Surface) : (s.setSurface k m).pending = s.pending := rfl
@[simp] theorem State.setSurface_freeCount (s : State) (k : Nat) (m : Surface) : (s.setSurface k m).freeCount = s.freeCount := rfl
@[simp] theorem State.setSurface_surface (s : State) (k : Nat) (m : Surface) : (s.setSurface k m).surface k = some m := tabFind_tabPut_self ..
@[simp] theorem State.setSurface_surface_other (s : State) (k : Nat) (m : Surface) (j : Nat) (h : j ≠ k) : (s.setSurface k m).surface j = s.surface j :=
  tabFind_tabPut_other _ _ _ _ h

/-! ## State.setEnc -/

@[simp] theorem State.setEnc_part (s : State) (k : Nat) (m : Enc) : (s.setEnc k m).part = s.part := rfl
@[simp] theorem State.setEnc_time (s : State) (k : Nat) (m : Enc) : (s.setEnc k m).time = s.time := rfl
@[simp] theorem State.setEnc_ccp (s : State) (k : Nat) (m : Enc) : (s.setEnc k m).ccp = s.ccp := rfl
@[simp] theorem State.setEnc_journal (s : State) (k : Nat) (m : Enc) : (s.setEnc k m).journal = s.journal := rfl
@[simp] theorem State.setEnc_events (s : State) (k : Nat) (m : Enc) : (s.setEnc k m).events = s.events := rfl
@[simp] theorem State.setEnc_boot (s : State) (k : Nat) (m : Enc) : (s.setEnc k m).boot = s.boot := rfl
@[simp] theorem State.setEnc_health (s : State) (k : Nat) (m : Enc) : (s.setEnc k m).health = s.health := rfl
@[simp] theorem State.setEnc_lanes (s : State) (k : Nat) (m : Enc) : (s.setEnc k m).lanes = s.lanes := rfl
@[simp] theorem State.setEnc_clocks (s : State) (k : Nat) (m : Enc) : (s.setEnc k m).clocks = s.clocks := rfl
@[simp] theorem State.setEnc_signals (s : State) (k : Nat) (m : Enc) : (s.setEnc k m).signals = s.signals := rfl
@[simp] theorem State.setEnc_routing (s : State) (k : Nat) (m : Enc) : (s.setEnc k m).routing = s.routing := rfl
@[simp] theorem State.setEnc_conversion (s : State) (k : Nat) (m : Enc) : (s.setEnc k m).conversion = s.conversion := rfl
@[simp] theorem State.setEnc_pictures (s : State) (k : Nat) (m : Enc) : (s.setEnc k m).pictures = s.pictures := rfl
@[simp] theorem State.setEnc_panels (s : State) (k : Nat) (m : Enc) : (s.setEnc k m).panels = s.panels := rfl
@[simp] theorem State.setEnc_audio (s : State) (k : Nat) (m : Enc) : (s.setEnc k m).audio = s.audio := rfl
@[simp] theorem State.setEnc_cascade (s : State) (k : Nat) (m : Enc) : (s.setEnc k m).cascade = s.cascade := rfl
@[simp] theorem State.setEnc_memory (s : State) (k : Nat) (m : Enc) : (s.setEnc k m).memory = s.memory := rfl
@[simp] theorem State.setEnc_regs (s : State) (k : Nat) (m : Enc) : (s.setEnc k m).regs = s.regs := rfl
@[simp] theorem State.setEnc_cvus (s : State) (k : Nat) (m : Enc) : (s.setEnc k m).cvus = s.cvus := rfl
@[simp] theorem State.setEnc_lantern (s : State) (k : Nat) (m : Enc) : (s.setEnc k m).lantern = s.lantern := rfl
@[simp] theorem State.setEnc_flash (s : State) (k : Nat) (m : Enc) : (s.setEnc k m).flash = s.flash := rfl
@[simp] theorem State.setEnc_store (s : State) (k : Nat) (m : Enc) : (s.setEnc k m).store = s.store := rfl
@[simp] theorem State.setEnc_pending (s : State) (k : Nat) (m : Enc) : (s.setEnc k m).pending = s.pending := rfl
@[simp] theorem State.setEnc_freeCount (s : State) (k : Nat) (m : Enc) : (s.setEnc k m).freeCount = s.freeCount := rfl
@[simp] theorem State.setEnc_enc (s : State) (k : Nat) (m : Enc) : (s.setEnc k m).enc k = some m := tabFind_tabPut_self ..
@[simp] theorem State.setEnc_enc_other (s : State) (k : Nat) (m : Enc) (j : Nat) (h : j ≠ k) : (s.setEnc k m).enc j = s.enc j :=
  tabFind_tabPut_other _ _ _ _ h

/-! ## State.setDec -/

@[simp] theorem State.setDec_part (s : State) (k : Nat) (m : Dec) : (s.setDec k m).part = s.part := rfl
@[simp] theorem State.setDec_time (s : State) (k : Nat) (m : Dec) : (s.setDec k m).time = s.time := rfl
@[simp] theorem State.setDec_ccp (s : State) (k : Nat) (m : Dec) : (s.setDec k m).ccp = s.ccp := rfl
@[simp] theorem State.setDec_journal (s : State) (k : Nat) (m : Dec) : (s.setDec k m).journal = s.journal := rfl
@[simp] theorem State.setDec_events (s : State) (k : Nat) (m : Dec) : (s.setDec k m).events = s.events := rfl
@[simp] theorem State.setDec_boot (s : State) (k : Nat) (m : Dec) : (s.setDec k m).boot = s.boot := rfl
@[simp] theorem State.setDec_health (s : State) (k : Nat) (m : Dec) : (s.setDec k m).health = s.health := rfl
@[simp] theorem State.setDec_lanes (s : State) (k : Nat) (m : Dec) : (s.setDec k m).lanes = s.lanes := rfl
@[simp] theorem State.setDec_clocks (s : State) (k : Nat) (m : Dec) : (s.setDec k m).clocks = s.clocks := rfl
@[simp] theorem State.setDec_signals (s : State) (k : Nat) (m : Dec) : (s.setDec k m).signals = s.signals := rfl
@[simp] theorem State.setDec_routing (s : State) (k : Nat) (m : Dec) : (s.setDec k m).routing = s.routing := rfl
@[simp] theorem State.setDec_conversion (s : State) (k : Nat) (m : Dec) : (s.setDec k m).conversion = s.conversion := rfl
@[simp] theorem State.setDec_pictures (s : State) (k : Nat) (m : Dec) : (s.setDec k m).pictures = s.pictures := rfl
@[simp] theorem State.setDec_panels (s : State) (k : Nat) (m : Dec) : (s.setDec k m).panels = s.panels := rfl
@[simp] theorem State.setDec_audio (s : State) (k : Nat) (m : Dec) : (s.setDec k m).audio = s.audio := rfl
@[simp] theorem State.setDec_cascade (s : State) (k : Nat) (m : Dec) : (s.setDec k m).cascade = s.cascade := rfl
@[simp] theorem State.setDec_memory (s : State) (k : Nat) (m : Dec) : (s.setDec k m).memory = s.memory := rfl
@[simp] theorem State.setDec_regs (s : State) (k : Nat) (m : Dec) : (s.setDec k m).regs = s.regs := rfl
@[simp] theorem State.setDec_cvus (s : State) (k : Nat) (m : Dec) : (s.setDec k m).cvus = s.cvus := rfl
@[simp] theorem State.setDec_lantern (s : State) (k : Nat) (m : Dec) : (s.setDec k m).lantern = s.lantern := rfl
@[simp] theorem State.setDec_flash (s : State) (k : Nat) (m : Dec) : (s.setDec k m).flash = s.flash := rfl
@[simp] theorem State.setDec_store (s : State) (k : Nat) (m : Dec) : (s.setDec k m).store = s.store := rfl
@[simp] theorem State.setDec_pending (s : State) (k : Nat) (m : Dec) : (s.setDec k m).pending = s.pending := rfl
@[simp] theorem State.setDec_freeCount (s : State) (k : Nat) (m : Dec) : (s.setDec k m).freeCount = s.freeCount := rfl
@[simp] theorem State.setDec_dec (s : State) (k : Nat) (m : Dec) : (s.setDec k m).dec k = some m := tabFind_tabPut_self ..
@[simp] theorem State.setDec_dec_other (s : State) (k : Nat) (m : Dec) (j : Nat) (h : j ≠ k) : (s.setDec k m).dec j = s.dec j :=
  tabFind_tabPut_other _ _ _ _ h

/-! ## State.setPanel -/

@[simp] theorem State.setPanel_part (s : State) (k : Nat) (m : Panel) : (s.setPanel k m).part = s.part := rfl
@[simp] theorem State.setPanel_time (s : State) (k : Nat) (m : Panel) : (s.setPanel k m).time = s.time := rfl
@[simp] theorem State.setPanel_ccp (s : State) (k : Nat) (m : Panel) : (s.setPanel k m).ccp = s.ccp := rfl
@[simp] theorem State.setPanel_journal (s : State) (k : Nat) (m : Panel) : (s.setPanel k m).journal = s.journal := rfl
@[simp] theorem State.setPanel_events (s : State) (k : Nat) (m : Panel) : (s.setPanel k m).events = s.events := rfl
@[simp] theorem State.setPanel_boot (s : State) (k : Nat) (m : Panel) : (s.setPanel k m).boot = s.boot := rfl
@[simp] theorem State.setPanel_health (s : State) (k : Nat) (m : Panel) : (s.setPanel k m).health = s.health := rfl
@[simp] theorem State.setPanel_lanes (s : State) (k : Nat) (m : Panel) : (s.setPanel k m).lanes = s.lanes := rfl
@[simp] theorem State.setPanel_clocks (s : State) (k : Nat) (m : Panel) : (s.setPanel k m).clocks = s.clocks := rfl
@[simp] theorem State.setPanel_signals (s : State) (k : Nat) (m : Panel) : (s.setPanel k m).signals = s.signals := rfl
@[simp] theorem State.setPanel_routing (s : State) (k : Nat) (m : Panel) : (s.setPanel k m).routing = s.routing := rfl
@[simp] theorem State.setPanel_conversion (s : State) (k : Nat) (m : Panel) : (s.setPanel k m).conversion = s.conversion := rfl
@[simp] theorem State.setPanel_pictures (s : State) (k : Nat) (m : Panel) : (s.setPanel k m).pictures = s.pictures := rfl
@[simp] theorem State.setPanel_coding (s : State) (k : Nat) (m : Panel) : (s.setPanel k m).coding = s.coding := rfl
@[simp] theorem State.setPanel_audio (s : State) (k : Nat) (m : Panel) : (s.setPanel k m).audio = s.audio := rfl
@[simp] theorem State.setPanel_cascade (s : State) (k : Nat) (m : Panel) : (s.setPanel k m).cascade = s.cascade := rfl
@[simp] theorem State.setPanel_memory (s : State) (k : Nat) (m : Panel) : (s.setPanel k m).memory = s.memory := rfl
@[simp] theorem State.setPanel_regs (s : State) (k : Nat) (m : Panel) : (s.setPanel k m).regs = s.regs := rfl
@[simp] theorem State.setPanel_cvus (s : State) (k : Nat) (m : Panel) : (s.setPanel k m).cvus = s.cvus := rfl
@[simp] theorem State.setPanel_lantern (s : State) (k : Nat) (m : Panel) : (s.setPanel k m).lantern = s.lantern := rfl
@[simp] theorem State.setPanel_flash (s : State) (k : Nat) (m : Panel) : (s.setPanel k m).flash = s.flash := rfl
@[simp] theorem State.setPanel_store (s : State) (k : Nat) (m : Panel) : (s.setPanel k m).store = s.store := rfl
@[simp] theorem State.setPanel_pending (s : State) (k : Nat) (m : Panel) : (s.setPanel k m).pending = s.pending := rfl
@[simp] theorem State.setPanel_freeCount (s : State) (k : Nat) (m : Panel) : (s.setPanel k m).freeCount = s.freeCount := rfl
@[simp] theorem State.setPanel_panel (s : State) (k : Nat) (m : Panel) : (s.setPanel k m).panel k = m := by
  simp [State.setPanel, State.panel]
@[simp] theorem State.setPanel_panel_other (s : State) (k : Nat) (m : Panel) (j : Nat) (h : j ≠ k) : (s.setPanel k m).panel j = s.panel j := by
  simp [State.setPanel, State.panel, h]

/-! ## State.setLane -/

@[simp] theorem State.setLane_part (s : State) (k : Nat) (m : Lane) : (s.setLane k m).part = s.part := rfl
@[simp] theorem State.setLane_time (s : State) (k : Nat) (m : Lane) : (s.setLane k m).time = s.time := rfl
@[simp] theorem State.setLane_ccp (s : State) (k : Nat) (m : Lane) : (s.setLane k m).ccp = s.ccp := rfl
@[simp] theorem State.setLane_journal (s : State) (k : Nat) (m : Lane) : (s.setLane k m).journal = s.journal := rfl
@[simp] theorem State.setLane_events (s : State) (k : Nat) (m : Lane) : (s.setLane k m).events = s.events := rfl
@[simp] theorem State.setLane_boot (s : State) (k : Nat) (m : Lane) : (s.setLane k m).boot = s.boot := rfl
@[simp] theorem State.setLane_health (s : State) (k : Nat) (m : Lane) : (s.setLane k m).health = s.health := rfl
@[simp] theorem State.setLane_clocks (s : State) (k : Nat) (m : Lane) : (s.setLane k m).clocks = s.clocks := rfl
@[simp] theorem State.setLane_signals (s : State) (k : Nat) (m : Lane) : (s.setLane k m).signals = s.signals := rfl
@[simp] theorem State.setLane_routing (s : State) (k : Nat) (m : Lane) : (s.setLane k m).routing = s.routing := rfl
@[simp] theorem State.setLane_conversion (s : State) (k : Nat) (m : Lane) : (s.setLane k m).conversion = s.conversion := rfl
@[simp] theorem State.setLane_pictures (s : State) (k : Nat) (m : Lane) : (s.setLane k m).pictures = s.pictures := rfl
@[simp] theorem State.setLane_panels (s : State) (k : Nat) (m : Lane) : (s.setLane k m).panels = s.panels := rfl
@[simp] theorem State.setLane_coding (s : State) (k : Nat) (m : Lane) : (s.setLane k m).coding = s.coding := rfl
@[simp] theorem State.setLane_audio (s : State) (k : Nat) (m : Lane) : (s.setLane k m).audio = s.audio := rfl
@[simp] theorem State.setLane_cascade (s : State) (k : Nat) (m : Lane) : (s.setLane k m).cascade = s.cascade := rfl
@[simp] theorem State.setLane_memory (s : State) (k : Nat) (m : Lane) : (s.setLane k m).memory = s.memory := rfl
@[simp] theorem State.setLane_regs (s : State) (k : Nat) (m : Lane) : (s.setLane k m).regs = s.regs := rfl
@[simp] theorem State.setLane_cvus (s : State) (k : Nat) (m : Lane) : (s.setLane k m).cvus = s.cvus := rfl
@[simp] theorem State.setLane_lantern (s : State) (k : Nat) (m : Lane) : (s.setLane k m).lantern = s.lantern := rfl
@[simp] theorem State.setLane_flash (s : State) (k : Nat) (m : Lane) : (s.setLane k m).flash = s.flash := rfl
@[simp] theorem State.setLane_store (s : State) (k : Nat) (m : Lane) : (s.setLane k m).store = s.store := rfl
@[simp] theorem State.setLane_pending (s : State) (k : Nat) (m : Lane) : (s.setLane k m).pending = s.pending := rfl
@[simp] theorem State.setLane_freeCount (s : State) (k : Nat) (m : Lane) : (s.setLane k m).freeCount = s.freeCount := rfl
@[simp] theorem State.setLane_lane (s : State) (k : Nat) (m : Lane) : (s.setLane k m).lane k = m := by
  simp [State.setLane, State.lane]
@[simp] theorem State.setLane_lane_other (s : State) (k : Nat) (m : Lane) (j : Nat) (h : j ≠ k) : (s.setLane k m).lane j = s.lane j := by
  simp [State.setLane, State.lane, h]

/-! ## State.setQuad -/

@[simp] theorem State.setQuad_part (s : State) (k : Nat) (m : Quad) : (s.setQuad k m).part = s.part := rfl
@[simp] theorem State.setQuad_time (s : State) (k : Nat) (m : Quad) : (s.setQuad k m).time = s.time := rfl
@[simp] theorem State.setQuad_ccp (s : State) (k : Nat) (m : Quad) : (s.setQuad k m).ccp = s.ccp := rfl
@[simp] theorem State.setQuad_journal (s : State) (k : Nat) (m : Quad) : (s.setQuad k m).journal = s.journal := rfl
@[simp] theorem State.setQuad_events (s : State) (k : Nat) (m : Quad) : (s.setQuad k m).events = s.events := rfl
@[simp] theorem State.setQuad_boot (s : State) (k : Nat) (m : Quad) : (s.setQuad k m).boot = s.boot := rfl
@[simp] theorem State.setQuad_health (s : State) (k : Nat) (m : Quad) : (s.setQuad k m).health = s.health := rfl
@[simp] theorem State.setQuad_clocks (s : State) (k : Nat) (m : Quad) : (s.setQuad k m).clocks = s.clocks := rfl
@[simp] theorem State.setQuad_signals (s : State) (k : Nat) (m : Quad) : (s.setQuad k m).signals = s.signals := rfl
@[simp] theorem State.setQuad_routing (s : State) (k : Nat) (m : Quad) : (s.setQuad k m).routing = s.routing := rfl
@[simp] theorem State.setQuad_conversion (s : State) (k : Nat) (m : Quad) : (s.setQuad k m).conversion = s.conversion := rfl
@[simp] theorem State.setQuad_pictures (s : State) (k : Nat) (m : Quad) : (s.setQuad k m).pictures = s.pictures := rfl
@[simp] theorem State.setQuad_panels (s : State) (k : Nat) (m : Quad) : (s.setQuad k m).panels = s.panels := rfl
@[simp] theorem State.setQuad_coding (s : State) (k : Nat) (m : Quad) : (s.setQuad k m).coding = s.coding := rfl
@[simp] theorem State.setQuad_audio (s : State) (k : Nat) (m : Quad) : (s.setQuad k m).audio = s.audio := rfl
@[simp] theorem State.setQuad_cascade (s : State) (k : Nat) (m : Quad) : (s.setQuad k m).cascade = s.cascade := rfl
@[simp] theorem State.setQuad_memory (s : State) (k : Nat) (m : Quad) : (s.setQuad k m).memory = s.memory := rfl
@[simp] theorem State.setQuad_regs (s : State) (k : Nat) (m : Quad) : (s.setQuad k m).regs = s.regs := rfl
@[simp] theorem State.setQuad_cvus (s : State) (k : Nat) (m : Quad) : (s.setQuad k m).cvus = s.cvus := rfl
@[simp] theorem State.setQuad_lantern (s : State) (k : Nat) (m : Quad) : (s.setQuad k m).lantern = s.lantern := rfl
@[simp] theorem State.setQuad_flash (s : State) (k : Nat) (m : Quad) : (s.setQuad k m).flash = s.flash := rfl
@[simp] theorem State.setQuad_store (s : State) (k : Nat) (m : Quad) : (s.setQuad k m).store = s.store := rfl
@[simp] theorem State.setQuad_pending (s : State) (k : Nat) (m : Quad) : (s.setQuad k m).pending = s.pending := rfl
@[simp] theorem State.setQuad_freeCount (s : State) (k : Nat) (m : Quad) : (s.setQuad k m).freeCount = s.freeCount := rfl
@[simp] theorem State.setQuad_quad (s : State) (k : Nat) (m : Quad) : (s.setQuad k m).quad k = m := by
  simp [State.setQuad, State.quad]
@[simp] theorem State.setQuad_quad_other (s : State) (k : Nat) (m : Quad) (j : Nat) (h : j ≠ k) : (s.setQuad k m).quad j = s.quad j := by
  simp [State.setQuad, State.quad, h]

/-! ## State.setInput -/

@[simp] theorem State.setInput_part (s : State) (k : Nat) (m : Input) : (s.setInput k m).part = s.part := rfl
@[simp] theorem State.setInput_time (s : State) (k : Nat) (m : Input) : (s.setInput k m).time = s.time := rfl
@[simp] theorem State.setInput_ccp (s : State) (k : Nat) (m : Input) : (s.setInput k m).ccp = s.ccp := rfl
@[simp] theorem State.setInput_journal (s : State) (k : Nat) (m : Input) : (s.setInput k m).journal = s.journal := rfl
@[simp] theorem State.setInput_events (s : State) (k : Nat) (m : Input) : (s.setInput k m).events = s.events := rfl
@[simp] theorem State.setInput_boot (s : State) (k : Nat) (m : Input) : (s.setInput k m).boot = s.boot := rfl
@[simp] theorem State.setInput_health (s : State) (k : Nat) (m : Input) : (s.setInput k m).health = s.health := rfl
@[simp] theorem State.setInput_lanes (s : State) (k : Nat) (m : Input) : (s.setInput k m).lanes = s.lanes := rfl
@[simp] theorem State.setInput_clocks (s : State) (k : Nat) (m : Input) : (s.setInput k m).clocks = s.clocks := rfl
@[simp] theorem State.setInput_routing (s : State) (k : Nat) (m : Input) : (s.setInput k m).routing = s.routing := rfl
@[simp] theorem State.setInput_conversion (s : State) (k : Nat) (m : Input) : (s.setInput k m).conversion = s.conversion := rfl
@[simp] theorem State.setInput_pictures (s : State) (k : Nat) (m : Input) : (s.setInput k m).pictures = s.pictures := rfl
@[simp] theorem State.setInput_panels (s : State) (k : Nat) (m : Input) : (s.setInput k m).panels = s.panels := rfl
@[simp] theorem State.setInput_coding (s : State) (k : Nat) (m : Input) : (s.setInput k m).coding = s.coding := rfl
@[simp] theorem State.setInput_audio (s : State) (k : Nat) (m : Input) : (s.setInput k m).audio = s.audio := rfl
@[simp] theorem State.setInput_cascade (s : State) (k : Nat) (m : Input) : (s.setInput k m).cascade = s.cascade := rfl
@[simp] theorem State.setInput_memory (s : State) (k : Nat) (m : Input) : (s.setInput k m).memory = s.memory := rfl
@[simp] theorem State.setInput_regs (s : State) (k : Nat) (m : Input) : (s.setInput k m).regs = s.regs := rfl
@[simp] theorem State.setInput_cvus (s : State) (k : Nat) (m : Input) : (s.setInput k m).cvus = s.cvus := rfl
@[simp] theorem State.setInput_lantern (s : State) (k : Nat) (m : Input) : (s.setInput k m).lantern = s.lantern := rfl
@[simp] theorem State.setInput_flash (s : State) (k : Nat) (m : Input) : (s.setInput k m).flash = s.flash := rfl
@[simp] theorem State.setInput_store (s : State) (k : Nat) (m : Input) : (s.setInput k m).store = s.store := rfl
@[simp] theorem State.setInput_pending (s : State) (k : Nat) (m : Input) : (s.setInput k m).pending = s.pending := rfl
@[simp] theorem State.setInput_freeCount (s : State) (k : Nat) (m : Input) : (s.setInput k m).freeCount = s.freeCount := rfl
@[simp] theorem State.setInput_input (s : State) (k : Nat) (m : Input) : (s.setInput k m).input k = m := by
  simp [State.setInput, State.input]
@[simp] theorem State.setInput_input_other (s : State) (k : Nat) (m : Input) (j : Nat) (h : j ≠ k) : (s.setInput k m).input j = s.input j := by
  simp [State.setInput, State.input, h]

/-! ## State.setRx -/

@[simp] theorem State.setRx_part (s : State) (k : Nat) (m : Flow) : (s.setRx k m).part = s.part := rfl
@[simp] theorem State.setRx_time (s : State) (k : Nat) (m : Flow) : (s.setRx k m).time = s.time := rfl
@[simp] theorem State.setRx_ccp (s : State) (k : Nat) (m : Flow) : (s.setRx k m).ccp = s.ccp := rfl
@[simp] theorem State.setRx_journal (s : State) (k : Nat) (m : Flow) : (s.setRx k m).journal = s.journal := rfl
@[simp] theorem State.setRx_events (s : State) (k : Nat) (m : Flow) : (s.setRx k m).events = s.events := rfl
@[simp] theorem State.setRx_boot (s : State) (k : Nat) (m : Flow) : (s.setRx k m).boot = s.boot := rfl
@[simp] theorem State.setRx_health (s : State) (k : Nat) (m : Flow) : (s.setRx k m).health = s.health := rfl
@[simp] theorem State.setRx_lanes (s : State) (k : Nat) (m : Flow) : (s.setRx k m).lanes = s.lanes := rfl
@[simp] theorem State.setRx_clocks (s : State) (k : Nat) (m : Flow) : (s.setRx k m).clocks = s.clocks := rfl
@[simp] theorem State.setRx_routing (s : State) (k : Nat) (m : Flow) : (s.setRx k m).routing = s.routing := rfl
@[simp] theorem State.setRx_conversion (s : State) (k : Nat) (m : Flow) : (s.setRx k m).conversion = s.conversion := rfl
@[simp] theorem State.setRx_pictures (s : State) (k : Nat) (m : Flow) : (s.setRx k m).pictures = s.pictures := rfl
@[simp] theorem State.setRx_panels (s : State) (k : Nat) (m : Flow) : (s.setRx k m).panels = s.panels := rfl
@[simp] theorem State.setRx_coding (s : State) (k : Nat) (m : Flow) : (s.setRx k m).coding = s.coding := rfl
@[simp] theorem State.setRx_audio (s : State) (k : Nat) (m : Flow) : (s.setRx k m).audio = s.audio := rfl
@[simp] theorem State.setRx_cascade (s : State) (k : Nat) (m : Flow) : (s.setRx k m).cascade = s.cascade := rfl
@[simp] theorem State.setRx_memory (s : State) (k : Nat) (m : Flow) : (s.setRx k m).memory = s.memory := rfl
@[simp] theorem State.setRx_regs (s : State) (k : Nat) (m : Flow) : (s.setRx k m).regs = s.regs := rfl
@[simp] theorem State.setRx_cvus (s : State) (k : Nat) (m : Flow) : (s.setRx k m).cvus = s.cvus := rfl
@[simp] theorem State.setRx_lantern (s : State) (k : Nat) (m : Flow) : (s.setRx k m).lantern = s.lantern := rfl
@[simp] theorem State.setRx_flash (s : State) (k : Nat) (m : Flow) : (s.setRx k m).flash = s.flash := rfl
@[simp] theorem State.setRx_store (s : State) (k : Nat) (m : Flow) : (s.setRx k m).store = s.store := rfl
@[simp] theorem State.setRx_pending (s : State) (k : Nat) (m : Flow) : (s.setRx k m).pending = s.pending := rfl
@[simp] theorem State.setRx_freeCount (s : State) (k : Nat) (m : Flow) : (s.setRx k m).freeCount = s.freeCount := rfl
@[simp] theorem State.setRx_rx (s : State) (k : Nat) (m : Flow) : (s.setRx k m).rx k = m := by
  simp [State.setRx, State.rx]
@[simp] theorem State.setRx_rx_other (s : State) (k : Nat) (m : Flow) (j : Nat) (h : j ≠ k) : (s.setRx k m).rx j = s.rx j := by
  simp [State.setRx, State.rx, h]

/-! ## State.setTx -/

@[simp] theorem State.setTx_part (s : State) (k : Nat) (m : Flow) : (s.setTx k m).part = s.part := rfl
@[simp] theorem State.setTx_time (s : State) (k : Nat) (m : Flow) : (s.setTx k m).time = s.time := rfl
@[simp] theorem State.setTx_ccp (s : State) (k : Nat) (m : Flow) : (s.setTx k m).ccp = s.ccp := rfl
@[simp] theorem State.setTx_journal (s : State) (k : Nat) (m : Flow) : (s.setTx k m).journal = s.journal := rfl
@[simp] theorem State.setTx_events (s : State) (k : Nat) (m : Flow) : (s.setTx k m).events = s.events := rfl
@[simp] theorem State.setTx_boot (s : State) (k : Nat) (m : Flow) : (s.setTx k m).boot = s.boot := rfl
@[simp] theorem State.setTx_health (s : State) (k : Nat) (m : Flow) : (s.setTx k m).health = s.health := rfl
@[simp] theorem State.setTx_lanes (s : State) (k : Nat) (m : Flow) : (s.setTx k m).lanes = s.lanes := rfl
@[simp] theorem State.setTx_clocks (s : State) (k : Nat) (m : Flow) : (s.setTx k m).clocks = s.clocks := rfl
@[simp] theorem State.setTx_routing (s : State) (k : Nat) (m : Flow) : (s.setTx k m).routing = s.routing := rfl
@[simp] theorem State.setTx_conversion (s : State) (k : Nat) (m : Flow) : (s.setTx k m).conversion = s.conversion := rfl
@[simp] theorem State.setTx_pictures (s : State) (k : Nat) (m : Flow) : (s.setTx k m).pictures = s.pictures := rfl
@[simp] theorem State.setTx_panels (s : State) (k : Nat) (m : Flow) : (s.setTx k m).panels = s.panels := rfl
@[simp] theorem State.setTx_coding (s : State) (k : Nat) (m : Flow) : (s.setTx k m).coding = s.coding := rfl
@[simp] theorem State.setTx_audio (s : State) (k : Nat) (m : Flow) : (s.setTx k m).audio = s.audio := rfl
@[simp] theorem State.setTx_cascade (s : State) (k : Nat) (m : Flow) : (s.setTx k m).cascade = s.cascade := rfl
@[simp] theorem State.setTx_memory (s : State) (k : Nat) (m : Flow) : (s.setTx k m).memory = s.memory := rfl
@[simp] theorem State.setTx_regs (s : State) (k : Nat) (m : Flow) : (s.setTx k m).regs = s.regs := rfl
@[simp] theorem State.setTx_cvus (s : State) (k : Nat) (m : Flow) : (s.setTx k m).cvus = s.cvus := rfl
@[simp] theorem State.setTx_lantern (s : State) (k : Nat) (m : Flow) : (s.setTx k m).lantern = s.lantern := rfl
@[simp] theorem State.setTx_flash (s : State) (k : Nat) (m : Flow) : (s.setTx k m).flash = s.flash := rfl
@[simp] theorem State.setTx_store (s : State) (k : Nat) (m : Flow) : (s.setTx k m).store = s.store := rfl
@[simp] theorem State.setTx_pending (s : State) (k : Nat) (m : Flow) : (s.setTx k m).pending = s.pending := rfl
@[simp] theorem State.setTx_freeCount (s : State) (k : Nat) (m : Flow) : (s.setTx k m).freeCount = s.freeCount := rfl
@[simp] theorem State.setTx_tx (s : State) (k : Nat) (m : Flow) : (s.setTx k m).tx k = m := by
  simp [State.setTx, State.tx]
@[simp] theorem State.setTx_tx_other (s : State) (k : Nat) (m : Flow) (j : Nat) (h : j ≠ k) : (s.setTx k m).tx j = s.tx j := by
  simp [State.setTx, State.tx, h]

/-! ## State.setAudioSource -/

@[simp] theorem State.setAudioSource_part (s : State) (k : Nat) (m : AudioSource) : (s.setAudioSource k m).part = s.part := rfl
@[simp] theorem State.setAudioSource_time (s : State) (k : Nat) (m : AudioSource) : (s.setAudioSource k m).time = s.time := rfl
@[simp] theorem State.setAudioSource_ccp (s : State) (k : Nat) (m : AudioSource) : (s.setAudioSource k m).ccp = s.ccp := rfl
@[simp] theorem State.setAudioSource_journal (s : State) (k : Nat) (m : AudioSource) : (s.setAudioSource k m).journal = s.journal := rfl
@[simp] theorem State.setAudioSource_events (s : State) (k : Nat) (m : AudioSource) : (s.setAudioSource k m).events = s.events := rfl
@[simp] theorem State.setAudioSource_boot (s : State) (k : Nat) (m : AudioSource) : (s.setAudioSource k m).boot = s.boot := rfl
@[simp] theorem State.setAudioSource_health (s : State) (k : Nat) (m : AudioSource) : (s.setAudioSource k m).health = s.health := rfl
@[simp] theorem State.setAudioSource_lanes (s : State) (k : Nat) (m : AudioSource) : (s.setAudioSource k m).lanes = s.lanes := rfl
@[simp] theorem State.setAudioSource_clocks (s : State) (k : Nat) (m : AudioSource) : (s.setAudioSource k m).clocks = s.clocks := rfl
@[simp] theorem State.setAudioSource_signals (s : State) (k : Nat) (m : AudioSource) : (s.setAudioSource k m).signals = s.signals := rfl
@[simp] theorem State.setAudioSource_routing (s : State) (k : Nat) (m : AudioSource) : (s.setAudioSource k m).routing = s.routing := rfl
@[simp] theorem State.setAudioSource_conversion (s : State) (k : Nat) (m : AudioSource) : (s.setAudioSource k m).conversion = s.conversion := rfl
@[simp] theorem State.setAudioSource_pictures (s : State) (k : Nat) (m : AudioSource) : (s.setAudioSource k m).pictures = s.pictures := rfl
@[simp] theorem State.setAudioSource_panels (s : State) (k : Nat) (m : AudioSource) : (s.setAudioSource k m).panels = s.panels := rfl
@[simp] theorem State.setAudioSource_coding (s : State) (k : Nat) (m : AudioSource) : (s.setAudioSource k m).coding = s.coding := rfl
@[simp] theorem State.setAudioSource_cascade (s : State) (k : Nat) (m : AudioSource) : (s.setAudioSource k m).cascade = s.cascade := rfl
@[simp] theorem State.setAudioSource_memory (s : State) (k : Nat) (m : AudioSource) : (s.setAudioSource k m).memory = s.memory := rfl
@[simp] theorem State.setAudioSource_regs (s : State) (k : Nat) (m : AudioSource) : (s.setAudioSource k m).regs = s.regs := rfl
@[simp] theorem State.setAudioSource_cvus (s : State) (k : Nat) (m : AudioSource) : (s.setAudioSource k m).cvus = s.cvus := rfl
@[simp] theorem State.setAudioSource_lantern (s : State) (k : Nat) (m : AudioSource) : (s.setAudioSource k m).lantern = s.lantern := rfl
@[simp] theorem State.setAudioSource_flash (s : State) (k : Nat) (m : AudioSource) : (s.setAudioSource k m).flash = s.flash := rfl
@[simp] theorem State.setAudioSource_store (s : State) (k : Nat) (m : AudioSource) : (s.setAudioSource k m).store = s.store := rfl
@[simp] theorem State.setAudioSource_pending (s : State) (k : Nat) (m : AudioSource) : (s.setAudioSource k m).pending = s.pending := rfl
@[simp] theorem State.setAudioSource_freeCount (s : State) (k : Nat) (m : AudioSource) : (s.setAudioSource k m).freeCount = s.freeCount := rfl
@[simp] theorem State.setAudioSource_audioSource (s : State) (k : Nat) (m : AudioSource) : (s.setAudioSource k m).audioSource k = m := by
  simp [State.setAudioSource, State.audioSource]
@[simp] theorem State.setAudioSource_audioSource_other (s : State) (k : Nat) (m : AudioSource) (j : Nat) (h : j ≠ k) : (s.setAudioSource k m).audioSource j = s.audioSource j := by
  simp [State.setAudioSource, State.audioSource, h]

/-! ## State.setTdm -/

@[simp] theorem State.setTdm_part (s : State) (k : Nat) (m : Tdm) : (s.setTdm k m).part = s.part := rfl
@[simp] theorem State.setTdm_time (s : State) (k : Nat) (m : Tdm) : (s.setTdm k m).time = s.time := rfl
@[simp] theorem State.setTdm_ccp (s : State) (k : Nat) (m : Tdm) : (s.setTdm k m).ccp = s.ccp := rfl
@[simp] theorem State.setTdm_journal (s : State) (k : Nat) (m : Tdm) : (s.setTdm k m).journal = s.journal := rfl
@[simp] theorem State.setTdm_events (s : State) (k : Nat) (m : Tdm) : (s.setTdm k m).events = s.events := rfl
@[simp] theorem State.setTdm_boot (s : State) (k : Nat) (m : Tdm) : (s.setTdm k m).boot = s.boot := rfl
@[simp] theorem State.setTdm_health (s : State) (k : Nat) (m : Tdm) : (s.setTdm k m).health = s.health := rfl
@[simp] theorem State.setTdm_lanes (s : State) (k : Nat) (m : Tdm) : (s.setTdm k m).lanes = s.lanes := rfl
@[simp] theorem State.setTdm_clocks (s : State) (k : Nat) (m : Tdm) : (s.setTdm k m).clocks = s.clocks := rfl
@[simp] theorem State.setTdm_signals (s : State) (k : Nat) (m : Tdm) : (s.setTdm k m).signals = s.signals := rfl
@[simp] theorem State.setTdm_routing (s : State) (k : Nat) (m : Tdm) : (s.setTdm k m).routing = s.routing := rfl
@[simp] theorem State.setTdm_conversion (s : State) (k : Nat) (m : Tdm) : (s.setTdm k m).conversion = s.conversion := rfl
@[simp] theorem State.setTdm_pictures (s : State) (k : Nat) (m : Tdm) : (s.setTdm k m).pictures = s.pictures := rfl
@[simp] theorem State.setTdm_panels (s : State) (k : Nat) (m : Tdm) : (s.setTdm k m).panels = s.panels := rfl
@[simp] theorem State.setTdm_coding (s : State) (k : Nat) (m : Tdm) : (s.setTdm k m).coding = s.coding := rfl
@[simp] theorem State.setTdm_cascade (s : State) (k : Nat) (m : Tdm) : (s.setTdm k m).cascade = s.cascade := rfl
@[simp] theorem State.setTdm_memory (s : State) (k : Nat) (m : Tdm) : (s.setTdm k m).memory = s.memory := rfl
@[simp] theorem State.setTdm_regs (s : State) (k : Nat) (m : Tdm) : (s.setTdm k m).regs = s.regs := rfl
@[simp] theorem State.setTdm_cvus (s : State) (k : Nat) (m : Tdm) : (s.setTdm k m).cvus = s.cvus := rfl
@[simp] theorem State.setTdm_lantern (s : State) (k : Nat) (m : Tdm) : (s.setTdm k m).lantern = s.lantern := rfl
@[simp] theorem State.setTdm_flash (s : State) (k : Nat) (m : Tdm) : (s.setTdm k m).flash = s.flash := rfl
@[simp] theorem State.setTdm_store (s : State) (k : Nat) (m : Tdm) : (s.setTdm k m).store = s.store := rfl
@[simp] theorem State.setTdm_pending (s : State) (k : Nat) (m : Tdm) : (s.setTdm k m).pending = s.pending := rfl
@[simp] theorem State.setTdm_freeCount (s : State) (k : Nat) (m : Tdm) : (s.setTdm k m).freeCount = s.freeCount := rfl
@[simp] theorem State.setTdm_tdm (s : State) (k : Nat) (m : Tdm) : (s.setTdm k m).tdm k = m := by
  simp [State.setTdm, State.tdm]
@[simp] theorem State.setTdm_tdm_other (s : State) (k : Nat) (m : Tdm) (j : Nat) (h : j ≠ k) : (s.setTdm k m).tdm j = s.tdm j := by
  simp [State.setTdm, State.tdm, h]

/-! ## State.setAudioRing -/

@[simp] theorem State.setAudioRing_part (s : State) (k : Nat) (m : AudioRing) : (s.setAudioRing k m).part = s.part := rfl
@[simp] theorem State.setAudioRing_time (s : State) (k : Nat) (m : AudioRing) : (s.setAudioRing k m).time = s.time := rfl
@[simp] theorem State.setAudioRing_ccp (s : State) (k : Nat) (m : AudioRing) : (s.setAudioRing k m).ccp = s.ccp := rfl
@[simp] theorem State.setAudioRing_journal (s : State) (k : Nat) (m : AudioRing) : (s.setAudioRing k m).journal = s.journal := rfl
@[simp] theorem State.setAudioRing_events (s : State) (k : Nat) (m : AudioRing) : (s.setAudioRing k m).events = s.events := rfl
@[simp] theorem State.setAudioRing_boot (s : State) (k : Nat) (m : AudioRing) : (s.setAudioRing k m).boot = s.boot := rfl
@[simp] theorem State.setAudioRing_health (s : State) (k : Nat) (m : AudioRing) : (s.setAudioRing k m).health = s.health := rfl
@[simp] theorem State.setAudioRing_lanes (s : State) (k : Nat) (m : AudioRing) : (s.setAudioRing k m).lanes = s.lanes := rfl
@[simp] theorem State.setAudioRing_clocks (s : State) (k : Nat) (m : AudioRing) : (s.setAudioRing k m).clocks = s.clocks := rfl
@[simp] theorem State.setAudioRing_signals (s : State) (k : Nat) (m : AudioRing) : (s.setAudioRing k m).signals = s.signals := rfl
@[simp] theorem State.setAudioRing_routing (s : State) (k : Nat) (m : AudioRing) : (s.setAudioRing k m).routing = s.routing := rfl
@[simp] theorem State.setAudioRing_conversion (s : State) (k : Nat) (m : AudioRing) : (s.setAudioRing k m).conversion = s.conversion := rfl
@[simp] theorem State.setAudioRing_pictures (s : State) (k : Nat) (m : AudioRing) : (s.setAudioRing k m).pictures = s.pictures := rfl
@[simp] theorem State.setAudioRing_panels (s : State) (k : Nat) (m : AudioRing) : (s.setAudioRing k m).panels = s.panels := rfl
@[simp] theorem State.setAudioRing_coding (s : State) (k : Nat) (m : AudioRing) : (s.setAudioRing k m).coding = s.coding := rfl
@[simp] theorem State.setAudioRing_cascade (s : State) (k : Nat) (m : AudioRing) : (s.setAudioRing k m).cascade = s.cascade := rfl
@[simp] theorem State.setAudioRing_memory (s : State) (k : Nat) (m : AudioRing) : (s.setAudioRing k m).memory = s.memory := rfl
@[simp] theorem State.setAudioRing_regs (s : State) (k : Nat) (m : AudioRing) : (s.setAudioRing k m).regs = s.regs := rfl
@[simp] theorem State.setAudioRing_cvus (s : State) (k : Nat) (m : AudioRing) : (s.setAudioRing k m).cvus = s.cvus := rfl
@[simp] theorem State.setAudioRing_lantern (s : State) (k : Nat) (m : AudioRing) : (s.setAudioRing k m).lantern = s.lantern := rfl
@[simp] theorem State.setAudioRing_flash (s : State) (k : Nat) (m : AudioRing) : (s.setAudioRing k m).flash = s.flash := rfl
@[simp] theorem State.setAudioRing_store (s : State) (k : Nat) (m : AudioRing) : (s.setAudioRing k m).store = s.store := rfl
@[simp] theorem State.setAudioRing_pending (s : State) (k : Nat) (m : AudioRing) : (s.setAudioRing k m).pending = s.pending := rfl
@[simp] theorem State.setAudioRing_freeCount (s : State) (k : Nat) (m : AudioRing) : (s.setAudioRing k m).freeCount = s.freeCount := rfl
@[simp] theorem State.setAudioRing_audioRing (s : State) (k : Nat) (m : AudioRing) : (s.setAudioRing k m).audioRing k = m := by
  simp [State.setAudioRing, State.audioRing]
@[simp] theorem State.setAudioRing_audioRing_other (s : State) (k : Nat) (m : AudioRing) (j : Nat) (h : j ≠ k) : (s.setAudioRing k m).audioRing j = s.audioRing j := by
  simp [State.setAudioRing, State.audioRing, h]

/-! ## State.setCvu -/

@[simp] theorem State.setCvu_part (s : State) (k : Nat) (m : Cvu) : (s.setCvu k m).part = s.part := rfl
@[simp] theorem State.setCvu_time (s : State) (k : Nat) (m : Cvu) : (s.setCvu k m).time = s.time := rfl
@[simp] theorem State.setCvu_ccp (s : State) (k : Nat) (m : Cvu) : (s.setCvu k m).ccp = s.ccp := rfl
@[simp] theorem State.setCvu_journal (s : State) (k : Nat) (m : Cvu) : (s.setCvu k m).journal = s.journal := rfl
@[simp] theorem State.setCvu_events (s : State) (k : Nat) (m : Cvu) : (s.setCvu k m).events = s.events := rfl
@[simp] theorem State.setCvu_boot (s : State) (k : Nat) (m : Cvu) : (s.setCvu k m).boot = s.boot := rfl
@[simp] theorem State.setCvu_health (s : State) (k : Nat) (m : Cvu) : (s.setCvu k m).health = s.health := rfl
@[simp] theorem State.setCvu_lanes (s : State) (k : Nat) (m : Cvu) : (s.setCvu k m).lanes = s.lanes := rfl
@[simp] theorem State.setCvu_clocks (s : State) (k : Nat) (m : Cvu) : (s.setCvu k m).clocks = s.clocks := rfl
@[simp] theorem State.setCvu_signals (s : State) (k : Nat) (m : Cvu) : (s.setCvu k m).signals = s.signals := rfl
@[simp] theorem State.setCvu_routing (s : State) (k : Nat) (m : Cvu) : (s.setCvu k m).routing = s.routing := rfl
@[simp] theorem State.setCvu_conversion (s : State) (k : Nat) (m : Cvu) : (s.setCvu k m).conversion = s.conversion := rfl
@[simp] theorem State.setCvu_pictures (s : State) (k : Nat) (m : Cvu) : (s.setCvu k m).pictures = s.pictures := rfl
@[simp] theorem State.setCvu_panels (s : State) (k : Nat) (m : Cvu) : (s.setCvu k m).panels = s.panels := rfl
@[simp] theorem State.setCvu_coding (s : State) (k : Nat) (m : Cvu) : (s.setCvu k m).coding = s.coding := rfl
@[simp] theorem State.setCvu_audio (s : State) (k : Nat) (m : Cvu) : (s.setCvu k m).audio = s.audio := rfl
@[simp] theorem State.setCvu_cascade (s : State) (k : Nat) (m : Cvu) : (s.setCvu k m).cascade = s.cascade := rfl
@[simp] theorem State.setCvu_memory (s : State) (k : Nat) (m : Cvu) : (s.setCvu k m).memory = s.memory := rfl
@[simp] theorem State.setCvu_regs (s : State) (k : Nat) (m : Cvu) : (s.setCvu k m).regs = s.regs := rfl
@[simp] theorem State.setCvu_lantern (s : State) (k : Nat) (m : Cvu) : (s.setCvu k m).lantern = s.lantern := rfl
@[simp] theorem State.setCvu_flash (s : State) (k : Nat) (m : Cvu) : (s.setCvu k m).flash = s.flash := rfl
@[simp] theorem State.setCvu_store (s : State) (k : Nat) (m : Cvu) : (s.setCvu k m).store = s.store := rfl
@[simp] theorem State.setCvu_pending (s : State) (k : Nat) (m : Cvu) : (s.setCvu k m).pending = s.pending := rfl
@[simp] theorem State.setCvu_freeCount (s : State) (k : Nat) (m : Cvu) : (s.setCvu k m).freeCount = s.freeCount := rfl
@[simp] theorem State.setCvu_cvu (s : State) (k : Nat) (m : Cvu) : (s.setCvu k m).cvu k = m := by
  simp [State.setCvu, State.cvu]
@[simp] theorem State.setCvu_cvu_other (s : State) (k : Nat) (m : Cvu) (j : Nat) (h : j ≠ k) : (s.setCvu k m).cvu j = s.cvu j := by
  simp [State.setCvu, State.cvu, h]

/-! ## State.setStack -/

@[simp] theorem State.setStack_part (s : State) (k : Nat) (m : Stack) : (s.setStack k m).part = s.part := rfl
@[simp] theorem State.setStack_time (s : State) (k : Nat) (m : Stack) : (s.setStack k m).time = s.time := rfl
@[simp] theorem State.setStack_ccp (s : State) (k : Nat) (m : Stack) : (s.setStack k m).ccp = s.ccp := rfl
@[simp] theorem State.setStack_journal (s : State) (k : Nat) (m : Stack) : (s.setStack k m).journal = s.journal := rfl
@[simp] theorem State.setStack_events (s : State) (k : Nat) (m : Stack) : (s.setStack k m).events = s.events := rfl
@[simp] theorem State.setStack_boot (s : State) (k : Nat) (m : Stack) : (s.setStack k m).boot = s.boot := rfl
@[simp] theorem State.setStack_health (s : State) (k : Nat) (m : Stack) : (s.setStack k m).health = s.health := rfl
@[simp] theorem State.setStack_lanes (s : State) (k : Nat) (m : Stack) : (s.setStack k m).lanes = s.lanes := rfl
@[simp] theorem State.setStack_clocks (s : State) (k : Nat) (m : Stack) : (s.setStack k m).clocks = s.clocks := rfl
@[simp] theorem State.setStack_signals (s : State) (k : Nat) (m : Stack) : (s.setStack k m).signals = s.signals := rfl
@[simp] theorem State.setStack_routing (s : State) (k : Nat) (m : Stack) : (s.setStack k m).routing = s.routing := rfl
@[simp] theorem State.setStack_conversion (s : State) (k : Nat) (m : Stack) : (s.setStack k m).conversion = s.conversion := rfl
@[simp] theorem State.setStack_pictures (s : State) (k : Nat) (m : Stack) : (s.setStack k m).pictures = s.pictures := rfl
@[simp] theorem State.setStack_panels (s : State) (k : Nat) (m : Stack) : (s.setStack k m).panels = s.panels := rfl
@[simp] theorem State.setStack_coding (s : State) (k : Nat) (m : Stack) : (s.setStack k m).coding = s.coding := rfl
@[simp] theorem State.setStack_audio (s : State) (k : Nat) (m : Stack) : (s.setStack k m).audio = s.audio := rfl
@[simp] theorem State.setStack_cascade (s : State) (k : Nat) (m : Stack) : (s.setStack k m).cascade = s.cascade := rfl
@[simp] theorem State.setStack_regs (s : State) (k : Nat) (m : Stack) : (s.setStack k m).regs = s.regs := rfl
@[simp] theorem State.setStack_cvus (s : State) (k : Nat) (m : Stack) : (s.setStack k m).cvus = s.cvus := rfl
@[simp] theorem State.setStack_lantern (s : State) (k : Nat) (m : Stack) : (s.setStack k m).lantern = s.lantern := rfl
@[simp] theorem State.setStack_flash (s : State) (k : Nat) (m : Stack) : (s.setStack k m).flash = s.flash := rfl
@[simp] theorem State.setStack_store (s : State) (k : Nat) (m : Stack) : (s.setStack k m).store = s.store := rfl
@[simp] theorem State.setStack_pending (s : State) (k : Nat) (m : Stack) : (s.setStack k m).pending = s.pending := rfl
@[simp] theorem State.setStack_freeCount (s : State) (k : Nat) (m : Stack) : (s.setStack k m).freeCount = s.freeCount := rfl
@[simp] theorem State.setStack_stack (s : State) (k : Nat) (m : Stack) : (s.setStack k m).stack k = m := by
  simp [State.setStack, State.stack]
@[simp] theorem State.setStack_stack_other (s : State) (k : Nat) (m : Stack) (j : Nat) (h : j ≠ k) : (s.setStack k m).stack j = s.stack j := by
  simp [State.setStack, State.stack, h]

/-! ## State.setLink -/

@[simp] theorem State.setLink_part (s : State) (k : Nat) (m : Link) : (s.setLink k m).part = s.part := rfl
@[simp] theorem State.setLink_time (s : State) (k : Nat) (m : Link) : (s.setLink k m).time = s.time := rfl
@[simp] theorem State.setLink_ccp (s : State) (k : Nat) (m : Link) : (s.setLink k m).ccp = s.ccp := rfl
@[simp] theorem State.setLink_journal (s : State) (k : Nat) (m : Link) : (s.setLink k m).journal = s.journal := rfl
@[simp] theorem State.setLink_events (s : State) (k : Nat) (m : Link) : (s.setLink k m).events = s.events := rfl
@[simp] theorem State.setLink_boot (s : State) (k : Nat) (m : Link) : (s.setLink k m).boot = s.boot := rfl
@[simp] theorem State.setLink_health (s : State) (k : Nat) (m : Link) : (s.setLink k m).health = s.health := rfl
@[simp] theorem State.setLink_lanes (s : State) (k : Nat) (m : Link) : (s.setLink k m).lanes = s.lanes := rfl
@[simp] theorem State.setLink_clocks (s : State) (k : Nat) (m : Link) : (s.setLink k m).clocks = s.clocks := rfl
@[simp] theorem State.setLink_signals (s : State) (k : Nat) (m : Link) : (s.setLink k m).signals = s.signals := rfl
@[simp] theorem State.setLink_routing (s : State) (k : Nat) (m : Link) : (s.setLink k m).routing = s.routing := rfl
@[simp] theorem State.setLink_conversion (s : State) (k : Nat) (m : Link) : (s.setLink k m).conversion = s.conversion := rfl
@[simp] theorem State.setLink_pictures (s : State) (k : Nat) (m : Link) : (s.setLink k m).pictures = s.pictures := rfl
@[simp] theorem State.setLink_panels (s : State) (k : Nat) (m : Link) : (s.setLink k m).panels = s.panels := rfl
@[simp] theorem State.setLink_coding (s : State) (k : Nat) (m : Link) : (s.setLink k m).coding = s.coding := rfl
@[simp] theorem State.setLink_audio (s : State) (k : Nat) (m : Link) : (s.setLink k m).audio = s.audio := rfl
@[simp] theorem State.setLink_memory (s : State) (k : Nat) (m : Link) : (s.setLink k m).memory = s.memory := rfl
@[simp] theorem State.setLink_regs (s : State) (k : Nat) (m : Link) : (s.setLink k m).regs = s.regs := rfl
@[simp] theorem State.setLink_cvus (s : State) (k : Nat) (m : Link) : (s.setLink k m).cvus = s.cvus := rfl
@[simp] theorem State.setLink_lantern (s : State) (k : Nat) (m : Link) : (s.setLink k m).lantern = s.lantern := rfl
@[simp] theorem State.setLink_flash (s : State) (k : Nat) (m : Link) : (s.setLink k m).flash = s.flash := rfl
@[simp] theorem State.setLink_store (s : State) (k : Nat) (m : Link) : (s.setLink k m).store = s.store := rfl
@[simp] theorem State.setLink_pending (s : State) (k : Nat) (m : Link) : (s.setLink k m).pending = s.pending := rfl
@[simp] theorem State.setLink_freeCount (s : State) (k : Nat) (m : Link) : (s.setLink k m).freeCount = s.freeCount := rfl
@[simp] theorem State.setLink_link (s : State) (k : Nat) (m : Link) : (s.setLink k m).link k = some m := tabFind_tabPut_self ..
@[simp] theorem State.setLink_link_other (s : State) (k : Nat) (m : Link) (j : Nat) (h : j ≠ k) : (s.setLink k m).link j = s.link j :=
  tabFind_tabPut_other _ _ _ _ h

/-! ## State.cachePush -/

@[simp] theorem State.cachePush_part (s : State) (e : Cached) : (s.cachePush e).part = s.part := rfl
@[simp] theorem State.cachePush_time (s : State) (e : Cached) : (s.cachePush e).time = s.time := rfl
@[simp] theorem State.cachePush_journal (s : State) (e : Cached) : (s.cachePush e).journal = s.journal := rfl
@[simp] theorem State.cachePush_events (s : State) (e : Cached) : (s.cachePush e).events = s.events := rfl
@[simp] theorem State.cachePush_boot (s : State) (e : Cached) : (s.cachePush e).boot = s.boot := rfl
@[simp] theorem State.cachePush_health (s : State) (e : Cached) : (s.cachePush e).health = s.health := rfl
@[simp] theorem State.cachePush_lanes (s : State) (e : Cached) : (s.cachePush e).lanes = s.lanes := rfl
@[simp] theorem State.cachePush_clocks (s : State) (e : Cached) : (s.cachePush e).clocks = s.clocks := rfl
@[simp] theorem State.cachePush_signals (s : State) (e : Cached) : (s.cachePush e).signals = s.signals := rfl
@[simp] theorem State.cachePush_routing (s : State) (e : Cached) : (s.cachePush e).routing = s.routing := rfl
@[simp] theorem State.cachePush_conversion (s : State) (e : Cached) : (s.cachePush e).conversion = s.conversion := rfl
@[simp] theorem State.cachePush_pictures (s : State) (e : Cached) : (s.cachePush e).pictures = s.pictures := rfl
@[simp] theorem State.cachePush_panels (s : State) (e : Cached) : (s.cachePush e).panels = s.panels := rfl
@[simp] theorem State.cachePush_coding (s : State) (e : Cached) : (s.cachePush e).coding = s.coding := rfl
@[simp] theorem State.cachePush_audio (s : State) (e : Cached) : (s.cachePush e).audio = s.audio := rfl
@[simp] theorem State.cachePush_cascade (s : State) (e : Cached) : (s.cachePush e).cascade = s.cascade := rfl
@[simp] theorem State.cachePush_memory (s : State) (e : Cached) : (s.cachePush e).memory = s.memory := rfl
@[simp] theorem State.cachePush_regs (s : State) (e : Cached) : (s.cachePush e).regs = s.regs := rfl
@[simp] theorem State.cachePush_cvus (s : State) (e : Cached) : (s.cachePush e).cvus = s.cvus := rfl
@[simp] theorem State.cachePush_lantern (s : State) (e : Cached) : (s.cachePush e).lantern = s.lantern := rfl
@[simp] theorem State.cachePush_flash (s : State) (e : Cached) : (s.cachePush e).flash = s.flash := rfl
@[simp] theorem State.cachePush_store (s : State) (e : Cached) : (s.cachePush e).store = s.store := rfl
@[simp] theorem State.cachePush_pending (s : State) (e : Cached) : (s.cachePush e).pending = s.pending := rfl
@[simp] theorem State.cachePush_freeCount (s : State) (e : Cached) : (s.cachePush e).freeCount = s.freeCount := rfl

/-! ## State.mapStore -/

@[simp] theorem State.mapStore_part (s : State) (f : Store → Store) : (s.mapStore f).part = s.part := rfl
@[simp] theorem State.mapStore_time (s : State) (f : Store → Store) : (s.mapStore f).time = s.time := rfl
@[simp] theorem State.mapStore_ccp (s : State) (f : Store → Store) : (s.mapStore f).ccp = s.ccp := rfl
@[simp] theorem State.mapStore_journal (s : State) (f : Store → Store) : (s.mapStore f).journal = s.journal := rfl
@[simp] theorem State.mapStore_events (s : State) (f : Store → Store) : (s.mapStore f).events = s.events := rfl
@[simp] theorem State.mapStore_boot (s : State) (f : Store → Store) : (s.mapStore f).boot = s.boot := rfl
@[simp] theorem State.mapStore_health (s : State) (f : Store → Store) : (s.mapStore f).health = s.health := rfl
@[simp] theorem State.mapStore_lanes (s : State) (f : Store → Store) : (s.mapStore f).lanes = s.lanes := rfl
@[simp] theorem State.mapStore_clocks (s : State) (f : Store → Store) : (s.mapStore f).clocks = s.clocks := rfl
@[simp] theorem State.mapStore_signals (s : State) (f : Store → Store) : (s.mapStore f).signals = s.signals := rfl
@[simp] theorem State.mapStore_routing (s : State) (f : Store → Store) : (s.mapStore f).routing = s.routing := rfl
@[simp] theorem State.mapStore_conversion (s : State) (f : Store → Store) : (s.mapStore f).conversion = s.conversion := rfl
@[simp] theorem State.mapStore_pictures (s : State) (f : Store → Store) : (s.mapStore f).pictures = s.pictures := rfl
@[simp] theorem State.mapStore_panels (s : State) (f : Store → Store) : (s.mapStore f).panels = s.panels := rfl
@[simp] theorem State.mapStore_coding (s : State) (f : Store → Store) : (s.mapStore f).coding = s.coding := rfl
@[simp] theorem State.mapStore_audio (s : State) (f : Store → Store) : (s.mapStore f).audio = s.audio := rfl
@[simp] theorem State.mapStore_cascade (s : State) (f : Store → Store) : (s.mapStore f).cascade = s.cascade := rfl
@[simp] theorem State.mapStore_memory (s : State) (f : Store → Store) : (s.mapStore f).memory = s.memory := rfl
@[simp] theorem State.mapStore_regs (s : State) (f : Store → Store) : (s.mapStore f).regs = s.regs := rfl
@[simp] theorem State.mapStore_cvus (s : State) (f : Store → Store) : (s.mapStore f).cvus = s.cvus := rfl
@[simp] theorem State.mapStore_lantern (s : State) (f : Store → Store) : (s.mapStore f).lantern = s.lantern := rfl
@[simp] theorem State.mapStore_flash (s : State) (f : Store → Store) : (s.mapStore f).flash = s.flash := rfl
@[simp] theorem State.mapStore_pending (s : State) (f : Store → Store) : (s.mapStore f).pending = s.pending := rfl
@[simp] theorem State.mapStore_freeCount (s : State) (f : Store → Store) : (s.mapStore f).freeCount = s.freeCount := rfl

/-! ## State.mapLantern -/

@[simp] theorem State.mapLantern_part (s : State) (f : Lantern → Lantern) : (s.mapLantern f).part = s.part := rfl
@[simp] theorem State.mapLantern_time (s : State) (f : Lantern → Lantern) : (s.mapLantern f).time = s.time := rfl
@[simp] theorem State.mapLantern_ccp (s : State) (f : Lantern → Lantern) : (s.mapLantern f).ccp = s.ccp := rfl
@[simp] theorem State.mapLantern_journal (s : State) (f : Lantern → Lantern) : (s.mapLantern f).journal = s.journal := rfl
@[simp] theorem State.mapLantern_events (s : State) (f : Lantern → Lantern) : (s.mapLantern f).events = s.events := rfl
@[simp] theorem State.mapLantern_boot (s : State) (f : Lantern → Lantern) : (s.mapLantern f).boot = s.boot := rfl
@[simp] theorem State.mapLantern_health (s : State) (f : Lantern → Lantern) : (s.mapLantern f).health = s.health := rfl
@[simp] theorem State.mapLantern_lanes (s : State) (f : Lantern → Lantern) : (s.mapLantern f).lanes = s.lanes := rfl
@[simp] theorem State.mapLantern_clocks (s : State) (f : Lantern → Lantern) : (s.mapLantern f).clocks = s.clocks := rfl
@[simp] theorem State.mapLantern_signals (s : State) (f : Lantern → Lantern) : (s.mapLantern f).signals = s.signals := rfl
@[simp] theorem State.mapLantern_routing (s : State) (f : Lantern → Lantern) : (s.mapLantern f).routing = s.routing := rfl
@[simp] theorem State.mapLantern_conversion (s : State) (f : Lantern → Lantern) : (s.mapLantern f).conversion = s.conversion := rfl
@[simp] theorem State.mapLantern_pictures (s : State) (f : Lantern → Lantern) : (s.mapLantern f).pictures = s.pictures := rfl
@[simp] theorem State.mapLantern_panels (s : State) (f : Lantern → Lantern) : (s.mapLantern f).panels = s.panels := rfl
@[simp] theorem State.mapLantern_coding (s : State) (f : Lantern → Lantern) : (s.mapLantern f).coding = s.coding := rfl
@[simp] theorem State.mapLantern_audio (s : State) (f : Lantern → Lantern) : (s.mapLantern f).audio = s.audio := rfl
@[simp] theorem State.mapLantern_cascade (s : State) (f : Lantern → Lantern) : (s.mapLantern f).cascade = s.cascade := rfl
@[simp] theorem State.mapLantern_memory (s : State) (f : Lantern → Lantern) : (s.mapLantern f).memory = s.memory := rfl
@[simp] theorem State.mapLantern_regs (s : State) (f : Lantern → Lantern) : (s.mapLantern f).regs = s.regs := rfl
@[simp] theorem State.mapLantern_cvus (s : State) (f : Lantern → Lantern) : (s.mapLantern f).cvus = s.cvus := rfl
@[simp] theorem State.mapLantern_flash (s : State) (f : Lantern → Lantern) : (s.mapLantern f).flash = s.flash := rfl
@[simp] theorem State.mapLantern_store (s : State) (f : Lantern → Lantern) : (s.mapLantern f).store = s.store := rfl
@[simp] theorem State.mapLantern_pending (s : State) (f : Lantern → Lantern) : (s.mapLantern f).pending = s.pending := rfl
@[simp] theorem State.mapLantern_freeCount (s : State) (f : Lantern → Lantern) : (s.mapLantern f).freeCount = s.freeCount := rfl

/-! ## State.mapBoot -/

@[simp] theorem State.mapBoot_part (s : State) (f : Boot → Boot) : (s.mapBoot f).part = s.part := rfl
@[simp] theorem State.mapBoot_time (s : State) (f : Boot → Boot) : (s.mapBoot f).time = s.time := rfl
@[simp] theorem State.mapBoot_ccp (s : State) (f : Boot → Boot) : (s.mapBoot f).ccp = s.ccp := rfl
@[simp] theorem State.mapBoot_journal (s : State) (f : Boot → Boot) : (s.mapBoot f).journal = s.journal := rfl
@[simp] theorem State.mapBoot_events (s : State) (f : Boot → Boot) : (s.mapBoot f).events = s.events := rfl
@[simp] theorem State.mapBoot_health (s : State) (f : Boot → Boot) : (s.mapBoot f).health = s.health := rfl
@[simp] theorem State.mapBoot_lanes (s : State) (f : Boot → Boot) : (s.mapBoot f).lanes = s.lanes := rfl
@[simp] theorem State.mapBoot_clocks (s : State) (f : Boot → Boot) : (s.mapBoot f).clocks = s.clocks := rfl
@[simp] theorem State.mapBoot_signals (s : State) (f : Boot → Boot) : (s.mapBoot f).signals = s.signals := rfl
@[simp] theorem State.mapBoot_routing (s : State) (f : Boot → Boot) : (s.mapBoot f).routing = s.routing := rfl
@[simp] theorem State.mapBoot_conversion (s : State) (f : Boot → Boot) : (s.mapBoot f).conversion = s.conversion := rfl
@[simp] theorem State.mapBoot_pictures (s : State) (f : Boot → Boot) : (s.mapBoot f).pictures = s.pictures := rfl
@[simp] theorem State.mapBoot_panels (s : State) (f : Boot → Boot) : (s.mapBoot f).panels = s.panels := rfl
@[simp] theorem State.mapBoot_coding (s : State) (f : Boot → Boot) : (s.mapBoot f).coding = s.coding := rfl
@[simp] theorem State.mapBoot_audio (s : State) (f : Boot → Boot) : (s.mapBoot f).audio = s.audio := rfl
@[simp] theorem State.mapBoot_cascade (s : State) (f : Boot → Boot) : (s.mapBoot f).cascade = s.cascade := rfl
@[simp] theorem State.mapBoot_memory (s : State) (f : Boot → Boot) : (s.mapBoot f).memory = s.memory := rfl
@[simp] theorem State.mapBoot_regs (s : State) (f : Boot → Boot) : (s.mapBoot f).regs = s.regs := rfl
@[simp] theorem State.mapBoot_cvus (s : State) (f : Boot → Boot) : (s.mapBoot f).cvus = s.cvus := rfl
@[simp] theorem State.mapBoot_lantern (s : State) (f : Boot → Boot) : (s.mapBoot f).lantern = s.lantern := rfl
@[simp] theorem State.mapBoot_flash (s : State) (f : Boot → Boot) : (s.mapBoot f).flash = s.flash := rfl
@[simp] theorem State.mapBoot_store (s : State) (f : Boot → Boot) : (s.mapBoot f).store = s.store := rfl
@[simp] theorem State.mapBoot_pending (s : State) (f : Boot → Boot) : (s.mapBoot f).pending = s.pending := rfl
@[simp] theorem State.mapBoot_freeCount (s : State) (f : Boot → Boot) : (s.mapBoot f).freeCount = s.freeCount := rfl

/-! ## State.mapHealth -/

@[simp] theorem State.mapHealth_part (s : State) (f : Health → Health) : (s.mapHealth f).part = s.part := rfl
@[simp] theorem State.mapHealth_time (s : State) (f : Health → Health) : (s.mapHealth f).time = s.time := rfl
@[simp] theorem State.mapHealth_ccp (s : State) (f : Health → Health) : (s.mapHealth f).ccp = s.ccp := rfl
@[simp] theorem State.mapHealth_journal (s : State) (f : Health → Health) : (s.mapHealth f).journal = s.journal := rfl
@[simp] theorem State.mapHealth_events (s : State) (f : Health → Health) : (s.mapHealth f).events = s.events := rfl
@[simp] theorem State.mapHealth_boot (s : State) (f : Health → Health) : (s.mapHealth f).boot = s.boot := rfl
@[simp] theorem State.mapHealth_lanes (s : State) (f : Health → Health) : (s.mapHealth f).lanes = s.lanes := rfl
@[simp] theorem State.mapHealth_clocks (s : State) (f : Health → Health) : (s.mapHealth f).clocks = s.clocks := rfl
@[simp] theorem State.mapHealth_signals (s : State) (f : Health → Health) : (s.mapHealth f).signals = s.signals := rfl
@[simp] theorem State.mapHealth_routing (s : State) (f : Health → Health) : (s.mapHealth f).routing = s.routing := rfl
@[simp] theorem State.mapHealth_conversion (s : State) (f : Health → Health) : (s.mapHealth f).conversion = s.conversion := rfl
@[simp] theorem State.mapHealth_pictures (s : State) (f : Health → Health) : (s.mapHealth f).pictures = s.pictures := rfl
@[simp] theorem State.mapHealth_panels (s : State) (f : Health → Health) : (s.mapHealth f).panels = s.panels := rfl
@[simp] theorem State.mapHealth_coding (s : State) (f : Health → Health) : (s.mapHealth f).coding = s.coding := rfl
@[simp] theorem State.mapHealth_audio (s : State) (f : Health → Health) : (s.mapHealth f).audio = s.audio := rfl
@[simp] theorem State.mapHealth_cascade (s : State) (f : Health → Health) : (s.mapHealth f).cascade = s.cascade := rfl
@[simp] theorem State.mapHealth_memory (s : State) (f : Health → Health) : (s.mapHealth f).memory = s.memory := rfl
@[simp] theorem State.mapHealth_regs (s : State) (f : Health → Health) : (s.mapHealth f).regs = s.regs := rfl
@[simp] theorem State.mapHealth_cvus (s : State) (f : Health → Health) : (s.mapHealth f).cvus = s.cvus := rfl
@[simp] theorem State.mapHealth_lantern (s : State) (f : Health → Health) : (s.mapHealth f).lantern = s.lantern := rfl
@[simp] theorem State.mapHealth_flash (s : State) (f : Health → Health) : (s.mapHealth f).flash = s.flash := rfl
@[simp] theorem State.mapHealth_store (s : State) (f : Health → Health) : (s.mapHealth f).store = s.store := rfl
@[simp] theorem State.mapHealth_pending (s : State) (f : Health → Health) : (s.mapHealth f).pending = s.pending := rfl
@[simp] theorem State.mapHealth_freeCount (s : State) (f : Health → Health) : (s.mapHealth f).freeCount = s.freeCount := rfl

/-! ## State.mapMemory -/

@[simp] theorem State.mapMemory_part (s : State) (f : Memory → Memory) : (s.mapMemory f).part = s.part := rfl
@[simp] theorem State.mapMemory_time (s : State) (f : Memory → Memory) : (s.mapMemory f).time = s.time := rfl
@[simp] theorem State.mapMemory_ccp (s : State) (f : Memory → Memory) : (s.mapMemory f).ccp = s.ccp := rfl
@[simp] theorem State.mapMemory_journal (s : State) (f : Memory → Memory) : (s.mapMemory f).journal = s.journal := rfl
@[simp] theorem State.mapMemory_events (s : State) (f : Memory → Memory) : (s.mapMemory f).events = s.events := rfl
@[simp] theorem State.mapMemory_boot (s : State) (f : Memory → Memory) : (s.mapMemory f).boot = s.boot := rfl
@[simp] theorem State.mapMemory_health (s : State) (f : Memory → Memory) : (s.mapMemory f).health = s.health := rfl
@[simp] theorem State.mapMemory_lanes (s : State) (f : Memory → Memory) : (s.mapMemory f).lanes = s.lanes := rfl
@[simp] theorem State.mapMemory_clocks (s : State) (f : Memory → Memory) : (s.mapMemory f).clocks = s.clocks := rfl
@[simp] theorem State.mapMemory_signals (s : State) (f : Memory → Memory) : (s.mapMemory f).signals = s.signals := rfl
@[simp] theorem State.mapMemory_routing (s : State) (f : Memory → Memory) : (s.mapMemory f).routing = s.routing := rfl
@[simp] theorem State.mapMemory_conversion (s : State) (f : Memory → Memory) : (s.mapMemory f).conversion = s.conversion := rfl
@[simp] theorem State.mapMemory_pictures (s : State) (f : Memory → Memory) : (s.mapMemory f).pictures = s.pictures := rfl
@[simp] theorem State.mapMemory_panels (s : State) (f : Memory → Memory) : (s.mapMemory f).panels = s.panels := rfl
@[simp] theorem State.mapMemory_coding (s : State) (f : Memory → Memory) : (s.mapMemory f).coding = s.coding := rfl
@[simp] theorem State.mapMemory_audio (s : State) (f : Memory → Memory) : (s.mapMemory f).audio = s.audio := rfl
@[simp] theorem State.mapMemory_cascade (s : State) (f : Memory → Memory) : (s.mapMemory f).cascade = s.cascade := rfl
@[simp] theorem State.mapMemory_regs (s : State) (f : Memory → Memory) : (s.mapMemory f).regs = s.regs := rfl
@[simp] theorem State.mapMemory_cvus (s : State) (f : Memory → Memory) : (s.mapMemory f).cvus = s.cvus := rfl
@[simp] theorem State.mapMemory_lantern (s : State) (f : Memory → Memory) : (s.mapMemory f).lantern = s.lantern := rfl
@[simp] theorem State.mapMemory_flash (s : State) (f : Memory → Memory) : (s.mapMemory f).flash = s.flash := rfl
@[simp] theorem State.mapMemory_store (s : State) (f : Memory → Memory) : (s.mapMemory f).store = s.store := rfl
@[simp] theorem State.mapMemory_pending (s : State) (f : Memory → Memory) : (s.mapMemory f).pending = s.pending := rfl
@[simp] theorem State.mapMemory_freeCount (s : State) (f : Memory → Memory) : (s.mapMemory f).freeCount = s.freeCount := rfl

/-! ## State.mapCascade -/

@[simp] theorem State.mapCascade_part (s : State) (f : Cascade → Cascade) : (s.mapCascade f).part = s.part := rfl
@[simp] theorem State.mapCascade_time (s : State) (f : Cascade → Cascade) : (s.mapCascade f).time = s.time := rfl
@[simp] theorem State.mapCascade_ccp (s : State) (f : Cascade → Cascade) : (s.mapCascade f).ccp = s.ccp := rfl
@[simp] theorem State.mapCascade_journal (s : State) (f : Cascade → Cascade) : (s.mapCascade f).journal = s.journal := rfl
@[simp] theorem State.mapCascade_events (s : State) (f : Cascade → Cascade) : (s.mapCascade f).events = s.events := rfl
@[simp] theorem State.mapCascade_boot (s : State) (f : Cascade → Cascade) : (s.mapCascade f).boot = s.boot := rfl
@[simp] theorem State.mapCascade_health (s : State) (f : Cascade → Cascade) : (s.mapCascade f).health = s.health := rfl
@[simp] theorem State.mapCascade_lanes (s : State) (f : Cascade → Cascade) : (s.mapCascade f).lanes = s.lanes := rfl
@[simp] theorem State.mapCascade_clocks (s : State) (f : Cascade → Cascade) : (s.mapCascade f).clocks = s.clocks := rfl
@[simp] theorem State.mapCascade_signals (s : State) (f : Cascade → Cascade) : (s.mapCascade f).signals = s.signals := rfl
@[simp] theorem State.mapCascade_routing (s : State) (f : Cascade → Cascade) : (s.mapCascade f).routing = s.routing := rfl
@[simp] theorem State.mapCascade_conversion (s : State) (f : Cascade → Cascade) : (s.mapCascade f).conversion = s.conversion := rfl
@[simp] theorem State.mapCascade_pictures (s : State) (f : Cascade → Cascade) : (s.mapCascade f).pictures = s.pictures := rfl
@[simp] theorem State.mapCascade_panels (s : State) (f : Cascade → Cascade) : (s.mapCascade f).panels = s.panels := rfl
@[simp] theorem State.mapCascade_coding (s : State) (f : Cascade → Cascade) : (s.mapCascade f).coding = s.coding := rfl
@[simp] theorem State.mapCascade_audio (s : State) (f : Cascade → Cascade) : (s.mapCascade f).audio = s.audio := rfl
@[simp] theorem State.mapCascade_memory (s : State) (f : Cascade → Cascade) : (s.mapCascade f).memory = s.memory := rfl
@[simp] theorem State.mapCascade_regs (s : State) (f : Cascade → Cascade) : (s.mapCascade f).regs = s.regs := rfl
@[simp] theorem State.mapCascade_cvus (s : State) (f : Cascade → Cascade) : (s.mapCascade f).cvus = s.cvus := rfl
@[simp] theorem State.mapCascade_lantern (s : State) (f : Cascade → Cascade) : (s.mapCascade f).lantern = s.lantern := rfl
@[simp] theorem State.mapCascade_flash (s : State) (f : Cascade → Cascade) : (s.mapCascade f).flash = s.flash := rfl
@[simp] theorem State.mapCascade_store (s : State) (f : Cascade → Cascade) : (s.mapCascade f).store = s.store := rfl
@[simp] theorem State.mapCascade_pending (s : State) (f : Cascade → Cascade) : (s.mapCascade f).pending = s.pending := rfl
@[simp] theorem State.mapCascade_freeCount (s : State) (f : Cascade → Cascade) : (s.mapCascade f).freeCount = s.freeCount := rfl

/-! ## State.mapRegs -/

@[simp] theorem State.mapRegs_part (s : State) (f : Registers → Registers) : (s.mapRegs f).part = s.part := rfl
@[simp] theorem State.mapRegs_time (s : State) (f : Registers → Registers) : (s.mapRegs f).time = s.time := rfl
@[simp] theorem State.mapRegs_ccp (s : State) (f : Registers → Registers) : (s.mapRegs f).ccp = s.ccp := rfl
@[simp] theorem State.mapRegs_journal (s : State) (f : Registers → Registers) : (s.mapRegs f).journal = s.journal := rfl
@[simp] theorem State.mapRegs_events (s : State) (f : Registers → Registers) : (s.mapRegs f).events = s.events := rfl
@[simp] theorem State.mapRegs_boot (s : State) (f : Registers → Registers) : (s.mapRegs f).boot = s.boot := rfl
@[simp] theorem State.mapRegs_health (s : State) (f : Registers → Registers) : (s.mapRegs f).health = s.health := rfl
@[simp] theorem State.mapRegs_lanes (s : State) (f : Registers → Registers) : (s.mapRegs f).lanes = s.lanes := rfl
@[simp] theorem State.mapRegs_clocks (s : State) (f : Registers → Registers) : (s.mapRegs f).clocks = s.clocks := rfl
@[simp] theorem State.mapRegs_signals (s : State) (f : Registers → Registers) : (s.mapRegs f).signals = s.signals := rfl
@[simp] theorem State.mapRegs_routing (s : State) (f : Registers → Registers) : (s.mapRegs f).routing = s.routing := rfl
@[simp] theorem State.mapRegs_conversion (s : State) (f : Registers → Registers) : (s.mapRegs f).conversion = s.conversion := rfl
@[simp] theorem State.mapRegs_pictures (s : State) (f : Registers → Registers) : (s.mapRegs f).pictures = s.pictures := rfl
@[simp] theorem State.mapRegs_panels (s : State) (f : Registers → Registers) : (s.mapRegs f).panels = s.panels := rfl
@[simp] theorem State.mapRegs_coding (s : State) (f : Registers → Registers) : (s.mapRegs f).coding = s.coding := rfl
@[simp] theorem State.mapRegs_audio (s : State) (f : Registers → Registers) : (s.mapRegs f).audio = s.audio := rfl
@[simp] theorem State.mapRegs_cascade (s : State) (f : Registers → Registers) : (s.mapRegs f).cascade = s.cascade := rfl
@[simp] theorem State.mapRegs_memory (s : State) (f : Registers → Registers) : (s.mapRegs f).memory = s.memory := rfl
@[simp] theorem State.mapRegs_cvus (s : State) (f : Registers → Registers) : (s.mapRegs f).cvus = s.cvus := rfl
@[simp] theorem State.mapRegs_lantern (s : State) (f : Registers → Registers) : (s.mapRegs f).lantern = s.lantern := rfl
@[simp] theorem State.mapRegs_flash (s : State) (f : Registers → Registers) : (s.mapRegs f).flash = s.flash := rfl
@[simp] theorem State.mapRegs_store (s : State) (f : Registers → Registers) : (s.mapRegs f).store = s.store := rfl
@[simp] theorem State.mapRegs_pending (s : State) (f : Registers → Registers) : (s.mapRegs f).pending = s.pending := rfl
@[simp] theorem State.mapRegs_freeCount (s : State) (f : Registers → Registers) : (s.mapRegs f).freeCount = s.freeCount := rfl

/-! ## State.mapFlash -/

@[simp] theorem State.mapFlash_part (s : State) (f : Flash → Flash) : (s.mapFlash f).part = s.part := rfl
@[simp] theorem State.mapFlash_time (s : State) (f : Flash → Flash) : (s.mapFlash f).time = s.time := rfl
@[simp] theorem State.mapFlash_ccp (s : State) (f : Flash → Flash) : (s.mapFlash f).ccp = s.ccp := rfl
@[simp] theorem State.mapFlash_journal (s : State) (f : Flash → Flash) : (s.mapFlash f).journal = s.journal := rfl
@[simp] theorem State.mapFlash_events (s : State) (f : Flash → Flash) : (s.mapFlash f).events = s.events := rfl
@[simp] theorem State.mapFlash_boot (s : State) (f : Flash → Flash) : (s.mapFlash f).boot = s.boot := rfl
@[simp] theorem State.mapFlash_health (s : State) (f : Flash → Flash) : (s.mapFlash f).health = s.health := rfl
@[simp] theorem State.mapFlash_lanes (s : State) (f : Flash → Flash) : (s.mapFlash f).lanes = s.lanes := rfl
@[simp] theorem State.mapFlash_clocks (s : State) (f : Flash → Flash) : (s.mapFlash f).clocks = s.clocks := rfl
@[simp] theorem State.mapFlash_signals (s : State) (f : Flash → Flash) : (s.mapFlash f).signals = s.signals := rfl
@[simp] theorem State.mapFlash_routing (s : State) (f : Flash → Flash) : (s.mapFlash f).routing = s.routing := rfl
@[simp] theorem State.mapFlash_conversion (s : State) (f : Flash → Flash) : (s.mapFlash f).conversion = s.conversion := rfl
@[simp] theorem State.mapFlash_pictures (s : State) (f : Flash → Flash) : (s.mapFlash f).pictures = s.pictures := rfl
@[simp] theorem State.mapFlash_panels (s : State) (f : Flash → Flash) : (s.mapFlash f).panels = s.panels := rfl
@[simp] theorem State.mapFlash_coding (s : State) (f : Flash → Flash) : (s.mapFlash f).coding = s.coding := rfl
@[simp] theorem State.mapFlash_audio (s : State) (f : Flash → Flash) : (s.mapFlash f).audio = s.audio := rfl
@[simp] theorem State.mapFlash_cascade (s : State) (f : Flash → Flash) : (s.mapFlash f).cascade = s.cascade := rfl
@[simp] theorem State.mapFlash_memory (s : State) (f : Flash → Flash) : (s.mapFlash f).memory = s.memory := rfl
@[simp] theorem State.mapFlash_regs (s : State) (f : Flash → Flash) : (s.mapFlash f).regs = s.regs := rfl
@[simp] theorem State.mapFlash_cvus (s : State) (f : Flash → Flash) : (s.mapFlash f).cvus = s.cvus := rfl
@[simp] theorem State.mapFlash_lantern (s : State) (f : Flash → Flash) : (s.mapFlash f).lantern = s.lantern := rfl
@[simp] theorem State.mapFlash_store (s : State) (f : Flash → Flash) : (s.mapFlash f).store = s.store := rfl
@[simp] theorem State.mapFlash_pending (s : State) (f : Flash → Flash) : (s.mapFlash f).pending = s.pending := rfl
@[simp] theorem State.mapFlash_freeCount (s : State) (f : Flash → Flash) : (s.mapFlash f).freeCount = s.freeCount := rfl

end Sys2Proof.Machine
end

