-- ==== Sys2Proof/Laws/Protocol.lean ====
section
/-! SUPPORT. What an executed command comes to: one lemma for the whole of R61 to R66, and what the protocol's own
operations leave alone. -/

namespace Sys2Proof.Machine

/-! ## Only the protocol's own records -/

/-- Two states are equal up to the records of the protocol. -/
theorem State.protocol_trans {s t u : State} (h : t = s.protocol t) (k : u = t.protocol u) : u = s.protocol u := by
  rw [k, h]; rfl

theorem State.protocol_ite {s t u : State} {c : Prop} [Decidable c] (h : t = s.protocol t) (k : u = s.protocol u) :
    (if c then t else u) = s.protocol (if c then t else u) := by
  split <;> assumption

theorem State.protocol_self (s : State) : s = s.protocol s := rfl

theorem State.gatherStanding_protocol (s : State) (jsn : Nat) : s.gatherStanding jsn = s.protocol (s.gatherStanding jsn) := by
  unfold State.gatherStanding State.gather State.nvTake State.nvStart State.nvBegin State.mapStore
  simp only []
  repeat' split
  all_goals rfl

theorem State.log_protocol (s : State) (e : Entry) : s.log e = s.protocol (s.log e) := by
  unfold State.log
  exact State.protocol_ite
    (State.protocol_trans (t := { s with journal := s.journal.append s.time.dt e }) rfl (State.gatherStanding_protocol _ _)) rfl

theorem State.raiseCmd_protocol (s : State) (n : EventName) (v : View) (jsn st : Nat) (e : Option Effect) :
    s.raiseCmd n v jsn st e = s.protocol (s.raiseCmd n v jsn st e) := rfl

theorem State.raiseFull_protocol (s : State) (v : View) (n : EventName) (sv : Nat) (src : Src) (g : Option Nat) (d : Nat) :
    s.raiseFull v n sv src g d = s.protocol (s.raiseFull v n sv src g d) := by
  unfold State.raiseFull
  exact State.protocol_ite rfl rfl

theorem State.raise_protocol (s : State) (n : EventName) (src : Src) (d : Nat) : s.raise n src d = s.protocol (s.raise n src d) :=
  State.raiseFull_protocol ..

theorem State.raiseAt_protocol (s : State) (n : EventName) (src : Src) (g d : Nat) :
    s.raiseAt n src g d = s.protocol (s.raiseAt n src g d) := State.raiseFull_protocol ..

theorem State.mbInterrupt_protocol (s : State) (k : Nat) : s.mbInterrupt k = s.protocol (s.mbInterrupt k) := by
  unfold State.mbInterrupt
  exact State.protocol_ite rfl rfl

theorem State.respond_protocol (s : State) (k : Nat) (m : Mailbox) : s.respond k m = s.protocol (s.respond k m) :=
  State.protocol_trans (t := s.setMailbox k m) rfl (State.mbInterrupt_protocol _ _)

theorem State.cacheUpdate_protocol (s : State) (j : Nat) (f : Cached → Cached) :
    s.cacheUpdate j f = s.protocol (s.cacheUpdate j f) := rfl

/-- Reaching DONE changes nothing but the protocol's records. -/
theorem Cmd.finish_protocol (c : Cmd) (x : Ctx) (a : Answer) : c.finish x a = a.state.protocol (c.finish x a) := by
  unfold Cmd.finish
  refine State.protocol_ite ?_ (State.protocol_trans ?_ (State.respond_protocol _ _ _)) <;>
  · refine State.protocol_ite (State.protocol_trans ?_ (State.raiseCmd_protocol _ _ _ _ _ _)) ?_ <;>
    exact State.protocol_trans (State.protocol_ite (State.log_protocol _ _) rfl) (State.cacheUpdate_protocol _ _ _)

/-- Ringing the doorbell and being accepted change nothing but the protocol's records. -/
theorem Cmd.before_protocol (c : Cmd) (r : Request) (s : State) : c.before r s = s.protocol (c.before r s) := by
  unfold Cmd.before
  exact State.protocol_ite rfl rfl

theorem Cmd.accept_protocol (c : Cmd) (r : Request) (s : State) : c.accept r s = s.protocol (c.accept r s) := by
  unfold Cmd.accept
  exact State.protocol_trans (State.log_protocol s _) rfl

theorem Cmd.taken_protocol (c : Cmd) (r : Request) (s : State) : c.taken r s = s.protocol (c.taken r s) :=
  State.protocol_trans (c.before_protocol r s) (c.accept_protocol r _)

/-! ## The mailbox -/

@[simp] theorem State.mailbox_setMailbox (s : State) (k : Nat) (m : Mailbox) : (s.setMailbox k m).mailbox k = m := by
  simp [State.mailbox, State.setMailbox]

@[simp] theorem State.mailbox_respond (s : State) (k : Nat) (m : Mailbox) : (s.respond k m).mailbox k = m := by
  unfold State.respond State.mbInterrupt
  split
  · exact State.mailbox_setMailbox s k m
  · exact State.mailbox_setMailbox s k m

/-- The mailbox of a command that does not answer PENDING is DONE, with the command's status and JSN and its payload. -/
theorem Cmd.finish_mailbox (c : Cmd) (x : Ctx) (a : Answer) (h : a.status ≠ stPending) :
    let m := (c.finish x a).mailbox x.key
    m.state = .done ∧ m.status = a.status ∧ m.jsn = x.jsn ∧ m.effect = a.effect ∧ m.payload = inlinePayload x a := by
  unfold Cmd.finish
  simp only [if_neg h, State.mailbox_respond]
  simp

/-! ## The schedule -/

theorem State.log_ccp (s : State) (e : Entry) : (s.log e).ccp = s.ccp := by
  unfold State.log State.gatherStanding State.gather State.nvTake State.nvStart State.nvBegin State.mapStore
  simp only []
  repeat' split
  all_goals rfl

theorem State.respond_ccp (s : State) (k : Nat) (m : Mailbox) :
    (s.respond k m).ccp = { s.ccp with mailboxes := tabPut s.ccp.mailboxes k m } := by
  unfold State.respond State.mbInterrupt
  split <;> rfl

/-- What finishing a command changes of the protocol's records: the mailboxes and the result cache. -/
theorem Cmd.finish_ccp (c : Cmd) (x : Ctx) (a : Answer) :
    (c.finish x a).ccp = { a.state.ccp with mailboxes := (c.finish x a).ccp.mailboxes, cache := (c.finish x a).ccp.cache } := by
  have h1 (t : State) : (if (!openStatus a.status) = true then
      t.log (outcomeEntry t x.req.view x.session c.opcode a.status x.flags x.req.token.toNat x.req.major.toNat x.req.minor.toNat
        ((if a.status = stOk then 1 else 0) + if a.standing = true then 16 else 0) x.jsn (inlinePayload x a) a.effect)
      else t).ccp = t.ccp := by
    split
    · exact State.log_ccp _ _
    · rfl
  have h2 : ∀ (e : Cached → Cached) (f : List (Nat × Mailbox)), { ((if (!openStatus a.status) = true then
      a.state.log (outcomeEntry a.state x.req.view x.session c.opcode a.status x.flags x.req.token.toNat x.req.major.toNat x.req.minor.toNat
        ((if a.status = stOk then 1 else 0) + if a.standing = true then 16 else 0) x.jsn (inlinePayload x a) a.effect)
      else a.state).cacheUpdate x.jsn e).ccp with mailboxes := f } = { a.state.ccp with mailboxes := f, cache := ((if (!openStatus a.status) = true then
      a.state.log (outcomeEntry a.state x.req.view x.session c.opcode a.status x.flags x.req.token.toNat x.req.major.toNat x.req.minor.toNat
        ((if a.status = stOk then 1 else 0) + if a.standing = true then 16 else 0) x.jsn (inlinePayload x a) a.effect)
      else a.state).cacheUpdate x.jsn e).ccp.cache } := by
    intro e f
    simp only [State.cacheUpdate, h1]
  unfold Cmd.finish
  simp only []
  split
  · split <;> exact h2 _ _
  · rw [State.respond_ccp]
    split <;> exact h2 _ _

/-- Finishing a command leaves the schedule as its run left it. -/
theorem Cmd.finish_schedule (c : Cmd) (x : Ctx) (a : Answer) : (c.finish x a).ccp.schedule = a.state.ccp.schedule := by
  rw [c.finish_ccp x a]

/-! ## Execution -/

/-- A request that passes the checks is accepted, answered and finished. -/
theorem Cmd.process_passes (c : Cmd) (r : Request) (b : State) (h1 : c.firstFailure r b = none) (h2 : b.cachedToken r = none)
    (h3 : c.args (c.ctx r b 0) b = true) (h4 : c.noMajor (c.ctx r b 0) b = none) :
    c.process r b = c.finish (c.ctx r b (c.accept r b).journal.newest)
      (c.answer (c.ctx r b (c.accept r b).journal.newest) (c.accept r b)) := by
  unfold Cmd.process
  simp [h1, h2, h3, h4]

/-- What serves a request that passes. -/
theorem Cmd.serve_passes (c : Cmd) (r : Request) (s : State) (h : c.passes r s = true) :
    c.serve r s = c.finish (c.work r s) (c.answer (c.work r s) (c.taken r s)) := by
  unfold Cmd.passes at h
  simp only [Bool.and_eq_true, Bool.or_eq_true, beq_iff_eq, Bool.not_eq_true', Option.isNone_iff_eq_none, Bool.or_eq_false_iff,
    beq_eq_false_iff_ne, ne_eq] at h
  obtain ⟨⟨⟨⟨⟨h0, h1⟩, h2⟩, h3⟩, h4⟩, h5⟩ := h
  have key : c.process r (c.before r s) = c.finish (c.work r s) (c.answer (c.work r s) (c.taken r s)) :=
    c.process_passes r (c.before r s) h2 h3 h4 h5
  rw [← key]
  unfold Cmd.serve Cmd.before
  rcases h1 with ⟨ha, hb⟩ | ⟨ha, hb⟩
  · simp [h0, ha, hb]
  · simp [h0, ha, hb]

/-- A request that is executed comes to the end of its own run. -/
theorem Cmd.serve_executes (c : Cmd) (r : Request) (s : State) (h : c.executes r s = true) :
    c.serve r s = c.finish (c.work r s) (c.run (c.work r s) (c.taken r s)) := by
  unfold Cmd.executes at h
  simp only [Bool.and_eq_true, Bool.not_eq_true'] at h
  obtain ⟨⟨⟨h0, h1⟩, h2⟩, h3⟩ := h
  rw [c.serve_passes r s h0]
  have hr : (c.work r s).req = r := rfl
  unfold Cmd.answer
  rw [hr, h1, h2, h3]
  simp

/-- A command that has no use for DMA takes the request's payload as its arguments. -/
theorem Cmd.work_plain (c : Cmd) (r : Request) (s : State) (h : c.dma = .ignored) :
    (c.work r s).args = r.payload ∧ (c.work r s).data = [] ∧ (c.work r s).dma = false := by
  have e : (c.dma == DmaUse.ignored) = true := by rw [h]; rfl
  unfold Cmd.work Cmd.ctx
  simp [e]

/-- The whole of an executed request: its final answer, its schedule, and all that is neither its run's own effect nor one of
the protocol's records left alone. -/
theorem Cmd.serve_spec (c : Cmd) (r : Request) (s : State) (h : c.executes r s = true)
    (hp : (c.run (c.work r s) (c.taken r s)).status ≠ stPending) :
    let a := c.run (c.work r s) (c.taken r s)
    let t := c.serve r s
    t.answered r a.status (c.work r s).jsn ∧ (t.mailbox (mbKey r.view r.mailbox)).effect = a.effect
      ∧ (t.mailbox (mbKey r.view r.mailbox)).payload = inlinePayload (c.work r s) a
      ∧ t.ccp.schedule = a.state.ccp.schedule ∧ t = a.state.protocol t := by
  intro a t
  have e : t = c.finish (c.work r s) a := c.serve_executes r s h
  have m := c.finish_mailbox (c.work r s) a hp
  have k : (c.work r s).key = mbKey r.view r.mailbox := rfl
  rw [e]
  simp only [k] at m
  exact ⟨⟨m.1, m.2.1, m.2.2.1⟩, m.2.2.2.1, m.2.2.2.2, c.finish_schedule _ _, c.finish_protocol _ _⟩

end Sys2Proof.Machine
end

