-- ==== Sys2Proof/Laws/Commands.lean ====
section
/-! SUPPORT. What a command that is done at once, one that waits for its effect point and one that goes on in the background
come to, each in one lemma over the command's own run. -/

namespace Sys2Proof.Machine

/-- What being taken changes of the protocol's records: the mailboxes, the result cache and the cycle count. -/
theorem Cmd.taken_ccp (c : Cmd) (r : Request) (s : State) :
    ∃ m l n, (c.taken r s).ccp = { s.ccp with mailboxes := m, cache := l, cycle := n } := by
  have h1 : ∃ m n, (c.before r s).ccp = { s.ccp with mailboxes := m, cycle := n } := by
    unfold Cmd.before
    simp only []
    split
    · exact ⟨s.ccp.mailboxes, s.ccp.cycle, rfl⟩
    · exact ⟨_, _, rfl⟩
  obtain ⟨m, n, h1⟩ := h1
  have h2 (b : State) : ∃ m l, (c.accept r b).ccp = { b.ccp with mailboxes := m, cache := l } := by
    unfold Cmd.accept
    simp only [State.cachePush, State.setMailbox, State.log_ccp]
    exact ⟨_, _, rfl⟩
  obtain ⟨m', l, h2⟩ := h2 (c.before r s)
  refine ⟨m', l, n, ?_⟩
  show (c.accept r (c.before r s)).ccp = _
  rw [h2, h1]

/-- A request that is taken stands ACCEPTED under its JSN. -/
theorem Cmd.taken_mailbox (c : Cmd) (r : Request) (s : State) :
    ((c.taken r s).mailbox (mbKey r.view r.mailbox)).state = .accepted
      ∧ ((c.taken r s).mailbox (mbKey r.view r.mailbox)).jsn = (c.work r s).jsn := by
  unfold Cmd.work Cmd.ctx Cmd.taken Cmd.accept
  simp only [State.mailbox, State.cachePush, State.setMailbox, tabGet_tabPut_self]
  exact ⟨trivial, trivial⟩

/-- A command that is done at once: its answer, and nothing but its own effect on the state and the protocol's records. -/
theorem Cmd.serve_done (c : Cmd) (r : Request) (s u : State) (a : Answer) (h : c.executes r s = true)
    (hr : c.run (c.work r s) (c.taken r s) = a) (hp : a.status ≠ stPending) (hu : u = a.state) :
    (c.serve r s).answered r a.status (c.work r s).jsn ∧ c.serve r s = u.protocol (c.serve r s)
      ∧ ((c.serve r s).mailbox (mbKey r.view r.mailbox)).payload = inlinePayload (c.work r s) a
      ∧ ((c.serve r s).mailbox (mbKey r.view r.mailbox)).effect = a.effect
      ∧ (c.serve r s).ccp.schedule = a.state.ccp.schedule := by
  have k := c.serve_spec r s h (by rw [hr]; exact hp)
  simp only [hr] at k
  rw [hu]
  exact ⟨k.1, k.2.2.2.2, k.2.2.1, k.2.1, k.2.2.2.1⟩

/-- A command that waits for its effect point: SCHEDULED or APPLIED_LATE, an entry of the schedule, and nothing else but what
its run did before it armed the command. -/
theorem Cmd.serve_waits (c : Cmd) (r : Request) (s u : State) (k : Point) (g : Nat) (args : Bytes) (charges : List Charge)
    (fits : Effect → Bool) (h : c.executes r s = true)
    (hr : c.run (c.work r s) (c.taken r s) = u.schedule (c.work r s) c.opcode k g args charges fits)
    (hp : u.place k g r.atFrame.toNat r.atLine.toNat r.group.toNat (u.stampOf (mbKey r.view r.mailbox) g) = c.placed r s k g)
    (hw : u.waiting = (c.taken r s).waiting) (hm : c.mayWait r s k g) (hf : fits (c.placed r s k g).effect = true)
    (ha : (c.work r s).args.isPrefixOf args = true) :
    (c.serve r s).waitsFor c r s k g ∧ c.serve r s = u.protocol (c.serve r s) := by
  have hreq : (c.work r s).req = r := rfl
  have hkey : (c.work r s).key = mbKey r.view r.mailbox := rfl
  have e : u.schedule (c.work r s) c.opcode k g args charges fits
      = { status := if (c.placed r s k g).late then stAppliedLate else stScheduled, effect := some (c.placed r s k g).effect
          state := { u with ccp := { u.ccp with schedule := u.ccp.schedule ++ [
            { jsn := (c.work r s).jsn, opcode := c.opcode, view := r.view, session := (c.work r s).session
              flags := (c.work r s).flags, token := r.token.toNat, major := r.major.toNat, minor := r.minor.toNat, args
              effect := (c.placed r s k g).effect, kind := k.code
              status := if (c.placed r s k g).late then stAppliedLate else stScheduled, charges, last := true, begun := false
              atDt := none }] } } } := by
    unfold State.schedule
    simp only [hreq, hkey, hp]
    rw [if_neg, if_neg]
    · rw [hw]; simp only [hf, Bool.not_true, Bool.or_false, decide_eq_true_eq, Nat.not_le]; exact hm.1
    · have h2 := hm.2
      intro hh
      simp only [Bool.and_eq_true] at hh
      have h3 := h2 hh.1
      have h4 : flagDiscard r.flags.toNat = true := hh.2
      rw [h4] at h3
      cases h3
  have st : (if (c.placed r s k g).late then stAppliedLate else stScheduled) ≠ stPending := by split <;> decide
  have z := c.serve_done r s _ _ h (hr.trans e) st rfl
  refine ⟨⟨z.1, z.2.2.2.1, ?_⟩, ?_⟩
  · rw [z.2.2.2.2]
    simp [ha]
  · exact z.2.1

/-- A command that goes on in the background: PENDING, its mailbox ACCEPTED, its work among the jobs, and nothing else but what
its run did. -/
theorem Cmd.serve_pends (c : Cmd) (r : Request) (s u : State) (args : Bytes) (h : c.executes r s = true)
    (hr : c.run (c.work r s) (c.taken r s) = u.pend (c.work r s) c.opcode args)
    (hm : u.mailbox (mbKey r.view r.mailbox) = (c.taken r s).mailbox (mbKey r.view r.mailbox)) :
    (c.serve r s).worksOn c r s ∧ c.serve r s = u.protocol (c.serve r s) := by
  have e : c.serve r s = c.finish (c.work r s) (u.pend (c.work r s) c.opcode args) := by rw [c.serve_executes r s h, hr]
  have m := c.taken_mailbox r s
  have f : c.finish (c.work r s) (u.pend (c.work r s) c.opcode args)
      = { u with ccp := { u.ccp with jobs := u.ccp.jobs ++ [(c.work r s).job c.opcode args], cache := (c.serve r s).ccp.cache } } := by
    rw [e]
    rfl
  rw [← e] at f
  have k : (c.serve r s).mailbox (mbKey r.view r.mailbox) = (c.taken r s).mailbox (mbKey r.view r.mailbox) := by
    rw [f]; exact hm
  refine ⟨?_, ?_⟩
  · unfold State.worksOn
    simp only [k]
    refine ⟨m.1, m.2, ?_⟩
    rw [f]
    simp only [List.any_append, List.any_cons, List.any_nil, m.2]
    have hk : ((c.work r s).job c.opcode args).key = mbKey r.view r.mailbox := rfl
    simp [Ctx.job]
    right
    rfl
  · rw [f]; rfl

end Sys2Proof.Machine
end

