-- ==== Sys2Proof/Laws/Memory.lean ====
section
/-! SUPPORT. Laws of the bytes of HBM: every operation keeps the canonical form, a byte reads as it was written, and every other
byte reads as before. -/

namespace Sys2Proof.Laws.Memory

open Sys2Proof.Machine

/-- The form of a list that is not empty. -/
theorem memFrom_cons (n k : Nat) (v : BitVec 8) (r : List Host.Cell) :
    memFrom n ((k, v) :: r) = true ↔ n ≤ k ∧ v ≠ 0 ∧ memFrom (k + 1) r = true := by
  rw [memFrom, Bool.and_eq_true, Bool.and_eq_true, decide_eq_true_eq, bne_iff_ne, and_assoc]

/-- A list in form above a bound is in form above every lower bound. -/
theorem memFrom_mono {n k : Nat} (m : List Host.Cell) (h : n ≤ k) (w : memFrom k m = true) : memFrom n m = true := by
  cases m with
  | nil => rfl
  | cons c r =>
    obtain ⟨w1, w2, w3⟩ := (memFrom_cons k c.1 c.2 r).1 w
    exact (memFrom_cons n c.1 c.2 r).2 ⟨Nat.le_trans h w1, w2, w3⟩

/-- A write at or above the bound keeps the form above it. -/
theorem memFrom_put (m : List Host.Cell) (n a : Nat) (b : BitVec 8) (h : n ≤ a) (w : memFrom n m = true) :
    memFrom n (memPut m a b) = true := by
  induction m generalizing n with
  | nil =>
    unfold memPut
    split
    · rfl
    · exact (memFrom_cons n a b []).2 ⟨h, ‹_›, rfl⟩
  | cons c r ih =>
    obtain ⟨k, v⟩ := c
    obtain ⟨w1, w2, w3⟩ := (memFrom_cons n k v r).1 w
    unfold memPut
    split
    · rename_i hk
      split
      · exact w
      · exact (memFrom_cons n a b _).2 ⟨h, ‹_›, (memFrom_cons (a + 1) k v r).2 ⟨hk, w2, w3⟩⟩
    · rename_i hk
      split
      · split
        · exact memFrom_mono r (by omega) w3
        · exact (memFrom_cons n k b r).2 ⟨w1, ‹_›, w3⟩
      · exact (memFrom_cons n k v _).2 ⟨w1, w2, ih (k + 1) (by omega) w3⟩

/-- A write of one byte keeps the canonical form. -/
theorem memPut_wf (m : List Host.Cell) (a : Nat) (b : BitVec 8) (w : memWf m = true) : memWf (memPut m a b) = true :=
  memFrom_put m 0 a b (Nat.zero_le a) w

/-- A write of bytes keeps the canonical form. -/
theorem memWrite_wf (b : Bytes) (m : List Host.Cell) (a : Nat) (w : memWf m = true) : memWf (memWrite m a b) = true := by
  induction b generalizing m a with
  | nil => exact w
  | cons x r ih => exact ih (memPut m a x) (a + 1) (memPut_wf m a x w)

/-- A write to HBM keeps the canonical form. -/
theorem writeHbm_wf (s : State) (a : Nat) (b : Bytes) (w : s.memory.wf = true) : (s.writeHbm a b).memory.wf = true :=
  memWrite_wf b s.memory.hbm a w

/-- Contents that are dropped are in canonical form. -/
theorem dropHbm_wf (s : State) : s.dropHbm.memory.wf = true := rfl

/-- Below the bound of a list in form every byte reads 0. -/
theorem memGet_below (m : List Host.Cell) (n a : Nat) (h : a < n) (w : memFrom n m = true) : memGet m a = 0 := by
  cases m with
  | nil => rfl
  | cons c r =>
    obtain ⟨k, v⟩ := c
    have w1 := ((memFrom_cons n k v r).1 w).1
    unfold memGet
    rw [if_pos (by omega)]

/-- A byte reads as it was written. -/
theorem memGet_put_same (m : List Host.Cell) (n a : Nat) (b : BitVec 8) (w : memFrom n m = true) : memGet (memPut m a b) a = b := by
  induction m generalizing n with
  | nil =>
    unfold memPut
    split
    · rename_i hb
      simp [memGet, hb]
    · simp [memGet]
  | cons c r ih =>
    obtain ⟨k, v⟩ := c
    have w3 := ((memFrom_cons n k v r).1 w).2.2
    unfold memPut
    split
    · rename_i hk
      split
      · rename_i hb
        simp [memGet, hk, hb]
      · simp [memGet]
    · rename_i hk
      split
      · rename_i he
        split
        · rename_i hb
          rw [hb]
          exact memGet_below r (k + 1) a (by omega) w3
        · simp [memGet, he]
      · rename_i he
        unfold memGet
        rw [if_neg hk, if_neg he]
        exact ih (k + 1) w3

/-- A write of one byte leaves every other byte as it was. -/
theorem memGet_put_other (m : List Host.Cell) (n a c : Nat) (b : BitVec 8) (w : memFrom n m = true) (h : c ≠ a) :
    memGet (memPut m a b) c = memGet m c := by
  induction m generalizing n with
  | nil =>
    unfold memPut
    split
    · rfl
    · simp only [memGet]
      split
      · rfl
      · rfl
  | cons x r ih =>
    obtain ⟨k, v⟩ := x
    have w3 := ((memFrom_cons n k v r).1 w).2.2
    unfold memPut
    split
    · rename_i hk
      split
      · rfl
      · unfold memGet
        by_cases hc : c < a
        · rw [if_pos hc, if_pos (by omega)]
        · rw [if_neg hc, if_neg h]
          rfl
    · rename_i hk
      split
      · rename_i he
        split
        · rename_i hb
          conv => rhs; unfold memGet
          by_cases hc : c < k
          · rw [if_pos hc]
            exact memGet_below r (k + 1) c (by omega) w3
          · rw [if_neg hc, if_neg (by omega)]
        · unfold memGet
          by_cases hc : c < k
          · rw [if_pos hc, if_pos hc]
          · rw [if_neg hc, if_neg hc, if_neg (by omega), if_neg (by omega)]
      · rename_i he
        unfold memGet
        by_cases hc : c < k
        · rw [if_pos hc, if_pos hc]
        · rw [if_neg hc, if_neg hc]
          by_cases hk2 : c = k
          · rw [if_pos hk2, if_pos hk2]
          · rw [if_neg hk2, if_neg hk2]
            exact ih (k + 1) w3

/-- A write of bytes leaves every byte outside them as it was. -/
theorem memGet_write_other (b : Bytes) (m : List Host.Cell) (a c : Nat) (w : memWf m = true) (h : c < a ∨ a + b.length ≤ c) :
    memGet (memWrite m a b) c = memGet m c := by
  induction b generalizing m a with
  | nil => rfl
  | cons x r ih =>
    have hl : (x :: r).length = r.length + 1 := rfl
    exact (ih (memPut m a x) (a + 1) (memPut_wf m a x w) (by omega)).trans (memGet_put_other m 0 a c x w (by omega))

/-- The bytes written read as they were written. -/
theorem memGet_write (b : Bytes) (m : List Host.Cell) (a i : Nat) (x : BitVec 8) (w : memWf m = true) (h : b[i]? = some x) :
    memGet (memWrite m a b) (a + i) = x := by
  induction b generalizing m a i with
  | nil => cases h
  | cons y r ih =>
    cases i with
    | zero =>
      obtain rfl : y = x := Option.some.inj h
      exact (memGet_write_other r (memPut m a y) (a + 1) a (memPut_wf m a y w) (by omega)).trans (memGet_put_same m 0 a y w)
    | succ i =>
      have e : a + (i + 1) = a + 1 + i := by omega
      rw [e]
      exact ih (memPut m a y) (a + 1) i (memPut_wf m a y w) h

/-- What was written is read back. -/
theorem memRead_write (b : Bytes) (m : List Host.Cell) (a : Nat) (w : memWf m = true) : memRead (memWrite m a b) a b.length = b := by
  apply List.ext_getElem?
  intro i
  unfold memRead
  rw [List.getElem?_map]
  by_cases hi : i < b.length
  · rw [List.getElem?_range hi, Option.map_some, List.getElem?_eq_getElem hi]
    exact congrArg some (memGet_write b m a i b[i] w (List.getElem?_eq_getElem hi))
  · rw [List.getElem?_eq_none (by simpa using hi), List.getElem?_eq_none (by omega)]
    rfl

/-- A read of bytes outside those written reads as before. -/
theorem memRead_write_other (b : Bytes) (m : List Host.Cell) (a c n : Nat) (w : memWf m = true) (h : c + n ≤ a ∨ a + b.length ≤ c) :
    memRead (memWrite m a b) c n = memRead m c n := by
  unfold memRead
  apply List.map_congr_left
  intro i hi
  have : i < n := List.mem_range.mp hi
  exact memGet_write_other b m a (c + i) w (by omega)

end Sys2Proof.Laws.Memory
end

