-- ==== Sys2Proof/Laws/PerInstr.lean ====
section
/-! SUPPORT. A law of every command, one lemma for each constructor: the request that a well-formed command carries, where it
carries one, names a mailbox of its function and has a payload as long as a header can say (R56, R59). -/

namespace Sys2Proof.Laws.CarriesRequest

/-- The request that a command carries. -/
def carried : Instr → Option Request
  | .sessionOpen r | .sessionAttach r | .sessionClose r | .commandCancel r | .sessionInfo r | .capacityReport r
  | .commandResult r | .referenceSet r | .timingGroupSet r | .dtSet r | .synthConfigure r | .timeStatus r
  | .clockStatus r | .quadAllocate r | .laneConfigure r | .laneRearm r | .flowConfigure r | .laneTestSet r
  | .laneStatus r | .flowStatus r | .flowSdp r | .routeSet r | .salvo r | .destinationLock r | .watchRuleSet r
  | .syncConfigure r | .destinationConfigure r | .testGeneratorSet r | .tallyRead r | .routeRead r
  | .watchStatus r | .pipeConfigure r | .pipeGang r | .pipeLutLoad r | .pipeStatus r | .canvasConfigure r
  | .layerCommit r | .surfaceAllocate r | .surfaceRelease r | .surfaceWrite r | .surfaceReady r
  | .cloneGroupSet r | .flattenBudgetSet r | .panelConfigure r | .panelSequenceSet r | .panelContentSet r
  | .canvasStatus r | .surfaceStatus r | .mirrorStatus r | .panelStatus r | .encodeChannelOpen r
  | .encodeChannelSet r | .encodeChannelClose r | .packetiserSet r | .encodeHostRingSet r
  | .decodeChannelOpen r | .decodeHostRingSet r | .decodeChannelSet r | .decodeChannelClose r
  | .channelStatistics r | .coreStatus r | .audioRouteSet r | .audioGainSet r | .tdmPortConfigure r
  | .audioHostRingSet r | .audioDestinationSet r | .audioSourceSet r | .audioSystemSet r | .audioMclkSet r
  | .audioStatus r | .tdmPortStatus r | .nvCommit r | .apertureSet r | .cvuScan r | .nightlightPolicySet r
  | .memoryQosSet r | .memoryStatus r | .nightlightMapRead r | .nvStatus r | .nvLogRead r | .coChallenge r
  | .coRespond r | .userChallenge r | .userRespond r | .attest r | .streamKeyEstablish r | .streamKeyWithdraw r
  | .zeroize r | .registerLock r | .userKeySet r | .peerKeySet r | .coProvision r | .fusePolicySet r
  | .selfTestRun r | .lanternStatus r | .devidCertRead r | .unitFence r | .unitUnfence r | .unitTest r
  | .deviceRestart r | .eventRouteSet r | .fencePolicySet r | .healthStatus r | .eventCatalogue r
  | .journalHead r | .journalRead r | .stateSnapshot r | .firmwareLoad r | .firmwareActivate r
  | .firmwareStatus r | .bootImagePush r | .cascadeConfigure r | .cascadeExportSet r | .cascadeStatus r => some r
  | .ccpMbDoorbell _ r => some r
  | _ => none

/-- The law. -/
def Statement (i : Instr) : Prop :=
  i.wellFormed = true → ∀ r, carried i = some r → r.mailbox < mailboxesOf r.view ∧ r.payload.length < 65536

/-- A well-formed request. -/
theorem of_request (r x : Request) (h : r.wellFormed = true) (hx : some r = some x) :
    x.mailbox < mailboxesOf x.view ∧ x.payload.length < 65536 := by
  cases hx
  exact of_decide_eq_true h

theorem sessionOpen (r : Request) : Statement (.sessionOpen r) := fun h x hx => of_request r x h hx
theorem sessionAttach (r : Request) : Statement (.sessionAttach r) := fun h x hx => of_request r x h hx
theorem sessionClose (r : Request) : Statement (.sessionClose r) := fun h x hx => of_request r x h hx
theorem commandCancel (r : Request) : Statement (.commandCancel r) := fun h x hx => of_request r x h hx
theorem sessionInfo (r : Request) : Statement (.sessionInfo r) := fun h x hx => of_request r x h hx
theorem capacityReport (r : Request) : Statement (.capacityReport r) := fun h x hx => of_request r x h hx
theorem commandResult (r : Request) : Statement (.commandResult r) := fun h x hx => of_request r x h hx
theorem referenceSet (r : Request) : Statement (.referenceSet r) := fun h x hx => of_request r x h hx
theorem timingGroupSet (r : Request) : Statement (.timingGroupSet r) := fun h x hx => of_request r x h hx
theorem dtSet (r : Request) : Statement (.dtSet r) := fun h x hx => of_request r x h hx
theorem synthConfigure (r : Request) : Statement (.synthConfigure r) := fun h x hx => of_request r x h hx
theorem timeStatus (r : Request) : Statement (.timeStatus r) := fun h x hx => of_request r x h hx
theorem clockStatus (r : Request) : Statement (.clockStatus r) := fun h x hx => of_request r x h hx
theorem quadAllocate (r : Request) : Statement (.quadAllocate r) := fun h x hx => of_request r x h hx
theorem laneConfigure (r : Request) : Statement (.laneConfigure r) := fun h x hx => of_request r x h hx
theorem laneRearm (r : Request) : Statement (.laneRearm r) := fun h x hx => of_request r x h hx
theorem flowConfigure (r : Request) : Statement (.flowConfigure r) := fun h x hx => of_request r x h hx
theorem laneTestSet (r : Request) : Statement (.laneTestSet r) := fun h x hx => of_request r x h hx
theorem laneStatus (r : Request) : Statement (.laneStatus r) := fun h x hx => of_request r x h hx
theorem flowStatus (r : Request) : Statement (.flowStatus r) := fun h x hx => of_request r x h hx
theorem flowSdp (r : Request) : Statement (.flowSdp r) := fun h x hx => of_request r x h hx
theorem routeSet (r : Request) : Statement (.routeSet r) := fun h x hx => of_request r x h hx
theorem salvo (r : Request) : Statement (.salvo r) := fun h x hx => of_request r x h hx
theorem destinationLock (r : Request) : Statement (.destinationLock r) := fun h x hx => of_request r x h hx
theorem watchRuleSet (r : Request) : Statement (.watchRuleSet r) := fun h x hx => of_request r x h hx
theorem syncConfigure (r : Request) : Statement (.syncConfigure r) := fun h x hx => of_request r x h hx
theorem destinationConfigure (r : Request) : Statement (.destinationConfigure r) := fun h x hx => of_request r x h hx
theorem testGeneratorSet (r : Request) : Statement (.testGeneratorSet r) := fun h x hx => of_request r x h hx
theorem tallyRead (r : Request) : Statement (.tallyRead r) := fun h x hx => of_request r x h hx
theorem routeRead (r : Request) : Statement (.routeRead r) := fun h x hx => of_request r x h hx
theorem watchStatus (r : Request) : Statement (.watchStatus r) := fun h x hx => of_request r x h hx
theorem pipeConfigure (r : Request) : Statement (.pipeConfigure r) := fun h x hx => of_request r x h hx
theorem pipeGang (r : Request) : Statement (.pipeGang r) := fun h x hx => of_request r x h hx
theorem pipeLutLoad (r : Request) : Statement (.pipeLutLoad r) := fun h x hx => of_request r x h hx
theorem pipeStatus (r : Request) : Statement (.pipeStatus r) := fun h x hx => of_request r x h hx
theorem canvasConfigure (r : Request) : Statement (.canvasConfigure r) := fun h x hx => of_request r x h hx
theorem layerCommit (r : Request) : Statement (.layerCommit r) := fun h x hx => of_request r x h hx
theorem surfaceAllocate (r : Request) : Statement (.surfaceAllocate r) := fun h x hx => of_request r x h hx
theorem surfaceRelease (r : Request) : Statement (.surfaceRelease r) := fun h x hx => of_request r x h hx
theorem surfaceWrite (r : Request) : Statement (.surfaceWrite r) := fun h x hx => of_request r x h hx
theorem surfaceReady (r : Request) : Statement (.surfaceReady r) := fun h x hx => of_request r x h hx
theorem cloneGroupSet (r : Request) : Statement (.cloneGroupSet r) := fun h x hx => of_request r x h hx
theorem flattenBudgetSet (r : Request) : Statement (.flattenBudgetSet r) := fun h x hx => of_request r x h hx
theorem panelConfigure (r : Request) : Statement (.panelConfigure r) := fun h x hx => of_request r x h hx
theorem panelSequenceSet (r : Request) : Statement (.panelSequenceSet r) := fun h x hx => of_request r x h hx
theorem panelContentSet (r : Request) : Statement (.panelContentSet r) := fun h x hx => of_request r x h hx
theorem canvasStatus (r : Request) : Statement (.canvasStatus r) := fun h x hx => of_request r x h hx
theorem surfaceStatus (r : Request) : Statement (.surfaceStatus r) := fun h x hx => of_request r x h hx
theorem mirrorStatus (r : Request) : Statement (.mirrorStatus r) := fun h x hx => of_request r x h hx
theorem panelStatus (r : Request) : Statement (.panelStatus r) := fun h x hx => of_request r x h hx
theorem encodeChannelOpen (r : Request) : Statement (.encodeChannelOpen r) := fun h x hx => of_request r x h hx
theorem encodeChannelSet (r : Request) : Statement (.encodeChannelSet r) := fun h x hx => of_request r x h hx
theorem encodeChannelClose (r : Request) : Statement (.encodeChannelClose r) := fun h x hx => of_request r x h hx
theorem packetiserSet (r : Request) : Statement (.packetiserSet r) := fun h x hx => of_request r x h hx
theorem encodeHostRingSet (r : Request) : Statement (.encodeHostRingSet r) := fun h x hx => of_request r x h hx
theorem decodeChannelOpen (r : Request) : Statement (.decodeChannelOpen r) := fun h x hx => of_request r x h hx
theorem decodeHostRingSet (r : Request) : Statement (.decodeHostRingSet r) := fun h x hx => of_request r x h hx
theorem decodeChannelSet (r : Request) : Statement (.decodeChannelSet r) := fun h x hx => of_request r x h hx
theorem decodeChannelClose (r : Request) : Statement (.decodeChannelClose r) := fun h x hx => of_request r x h hx
theorem channelStatistics (r : Request) : Statement (.channelStatistics r) := fun h x hx => of_request r x h hx
theorem coreStatus (r : Request) : Statement (.coreStatus r) := fun h x hx => of_request r x h hx
theorem audioRouteSet (r : Request) : Statement (.audioRouteSet r) := fun h x hx => of_request r x h hx
theorem audioGainSet (r : Request) : Statement (.audioGainSet r) := fun h x hx => of_request r x h hx
theorem tdmPortConfigure (r : Request) : Statement (.tdmPortConfigure r) := fun h x hx => of_request r x h hx
theorem audioHostRingSet (r : Request) : Statement (.audioHostRingSet r) := fun h x hx => of_request r x h hx
theorem audioDestinationSet (r : Request) : Statement (.audioDestinationSet r) := fun h x hx => of_request r x h hx
theorem audioSourceSet (r : Request) : Statement (.audioSourceSet r) := fun h x hx => of_request r x h hx
theorem audioSystemSet (r : Request) : Statement (.audioSystemSet r) := fun h x hx => of_request r x h hx
theorem audioMclkSet (r : Request) : Statement (.audioMclkSet r) := fun h x hx => of_request r x h hx
theorem audioStatus (r : Request) : Statement (.audioStatus r) := fun h x hx => of_request r x h hx
theorem tdmPortStatus (r : Request) : Statement (.tdmPortStatus r) := fun h x hx => of_request r x h hx
theorem nvCommit (r : Request) : Statement (.nvCommit r) := fun h x hx => of_request r x h hx
theorem apertureSet (r : Request) : Statement (.apertureSet r) := fun h x hx => of_request r x h hx
theorem cvuScan (r : Request) : Statement (.cvuScan r) := fun h x hx => of_request r x h hx
theorem nightlightPolicySet (r : Request) : Statement (.nightlightPolicySet r) := fun h x hx => of_request r x h hx
theorem memoryQosSet (r : Request) : Statement (.memoryQosSet r) := fun h x hx => of_request r x h hx
theorem memoryStatus (r : Request) : Statement (.memoryStatus r) := fun h x hx => of_request r x h hx
theorem nightlightMapRead (r : Request) : Statement (.nightlightMapRead r) := fun h x hx => of_request r x h hx
theorem nvStatus (r : Request) : Statement (.nvStatus r) := fun h x hx => of_request r x h hx
theorem nvLogRead (r : Request) : Statement (.nvLogRead r) := fun h x hx => of_request r x h hx
theorem coChallenge (r : Request) : Statement (.coChallenge r) := fun h x hx => of_request r x h hx
theorem coRespond (r : Request) : Statement (.coRespond r) := fun h x hx => of_request r x h hx
theorem userChallenge (r : Request) : Statement (.userChallenge r) := fun h x hx => of_request r x h hx
theorem userRespond (r : Request) : Statement (.userRespond r) := fun h x hx => of_request r x h hx
theorem attest (r : Request) : Statement (.attest r) := fun h x hx => of_request r x h hx
theorem streamKeyEstablish (r : Request) : Statement (.streamKeyEstablish r) := fun h x hx => of_request r x h hx
theorem streamKeyWithdraw (r : Request) : Statement (.streamKeyWithdraw r) := fun h x hx => of_request r x h hx
theorem zeroize (r : Request) : Statement (.zeroize r) := fun h x hx => of_request r x h hx
theorem registerLock (r : Request) : Statement (.registerLock r) := fun h x hx => of_request r x h hx
theorem userKeySet (r : Request) : Statement (.userKeySet r) := fun h x hx => of_request r x h hx
theorem peerKeySet (r : Request) : Statement (.peerKeySet r) := fun h x hx => of_request r x h hx
theorem coProvision (r : Request) : Statement (.coProvision r) := fun h x hx => of_request r x h hx
theorem fusePolicySet (r : Request) : Statement (.fusePolicySet r) := fun h x hx => of_request r x h hx
theorem selfTestRun (r : Request) : Statement (.selfTestRun r) := fun h x hx => of_request r x h hx
theorem lanternStatus (r : Request) : Statement (.lanternStatus r) := fun h x hx => of_request r x h hx
theorem devidCertRead (r : Request) : Statement (.devidCertRead r) := fun h x hx => of_request r x h hx
theorem unitFence (r : Request) : Statement (.unitFence r) := fun h x hx => of_request r x h hx
theorem unitUnfence (r : Request) : Statement (.unitUnfence r) := fun h x hx => of_request r x h hx
theorem unitTest (r : Request) : Statement (.unitTest r) := fun h x hx => of_request r x h hx
theorem deviceRestart (r : Request) : Statement (.deviceRestart r) := fun h x hx => of_request r x h hx
theorem eventRouteSet (r : Request) : Statement (.eventRouteSet r) := fun h x hx => of_request r x h hx
theorem fencePolicySet (r : Request) : Statement (.fencePolicySet r) := fun h x hx => of_request r x h hx
theorem healthStatus (r : Request) : Statement (.healthStatus r) := fun h x hx => of_request r x h hx
theorem eventCatalogue (r : Request) : Statement (.eventCatalogue r) := fun h x hx => of_request r x h hx
theorem journalHead (r : Request) : Statement (.journalHead r) := fun h x hx => of_request r x h hx
theorem journalRead (r : Request) : Statement (.journalRead r) := fun h x hx => of_request r x h hx
theorem stateSnapshot (r : Request) : Statement (.stateSnapshot r) := fun h x hx => of_request r x h hx
theorem firmwareLoad (r : Request) : Statement (.firmwareLoad r) := fun h x hx => of_request r x h hx
theorem firmwareActivate (r : Request) : Statement (.firmwareActivate r) := fun h x hx => of_request r x h hx
theorem firmwareStatus (r : Request) : Statement (.firmwareStatus r) := fun h x hx => of_request r x h hx
theorem bootImagePush (r : Request) : Statement (.bootImagePush r) := fun h x hx => of_request r x h hx
theorem cascadeConfigure (r : Request) : Statement (.cascadeConfigure r) := fun h x hx => of_request r x h hx
theorem cascadeExportSet (r : Request) : Statement (.cascadeExportSet r) := fun h x hx => of_request r x h hx
theorem cascadeStatus (r : Request) : Statement (.cascadeStatus r) := fun h x hx => of_request r x h hx
theorem ccpMbDoorbell (opcode : BitVec 16) (r : Request) : Statement (.ccpMbDoorbell opcode r) := fun h x hx => of_request r x h hx
theorem lockedRequestBufferWrite (v : View) (m : Nat) : Statement (.lockedRequestBufferWrite v m) := fun _ _ hx => nomatch hx
theorem mailboxTimeout (v : View) (m : Nat) : Statement (.mailboxTimeout v m) := fun _ _ hx => nomatch hx
theorem cmdComplete (jsn : Nat) : Statement (.cmdComplete jsn) := fun _ _ hx => nomatch hx
theorem scheduledEffect (jsn part : Nat) (ext : Int) : Statement (.scheduledEffect jsn part ext) := fun _ _ hx => nomatch hx
theorem swapEnd (mismatch : Bool) : Statement (.swapEnd mismatch) := fun _ _ hx => nomatch hx
theorem swapWatchdogExpiry : Statement .swapWatchdogExpiry := fun _ _ hx => nomatch hx
theorem duskFreeze (g : Nat) (lateHeaders : List Nat) : Statement (.duskFreeze g lateHeaders) := fun _ _ hx => nomatch hx
theorem canvasCommitExpired (c l : Nat) : Statement (.canvasCommitExpired c l) := fun _ _ hx => nomatch hx
theorem watchDecisionEffect (d : Nat) : Statement (.watchDecisionEffect d) := fun _ _ hx => nomatch hx
theorem tgFrameStart (g : Nat) (f : FrameFacts) : Statement (.tgFrameStart g f) := fun _ _ hx => nomatch hx
theorem tgEnableStart (g : Nat) : Statement (.tgEnableStart g) := fun _ _ hx => nomatch hx
theorem ptpSyncMessage (cand : Nat) (origin correction : Int) : Statement (.ptpSyncMessage cand origin correction) := fun _ _ hx => nomatch hx
theorem referenceLocked (cand : Nat) (newTime : Option Nat) (errors : List Int) : Statement (.referenceLocked cand newTime errors) := fun _ _ hx => nomatch hx
theorem referenceLost (cand : Nat) (newTime : Option Nat) (errors : List Int) : Statement (.referenceLost cand newTime errors) := fun _ _ hx => nomatch hx
theorem revertHoldExpiry (cand : Nat) (newTime : Option Nat) (errors : List Int) : Statement (.revertHoldExpiry cand newTime errors) := fun _ _ hx => nomatch hx
theorem ppsEdge : Statement .ppsEdge := fun _ _ hx => nomatch hx
theorem sdiFrameReceived (n : Nat) (f : SdiFrame) : Statement (.sdiFrameReceived n f) := fun _ _ hx => nomatch hx
theorem inputLoss (src reason link : Nat) : Statement (.inputLoss src reason link) := fun _ _ hx => nomatch hx
theorem inputRestored (src : Nat) : Statement (.inputRestored src) := fun _ _ hx => nomatch hx
theorem flowNoPacketTimeout (n : Nat) : Statement (.flowNoPacketTimeout n) := fun _ _ hx => nomatch hx
theorem ipPacketReceived (n leg : Nat) (p : IpPacket) : Statement (.ipPacketReceived n leg p) := fun _ _ hx => nomatch hx
theorem mergeWindowExpiry (n : Nat) : Statement (.mergeWindowExpiry n) := fun _ _ hx => nomatch hx
theorem flowLegLost (n leg : Nat) : Statement (.flowLegLost n leg) := fun _ _ hx => nomatch hx
theorem flowLegRestored (n leg : Nat) : Statement (.flowLegRestored n leg) := fun _ _ hx => nomatch hx
theorem mirrorClear (n : Nat) : Statement (.mirrorClear n) := fun _ _ hx => nomatch hx
theorem mirrorNoSignal (n link : Nat) : Statement (.mirrorNoSignal n link) := fun _ _ hx => nomatch hx
theorem lanePassLoss (n : Nat) : Statement (.lanePassLoss n) := fun _ _ hx => nomatch hx
theorem lanePassResume (n : Nat) : Statement (.lanePassResume n) := fun _ _ hx => nomatch hx
theorem surfaceLastUsePassed (h : Nat) : Statement (.surfaceLastUsePassed h) := fun _ _ hx => nomatch hx
theorem flattenBuildComplete (c : Nat) : Statement (.flattenBuildComplete c) := fun _ _ hx => nomatch hx
theorem panelTeEdge (n : Nat) : Statement (.panelTeEdge n) := fun _ _ hx => nomatch hx
theorem panelInternalTick (n : Nat) : Statement (.panelInternalTick n) := fun _ _ hx => nomatch hx
theorem panelPushComplete (n : Nat) : Statement (.panelPushComplete n) := fun _ _ hx => nomatch hx
theorem panelTeLost (n : Nat) : Statement (.panelTeLost n) := fun _ _ hx => nomatch hx
theorem panelStretchEntry (n : Nat) : Statement (.panelStretchEntry n) := fun _ _ hx => nomatch hx
theorem encodeDuReady (n number r : Nat) : Statement (.encodeDuReady n number r) := fun _ _ hx => nomatch hx
theorem encodeDuAnalysisStart (n number r complexity : Nat) : Statement (.encodeDuAnalysisStart n number r complexity) := fun _ _ hx => nomatch hx
theorem encodeDuDecision (n number r : Nat) (left right : List Nat) (qp : Nat) : Statement (.encodeDuDecision n number r left right qp) := fun _ _ hx => nomatch hx
theorem encodeDuClose (n number r packets consumer : Nat) : Statement (.encodeDuClose n number r packets consumer) := fun _ _ hx => nomatch hx
theorem codingCoreFault (core : Nat) : Statement (.codingCoreFault core) := fun _ _ hx => nomatch hx
theorem decodeDataArrival (n : Nat) (x : CodedData) : Statement (.decodeDataArrival n x) := fun _ _ hx => nomatch hx
theorem reorderWindowExpiry (n : Nat) : Statement (.reorderWindowExpiry n) := fun _ _ hx => nomatch hx
theorem decodeHostRingPoll (n producer : Nat) : Statement (.decodeHostRingPoll n producer) := fun _ _ hx => nomatch hx
theorem decodePictureDone (n : Nat) : Statement (.decodePictureDone n) := fun _ _ hx => nomatch hx
theorem decodeDeadline (n ctus : Nat) : Statement (.decodeDeadline n ctus) := fun _ _ hx => nomatch hx
theorem decodeLossTimeout (n : Nat) : Statement (.decodeLossTimeout n) := fun _ _ hx => nomatch hx
theorem decoderCoreFault (core : Nat) : Statement (.decoderCoreFault core) := fun _ _ hx => nomatch hx
theorem audioBlock (n : Nat) (ins : List AudioIn) (recs : List AudioRecord) (consumers : List (Nat × Nat)) : Statement (.audioBlock n ins recs consumers) := fun _ _ hx => nomatch hx
theorem audioSyncWindow (e : Nat) (drift ratio : Int) : Statement (.audioSyncWindow e drift ratio) := fun _ _ hx => nomatch hx
theorem exactSlipDue (e : Nat) : Statement (.exactSlipDue e) := fun _ _ hx => nomatch hx
theorem nonAudioGapSlip (e pair : Nat) : Statement (.nonAudioGapSlip e pair) := fun _ _ hx => nomatch hx
theorem audioBurstSlip (e pair : Nat) : Statement (.audioBurstSlip e pair) := fun _ _ hx => nomatch hx
theorem nonAudioReturnPcm (e pair : Nat) : Statement (.nonAudioReturnPcm e pair) := fun _ _ hx => nomatch hx
theorem audioChangeDue (d ch : Nat) : Statement (.audioChangeDue d ch) := fun _ _ hx => nomatch hx
theorem zeroCrossTimeout (d ch : Nat) : Statement (.zeroCrossTimeout d ch) := fun _ _ hx => nomatch hx
theorem tdmFrameReceived (n fault hz : Nat) : Statement (.tdmFrameReceived n fault hz) := fun _ _ hx => nomatch hx
theorem clockLost (n : Nat) : Statement (.clockLost n) := fun _ _ hx => nomatch hx
theorem tdmRateWindow (n hz : Nat) : Statement (.tdmRateWindow n hz) := fun _ _ hx => nomatch hx
theorem rateChanged (n hz : Nat) : Statement (.rateChanged n hz) := fun _ _ hx => nomatch hx
theorem tdmFadeInComplete (n : Nat) : Statement (.tdmFadeInComplete n) := fun _ _ hx => nomatch hx
theorem mclkRestart (o : Nat) : Statement (.mclkRestart o) := fun _ _ hx => nomatch hx
theorem laneSignalPresent (n : Nat) : Statement (.laneSignalPresent n) := fun _ _ hx => nomatch hx
theorem laneSignalLost (n : Nat) : Statement (.laneSignalLost n) := fun _ _ hx => nomatch hx
theorem laneUp (n iface family : Nat) (offset : Int) (ctle : Nat) (dfe : List Int) : Statement (.laneUp n iface family offset ctle dfe) := fun _ _ hx => nomatch hx
theorem trainingAttemptTimeout (n phase : Nat) (skews : List Nat) : Statement (.trainingAttemptTimeout n phase skews) := fun _ _ hx => nomatch hx
theorem backoffExpiry (n : Nat) : Statement (.backoffExpiry n) := fun _ _ hx => nomatch hx
theorem laneDown (n : Nat) : Statement (.laneDown n) := fun _ _ hx => nomatch hx
theorem laneHiBer (n : Nat) : Statement (.laneHiBer n) := fun _ _ hx => nomatch hx
theorem eyeMonitorReport (n h v : Nat) : Statement (.eyeMonitorReport n h v) := fun _ _ hx => nomatch hx
theorem prbsCheckerLock (n : Nat) (locked : Bool) (bitsIn errors : Nat) : Statement (.prbsCheckerLock n locked bitsIn errors) := fun _ _ hx => nomatch hx
theorem cascadeHello (k id peer versions : Nat) (isMaster : Bool) : Statement (.cascadeHello k id peer versions isMaster) := fun _ _ hx => nomatch hx
theorem cascadeTimePacket (k origin hops dep delay : Nat) : Statement (.cascadeTimePacket k origin hops dep delay) := fun _ _ hx => nomatch hx
theorem cascadeTimeEcho (k trip turn : Nat) : Statement (.cascadeTimeEcho k trip turn) := fun _ _ hx => nomatch hx
theorem cascadeTimeTick : Statement .cascadeTimeTick := fun _ _ hx => nomatch hx
theorem cascadeTimeLost (newTime : Option Nat) (sdiRate : Nat) (errors : List Int) : Statement (.cascadeTimeLost newTime sdiRate errors) := fun _ _ hx => nomatch hx
theorem cascadeControlPacket (k : Nat) (m : ControlMsg) : Statement (.cascadeControlPacket k m) := fun _ _ hx => nomatch hx
theorem cascadeMediaPacket (k : Nat) (p : MediaPacket) : Statement (.cascadeMediaPacket k p) := fun _ _ hx => nomatch hx
theorem cascadePathChanged (origin slot taker : Nat) (link : Option Nat) (hops : Nat) : Statement (.cascadePathChanged origin slot taker link hops) := fun _ _ hx => nomatch hx
theorem porstNAssert : Statement .porstNAssert := fun _ _ hx => nomatch hx
theorem porstNRelease : Statement .porstNRelease := fun _ _ hx => nomatch hx
theorem mramReadable (bad : List (Nat × Bool)) : Statement (.mramReadable bad) := fun _ _ hx => nomatch hx
theorem nightlightSourceLock (d : Nat) (backup : Bool) : Statement (.nightlightSourceLock d backup) := fun _ _ hx => nomatch hx
theorem nightlightPrimaryTimeout (d : Nat) : Statement (.nightlightPrimaryTimeout d) := fun _ _ hx => nomatch hx
theorem nightlightSourceSwitch (d : Nat) : Statement (.nightlightSourceSwitch d) := fun _ _ hx => nomatch hx
theorem pcieLinkUp : Statement .pcieLinkUp := fun _ _ hx => nomatch hx
theorem pciePerstNAssert : Statement .pciePerstNAssert := fun _ _ hx => nomatch hx
theorem functionLevelReset (v : View) : Statement (.functionLevelReset v) := fun _ _ hx => nomatch hx
theorem lanternSelfTestDone (pass : Bool) : Statement (.lanternSelfTestDone pass) := fun _ _ hx => nomatch hx
theorem componentVerifyFailed : Statement .componentVerifyFailed := fun _ _ hx => nomatch hx
theorem hbmTrained (failed : List Nat) : Statement (.hbmTrained failed) := fun _ _ hx => nomatch hx
theorem firmwareStart (badHmac : List Nat) (badCells : List (Nat × Nat)) : Statement (.firmwareStart badHmac badCells) := fun _ _ hx => nomatch hx
theorem fullFunction : Statement .fullFunction := fun _ _ hx => nomatch hx
theorem nightlightAdopt (d : Nat) (lines : Int) (within : Bool) : Statement (.nightlightAdopt d lines within) := fun _ _ hx => nomatch hx
theorem adoptionJoin (d : Nat) : Statement (.adoptionJoin d) := fun _ _ hx => nomatch hx
theorem powerFailNAssert : Statement .powerFailNAssert := fun _ _ hx => nomatch hx
theorem powerFailNRelease : Statement .powerFailNRelease := fun _ _ hx => nomatch hx
theorem railOutOfTolerance : Statement .railOutOfTolerance := fun _ _ hx => nomatch hx
theorem zeroizeNLow : Statement .zeroizeNLow := fun _ _ hx => nomatch hx
theorem zeroizeGlitch : Statement .zeroizeGlitch := fun _ _ hx => nomatch hx
theorem zeroisationComplete : Statement .zeroisationComplete := fun _ _ hx => nomatch hx
theorem lanternError (cause : Nat) : Statement (.lanternError cause) := fun _ _ hx => nomatch hx
theorem entropyHealthTest (pass : Bool) : Statement (.entropyHealthTest pass) := fun _ _ hx => nomatch hx
theorem environmentalFailure : Statement .environmentalFailure := fun _ _ hx => nomatch hx
theorem authLockoutExpiry (officer : Bool) : Statement (.authLockoutExpiry officer) := fun _ _ hx => nomatch hx
theorem exchangeExpiry (id : Nat) : Statement (.exchangeExpiry id) := fun _ _ hx => nomatch hx
theorem streamKeyRekeyDue (slot : Nat) : Statement (.streamKeyRekeyDue slot) := fun _ _ hx => nomatch hx
theorem streamKeyExpired (slot : Nat) : Statement (.streamKeyExpired slot) := fun _ _ hx => nomatch hx
theorem receiveKeyOverlapEnd (n : Nat) : Statement (.receiveKeyOverlapEnd n) := fun _ _ hx => nomatch hx
theorem sealTick : Statement .sealTick := fun _ _ hx => nomatch hx
theorem nvGatherAgeExpiry : Statement .nvGatherAgeExpiry := fun _ _ hx => nomatch hx
theorem nvSpacingExpiry : Statement .nvSpacingExpiry := fun _ _ hx => nomatch hx
theorem nvFlip : Statement .nvFlip := fun _ _ hx => nomatch hx
theorem thermalSample (tj : Int) : Statement (.thermalSample tj) := fun _ _ hx => nomatch hx
theorem thermalStepLeft : Statement .thermalStepLeft := fun _ _ hx => nomatch hx
theorem thermalRetreatExit : Statement .thermalRetreatExit := fun _ _ hx => nomatch hx
theorem thermalTrip (tj : Int) : Statement (.thermalTrip tj) := fun _ _ hx => nomatch hx
theorem hbmRefreshInterval (h : Nat) : Statement (.hbmRefreshInterval h) := fun _ _ hx => nomatch hx
theorem hbmTempRead (h : Nat) (temp : Int) : Statement (.hbmTempRead h temp) := fun _ _ hx => nomatch hx
theorem bulkCapWindow (p : Nat) : Statement (.bulkCapWindow p) := fun _ _ hx => nomatch hx
theorem hbmReadComplete (p addr len age : Nat) (corrected : List Nat) (poisoned : List Nat) (reader : Reader) : Statement (.hbmReadComplete p addr len age corrected poisoned reader) := fun _ _ hx => nomatch hx
theorem scrubRead (corrected : List Nat) (poisoned : List Nat) : Statement (.scrubRead corrected poisoned) := fun _ _ hx => nomatch hx
theorem hbmStackFenced (h : Nat) : Statement (.hbmStackFenced h) := fun _ _ hx => nomatch hx
theorem hbmRebuildComplete : Statement .hbmRebuildComplete := fun _ _ hx => nomatch hx
theorem sramBankWake (b stalled : Nat) : Statement (.sramBankWake b stalled) := fun _ _ hx => nomatch hx
theorem sramEccUncorrectable (b master addr : Nat) (write : Bool) (tiles : List Nat) : Statement (.sramEccUncorrectable b master addr write tiles) := fun _ _ hx => nomatch hx
theorem autoFenceMove (c i : Nat) : Statement (.autoFenceMove c i) := fun _ _ hx => nomatch hx
theorem unitTestComplete (c i : Nat) (pass : Bool) (failing : Nat) : Statement (.unitTestComplete c i pass failing) := fun _ _ hx => nomatch hx
theorem hardFaultFence (c i : Nat) : Statement (.hardFaultFence c i) := fun _ _ hx => nomatch hx
theorem commandedFenceEffect (jsn : Nat) : Statement (.commandedFenceEffect jsn) := fun _ _ hx => nomatch hx
theorem pllLockLost (p : Nat) : Statement (.pllLockLost p) := fun _ _ hx => nomatch hx
theorem pllRelocked (p : Nat) (word error : Int) : Statement (.pllRelocked p word error) := fun _ _ hx => nomatch hx
theorem eclipseEnd (p : Nat) : Statement (.eclipseEnd p) := fun _ _ hx => nomatch hx
theorem glideStep (p : Nat) : Statement (.glideStep p) := fun _ _ hx => nomatch hx
theorem pllFailed (p : Nat) : Statement (.pllFailed p) := fun _ _ hx => nomatch hx
theorem pllFailedRetry (p : Nat) (locks : Bool) : Statement (.pllFailedRetry p locks) := fun _ _ hx => nomatch hx
theorem glint (input : Nat) (isMissing : Bool) : Statement (.glint input isMissing) := fun _ _ hx => nomatch hx
theorem sysXoLost : Statement .sysXoLost := fun _ _ hx => nomatch hx
theorem aoXoLost : Statement .aoXoLost := fun _ _ hx => nomatch hx
theorem cvuStart (fw : Bool) (n ctrl : Nat) : Statement (.cvuStart fw n ctrl) := fun _ _ hx => nomatch hx
theorem cvuAbort (fw : Bool) (n k : Nat) (data : Bytes) : Statement (.cvuAbort fw n k data) := fun _ _ hx => nomatch hx
theorem cvuScanEnd (n : Nat) (data : Bytes) (error : Option Nat) : Statement (.cvuScanEnd n data error) := fun _ _ hx => nomatch hx
theorem evrEnable (v : View) (r : Nat) : Statement (.evrEnable v r) := fun _ _ hx => nomatch hx
theorem evrDisable (v : View) (r : Nat) : Statement (.evrDisable v r) := fun _ _ hx => nomatch hx
theorem evrConsumerWrite (v : View) (r value : Nat) : Statement (.evrConsumerWrite v r value) := fun _ _ hx => nomatch hx
theorem evrModerationWrite (v : View) (r count holdoff : Nat) : Statement (.evrModerationWrite v r count holdoff) := fun _ _ hx => nomatch hx
theorem moderationHoldoffExpiry (r : Nat) : Statement (.moderationHoldoffExpiry r) := fun _ _ hx => nomatch hx
theorem coalesceWindowClose (n : Machine.EventName) (src : Machine.Src) (failRing : Option Nat) : Statement (.coalesceWindowClose n src failRing) := fun _ _ hx => nomatch hx
theorem eventSummary (r : Nat) (failRing : Bool) : Statement (.eventSummary r failRing) := fun _ _ hx => nomatch hx
theorem heldCriticalWrite (r : Nat) (failRing : Bool) : Statement (.heldCriticalWrite r failRing) := fun _ _ hx => nomatch hx
theorem hrtDtLoRead (master n : Nat) : Statement (.hrtDtLoRead master n) := fun _ _ hx => nomatch hx
theorem hrtTgFrameRead (master g n : Nat) : Statement (.hrtTgFrameRead master g n) := fun _ _ hx => nomatch hx
theorem directConfigWrite (master off : Nat) (data : Bytes) : Statement (.directConfigWrite master off data) := fun _ _ hx => nomatch hx
theorem decodeErrorAccess (master addr n : Nat) (write : Bool) : Statement (.decodeErrorAccess master addr n write) := fun _ _ hx => nomatch hx
theorem lockForcedRelease (master addr : Nat) (write : Bool) : Statement (.lockForcedRelease master addr write) := fun _ _ hx => nomatch hx
theorem apertureWrite (offset : Nat) (data : Bytes) : Statement (.apertureWrite offset data) := fun _ _ hx => nomatch hx
theorem apertureRead (offset n : Nat) : Statement (.apertureRead offset n) := fun _ _ hx => nomatch hx
theorem genericRegisterWrite (master off : Nat) (data : Bytes) : Statement (.genericRegisterWrite master off data) := fun _ _ hx => nomatch hx
theorem doneWithPending (v : View) (m : Nat) : Statement (.doneWithPending v m) := fun _ _ hx => nomatch hx
theorem ptpDelayResponse (cand : Nat) (delay : Int) : Statement (.ptpDelayResponse cand delay) := fun _ _ hx => nomatch hx
theorem arpNdpIcmpEcho (port : Nat) : Statement (.arpNdpIcmpEcho port) := fun _ _ hx => nomatch hx
theorem panelSequenceDelayExpiry (n : Nat) : Statement (.panelSequenceDelayExpiry n) := fun _ _ hx => nomatch hx
theorem perBankRefreshComplete (h bank : Nat) : Statement (.perBankRefreshComplete h bank) := fun _ _ hx => nomatch hx
theorem lastDuLeft (n : Nat) : Statement (.lastDuLeft n) := fun _ _ hx => nomatch hx
theorem railGoodRestart : Statement .railGoodRestart := fun _ _ hx => nomatch hx
theorem jtagTapOperation (i : JtagInstr) : Statement (.jtagTapOperation i) := fun _ _ hx => nomatch hx

end Sys2Proof.Laws.CarriesRequest
end

