-- ==== Sys2Proof/Tests/Slice0.lean ====
section
/-! SUPPORT. Tests. For every statement with hypotheses a `witness_` theorem shows a state and operands that meet the hypotheses of
each of its clauses together. A state is built by commands from the device in service, or written by hand where a free
value of Config would stand in it. -/

namespace Sys2Proof.Tests

open Sys2Proof Sys2Proof.Machine

set_option maxRecDepth 100000
set_option Elab.async false

/-- A command whose arguments are valid is executed where it would be executed with any arguments. -/
theorem executes_of_args (c : Cmd) (r : Request) (s : State) (h : c.args (c.ctx r (c.before r s) 0) (c.before r s) = true)
    (g : ({ c with args := fun _ _ => true } : Cmd).executes r s = true) : c.executes r s = true := by
  simp only [Cmd.executes, Cmd.passes, Bool.and_eq_true] at g ⊢
  obtain ⟨⟨⟨⟨⟨⟨⟨⟨g1, g2⟩, g3⟩, g4⟩, -⟩, g6⟩, g7⟩, g8⟩, g9⟩ := g
  exact ⟨⟨⟨⟨⟨⟨⟨⟨g1, g2⟩, g3⟩, g4⟩, h⟩, g6⟩, g7⟩, g8⟩, g9⟩

/-- The next state of an outcome, with no standing command counted. -/
def after (o : Host.Outcome State Fault Refusal) (s : State) : State := match o with | .next t => { t with journal := { t.journal with standingQueued := 0 } } | _ => s

/-- A firmware package. -/
def pkg : Package :=
  { magic := 0, format := 0, version := 0, commit := 0, authority := 0, signatures := 0, build := 0, keyHash := 0, p384Ok := false, mldsaOk := false
    measured := [], hashOk := [true, true, true, true], header := 0, majors := [(1, 0)] }

/-- The device with a session bound to mailboxes 0 and 1. -/
def served : State :=
  let s := State.reset
  let s : State := { s with
    boot := { s.boot with porstN := true, stage := 7, pcieUp := true, hbmTrained := true, majors := [(1, 0)] }
    lantern := { s.lantern with state := 1, attest := some (0, 0), running := some pkg }
    flash := { s.flash with slots := [some pkg, none], trying := some 0 }
    memory := { s.memory with hbmStacks := [(0, { mapped := true }), (1, { mapped := true }), (2, { mapped := true }), (3, { mapped := true })] }
    clocks := { s.clocks with plls := [0, 1, 38, 46, 47, 48, 49].map fun k => (k, { state := 2 }) }
    journal := { s.journal with epoch := 1, seq := 1, chainFirst := 2 ^ 40 + 1, reflected := 2 ^ 40 + 1 }
    store := { s.store with counters := [1, 1, 0, 0, 0, 0, 0, 0] } }
  let x : Session := { id := 1, view := .pf0, major := 1, minor := 0, label := [], crypto := true, user := true }
  let s : State := { s with ccp := { s.ccp with sessions := [x], nextSession := 2 } }
  (s.setMailbox 0 { s.mailbox 0 with session := 1 }).setMailbox 1 { s.mailbox 1 with session := 1 }

/-- Bytes from numbers. -/
def bytes (l : List Nat) : Bytes := l.map (BitVec.ofNat 8)

/-- A request with a payload. -/
def req (p : Bytes) : Request :=
  { view := .pf0, mailbox := 0, major := 1, minor := 0, flags := 0, token := 0, atFrame := 0, atLine := 0, group := 0, reserved := 0, payload := p, dma := ⟨[], false, none⟩ }

/-- A descriptor. -/
def dmaDesc (len : Nat) : Bytes := le 8 0 ++ le 4 len ++ zeros 4

/-- A request with a DMA buffer and room for a response. -/
def dmaReq (args data : Bytes) (room : Nat := 0) : Request :=
  let n := if data.isEmpty then 0 else 1
  let m := if room = 0 then 0 else 1
  { req (le 2 n ++ le 2 m ++ le 2 args.length ++ zeros 2 ++ (if n = 1 then dmaDesc data.length else []) ++ (if m = 1 then dmaDesc room else []) ++ args) with
    flags := 4, dma := ⟨data, false, none⟩ }

/-- The effect of a command alone. -/
def own (c : Cmd) (r : Request) (s : State) : Host.Outcome State Fault Refusal := .next (c.run (c.ctx r s 1) s).state

/-- A pool is taken whole by a command that waits. -/
def fullOf (pool : Nat) (s : State) : State :=
  { s with ccp := { s.ccp with schedule := [{ jsn := 3, opcode := 0x0405, view := .pf0, session := 0, flags := 0, token := 0, major := 1, minor := 0, args := zeros 16, effect := ⟨0, 0, 0⟩, kind := 2, status := 0, charges := [⟨pool, 77, 1000000⟩], last := true, begun := false, atDt := none }] } }

/-! ## Ill-formed commands: for each check of `Instr.wellFormed` a command that it refuses -/

namespace IllFormed

def tooLong : Request := req (zeros 65536)
def badMailbox : Request := { req [] with view := .pf1, mailbox := 4 }


theorem test_ill_formed_requests :
    ([
    .sessionOpen tooLong, .sessionOpen badMailbox, .bootImagePush badMailbox, .ccpMbDoorbell 0 badMailbox
    ] : List Instr).any Instr.wellFormed = false := by decide +kernel

theorem test_ill_formed_points :
    ([
    .lockedRequestBufferWrite .pf1 4, .lockedRequestBufferWrite .pf0 16, .mailboxTimeout .pf0 16, .doneWithPending .pf1 4,
    .cmdComplete (2 ^ 64), .commandedFenceEffect (2 ^ 64), .scheduledEffect (2 ^ 64) 0 0, .scheduledEffect 0 8192 0, .duskFreeze 8 [],
    .duskFreeze 0 [32], .tgEnableStart 8, .canvasCommitExpired 16 0, .canvasCommitExpired 0 16, .watchDecisionEffect 0x6000,
    .ptpSyncMessage 8 0 0, .ptpDelayResponse 8 0, .referenceLocked 8 none [], .referenceLost 8 none [], .revertHoldExpiry 8 none []
    ] : List Instr).any Instr.wellFormed = false := by decide +kernel

theorem test_ill_formed_inputs :
    ([
    .inputLoss 65536 0 0, .inputLoss 0 12 0, .inputLoss 0 0 5, .inputRestored 65536, .flowNoPacketTimeout 512, .mergeWindowExpiry 512,
    .receiveKeyOverlapEnd 512, .flowLegLost 512 0, .flowLegLost 0 2, .flowLegRestored 512 0, .flowLegRestored 0 2, .mirrorClear 144,
    .lanePassLoss 144, .lanePassResume 144, .mirrorNoSignal 144 0, .mirrorNoSignal 0 4, .surfaceLastUsePassed 0,
    .surfaceLastUsePassed (2 ^ 32), .flattenBuildComplete 16, .panelTeEdge 2, .panelInternalTick 2, .panelPushComplete 2, .panelTeLost 2,
    .panelStretchEntry 2, .panelSequenceDelayExpiry 2
    ] : List Instr).any Instr.wellFormed = false := by decide +kernel

theorem test_ill_formed_coding :
    ([
    .encodeDuReady 32 0 0, .encodeDuReady 0 0 136, .encodeDuAnalysisStart 32 0 0 0, .encodeDuAnalysisStart 0 0 136 0,
    .encodeDuClose 32 0 0 0 0, .encodeDuClose 0 0 136 0 0, .encodeDuDecision 32 0 0 [] [] 0, .encodeDuDecision 0 0 136 [] [] 0,
    .encodeDuDecision 0 0 0 [] [] 64, .lastDuLeft 32, .codingCoreFault 8, .decoderCoreFault 8, .reorderWindowExpiry 16,
    .decodeHostRingPoll 16 0, .decodePictureDone 16, .decodeDeadline 16 0, .decodeLossTimeout 16
    ] : List Instr).any Instr.wellFormed = false := by decide +kernel

theorem test_ill_formed_audio :
    ([
    .audioSyncWindow 65536 0 0, .exactSlipDue 65536, .nonAudioGapSlip 65536 0, .audioBurstSlip 65536 0, .nonAudioReturnPcm 65536 0,
    .audioChangeDue 65536 0, .audioChangeDue 0 64, .zeroCrossTimeout 65536 0, .zeroCrossTimeout 0 64, .tdmFrameReceived 16 0 0,
    .tdmFrameReceived 0 4 0, .clockLost 16, .tdmRateWindow 16 0, .rateChanged 16 0, .tdmFadeInComplete 16, .mclkRestart 8
    ] : List Instr).any Instr.wellFormed = false := by decide +kernel

theorem test_ill_formed_links :
    ([
    .laneSignalPresent 144, .laneSignalLost 144, .backoffExpiry 144, .laneDown 144, .laneHiBer 144, .eyeMonitorReport 144 0 0,
    .prbsCheckerLock 144 true 0 0, .laneUp 144 0 0 0 0 [], .trainingAttemptTimeout 144 0 [], .trainingAttemptTimeout 0 8 [],
    .cascadeHello 4 0 0 0 true, .cascadeHello 0 65536 0 0 true, .cascadeHello 0 0 4 0 true, .cascadeTimePacket 4 0 0 0 0,
    .cascadeTimeEcho 4 0 0, .cascadePathChanged 4 0 0 none 0, .cascadePathChanged 0 256 0 none 0, .cascadePathChanged 0 0 4 none 0
    ] : List Instr).any Instr.wellFormed = false := by decide +kernel

theorem test_ill_formed_module_services :
    ([
    .nightlightSourceLock 144 true, .nightlightPrimaryTimeout 144, .nightlightSourceSwitch 144, .nightlightAdopt 144 0 true,
    .adoptionJoin 144, .hbmTrained [4], .lanternError 0, .lanternError 6, .exchangeExpiry (2 ^ 32), .streamKeyRekeyDue 1024,
    .streamKeyExpired 1024, .hbmRefreshInterval 4, .hbmTempRead 4 0, .hbmStackFenced 4, .perBankRefreshComplete 4 0, .bulkCapWindow 43,
    .bulkCapWindow 48, .hbmReadComplete 48 0 0 0 [] [] .other, .sramBankWake 48 0, .sramEccUncorrectable 48 0 0 true [],
    .autoFenceMove 0 0, .autoFenceMove 9 0, .hardFaultFence 0 0, .hardFaultFence 9 0, .unitTestComplete 0 0 true 0,
    .unitTestComplete 9 0 true 0
    ] : List Instr).any Instr.wellFormed = false := by decide +kernel

theorem test_ill_formed_units :
    ([
    .pllLockLost 50, .eclipseEnd 50, .glideStep 50, .pllFailed 50, .pllRelocked 50 0 0, .pllFailedRetry 50 true, .cvuStart true 8 0,
    .cvuStart true 0 (2 ^ 32), .cvuAbort true 8 0 [], .cvuScanEnd 8 [] none, .evrEnable .pf0 3, .evrEnable .pf1 0, .evrDisable .pf1 2,
    .evrConsumerWrite .pf1 0 0, .evrConsumerWrite .pf0 0 (2 ^ 32), .evrModerationWrite .pf0 3 0 0, .evrModerationWrite .pf0 0 65536 0,
    .evrModerationWrite .pf0 0 0 65536, .moderationHoldoffExpiry 4, .eventSummary 4 true, .heldCriticalWrite 4 true
    ] : List Instr).any Instr.wellFormed = false := by decide +kernel

theorem test_ill_formed_accesses :
    ([
    .hrtTgFrameRead 256 0 8, .hrtTgFrameRead 0 8 8, .hrtTgFrameRead 0 0 0, .hrtTgFrameRead 0 0 9, .hrtDtLoRead 256 8, .hrtDtLoRead 0 0,
    .hrtDtLoRead 0 9, .directConfigWrite 256 0 [], .directConfigWrite 0 (2 ^ 24) [], .directConfigWrite 0 0 (zeros 9),
    .genericRegisterWrite 256 0 [], .genericRegisterWrite 0 (2 ^ 24) [], .genericRegisterWrite 0 0 (zeros 9),
    .decodeErrorAccess 256 0 8 true, .decodeErrorAccess 0 (2 ^ 64) 8 true, .lockForcedRelease 256 0 true,
    .lockForcedRelease 0 (2 ^ 64) true, .apertureWrite 268435455 (zeros 2), .apertureRead 268435455 2, .arpNdpIcmpEcho 144
    ] : List Instr).any Instr.wellFormed = false := by decide +kernel

theorem test_ill_formed_receptions (f : FrameFacts) (x : SdiFrame) (p : IpPacket) (d : CodedData) (m : ControlMsg) (q : MediaPacket) :
    ([.tgFrameStart 8 f, .sdiFrameReceived 144 x, .ipPacketReceived 512 0 p, .ipPacketReceived 0 2 p, .decodeDataArrival 16 d,
      .cascadeControlPacket 4 m, .cascadeMediaPacket 4 q] : List Instr).any Instr.wellFormed = false := rfl

/-- A well-formed command of each function. -/
theorem test_well_formed : ([.sessionOpen (req []), .mailboxTimeout .pf1 3, .evrEnable .pf1 3, .evrEnable .pf0 2, .hrtDtLoRead 0 8] :
    List Instr).all Instr.wellFormed = true := by decide +kernel

end IllFormed

/-! ## Worked examples and values of the spec -/

namespace Examples

/-- The example after R458: the address 0x123400 with four stacks and with three. -/
theorem test_address_of_R458 : decodeAddress 4 0x123400 = (0, 8, 9216) ∧ decodeAddress 3 0x123400 = (1, 0, 12288) := by decide +kernel

/-- Format costs of the capacity chapter. -/
theorem test_format_cost : formatCost 4 6 = 4 ∧ formatCost 6 6 = 16 ∧ formatCost 7 6 = 64 := by decide +kernel

/-- The worked example of the check units: CRC-32C of the nine digits. -/
theorem test_crc32c : crc32c (bytes [49, 50, 51, 52, 53, 54, 55, 56, 57]) = 0xE3069283 := by decide +kernel

/-- The worked example of the check units: CRC-64. -/
theorem test_crc64 : crcResult 64 true (2 ^ 64 - 1) (crcRun 64 0x42F0E1EBA9EA3693 true (2 ^ 64 - 1)
    (bytes [49, 50, 51, 52, 53, 54, 55, 56, 57])) = 0x995DC9BBDF1939FA := by decide +kernel

/-- Thermal steps by junction temperature (R533). -/
theorem test_thermal_steps : stepsAt 999 = 0 ∧ stepsAt 1000 = 1 ∧ stepsAt 1040 = 3 ∧ stepsAt 1100 = 6 := by decide +kernel

/-- Registers at reset. -/
theorem test_reset_registers : State.reset.groupReg 3 0 0 = 0x00080641 ∧ State.reset.timeReg 2 2 = 0x18
    ∧ State.reset.laneReg 5 1 = 0x0000FFFF00000000 ∧ State.reset.laneReg 5 2 = 0x00080000 := by decide +kernel

/-- A step takes the command at the front of the queue and leaves the rest (`Obligations.StepRunsTheFrontCommand`). -/
theorem test_step_pops : (match step { served with pending := [.glint 0 true, .fullFunction] } with
    | .next t => t.pending | _ => []) = [.fullFunction] := by decide +kernel

/-- The table gives no row any bits: a word spells no command. -/
theorem test_no_command_word : decodeTableWord 16 0x0401 = none := rfl

/-- TIME_STATUS in a mailbox without a session is AUTH_REQUIRED, and leaves no entry (R61, R74). -/
theorem test_no_session :
    ((after (execTimeStatus { req [] with mailbox := 2 } served) served).mailbox 2).state = .error
    ∧ ((after (execTimeStatus { req [] with mailbox := 2 } served) served).mailbox 2).status = stAuthRequired
    ∧ (after (execTimeStatus { req [] with mailbox := 2 } served) served).journal.open_ = [] := by decide +kernel

/-- TIME_STATUS in a session ends OK and is journalled as a command. -/
theorem test_time_status : ((after (execTimeStatus (req []) served) served).mailbox 0).state = .done
    ∧ ((after (execTimeStatus (req []) served) served).mailbox 0).status = stOk
    ∧ (after (execTimeStatus (req []) served) served).journal.open_ ≠ [] := by decide +kernel

end Examples

namespace Protocol

def input1 : Request := (req [])
def input2 : Request := ({ req (bytes [1,0,0,0,0,0,0,0]) with mailbox := 2, major := 0 } : Request)

/-- Inputs of `Obligations.StepRunsTheFrontCommand`. -/
theorem witness_StepRunsTheFrontCommand :
    (served.pending = []) ∧ (served.health.tripped = false) ∧ (served.boot.restart = none) ∧ (served.time.dtSlew = 0) :=
  ⟨by decide +kernel, by decide +kernel, by decide +kernel, by decide +kernel⟩

/-- Inputs of `Obligations.AcceptedCommandsAreJournalledFirst`. -/
theorem witness_AcceptedCommandsAreJournalledFirst :
    ((timeStatus.executes input1 served = true) ∧ (openStatus (timeStatus.run (timeStatus.work input1 served) (timeStatus.taken input1 served)).status = false)
      ∧ ((timeStatus.run (timeStatus.work input1 served) (timeStatus.taken input1 served)).state.journal.newChain = false)
      ∧ ((timeStatus.run (timeStatus.work input1 served) (timeStatus.taken input1 served)).state.journal.open_.length < 64))
    ∧ ((timeStatus.passes input1 served = true) ∧ (served.journal.newChain = false) ∧ (served.journal.open_.length < 64)) :=
  ⟨⟨by decide +kernel, by decide +kernel, by decide +kernel, by decide +kernel⟩,
    ⟨by decide +kernel, by decide +kernel, by decide +kernel⟩⟩

/-- Inputs of `Obligations.SessionsAreOpenedAttachedAndClosed`. -/
theorem witness_SessionsAreOpenedAttachedAndClosed :
    (sessionAttach.executes input2 served = true)
    ∧ (sessionClose.executes input1 served = true) :=
  ⟨by decide +kernel,
    by decide +kernel⟩

/-- Inputs of `Obligations.CancelsAndResponsesTellTheState` (laid out responses tell the state). -/
theorem witness_LaidOutResponsesTellTheState :
    (timeStatus.executes input1 served = true)
    ∧ (tallyRead.executes input1 served = true)
    ∧ (journalHead.executes input1 served = true)
    ∧ (capacityReport.executes input1 served = true) :=
  ⟨by decide +kernel,
    by decide +kernel,
    by decide +kernel,
    by decide +kernel⟩

end Protocol

namespace TimeRows

def tgs (g en ras rate jump : Nat) := req (bytes [g, en, ras, rate, 0, 0, 0, 0, 0, jump, 0, 0, 0, 0, 0, 0])
def sSub := after (execCcpMbDoorbell 0x0280 (req []) served) served
def sAcc := served.setMailbox 0 { served.mailbox 0 with state := .accepted, jsn := 9 }
def g0 := served.tg 0
def s1e := after (own timingGroupSet (tgs 1 1 6 6 1) served) served
def s1r := after (execTgEnableStart 1 s1e) s1e
def stQ : State := (served.setQuad 1 { served.quad 1 with protocol := 2, mode := 1 }).setQuad 2 { served.quad 2 with protocol := 1 }
def rRef := req (bytes [2, 3, 20, 0, 5, 0, 0, 0] ++ bytes [4,0,0,0,0,0,0,0] ++ bytes [2,0,8,0,0,0,0,0] ++ zeros 24)
def c1 : Cand := { kind := 1, transport := 0, port := 0, vlan := 0, raster := 0, rate := 0, state := .acquiring, lockedAt := 0, good := 16, bad := 0 }
def c4 : Cand := { c1 with kind := 4 }
def withC (l : List Cand) (sel : Option Nat) : State := { served with time := { served.time with cands := l, selected := sel, everLocked := true } }
def c1L : Cand := { c1 with state := .locked }
def syn (k out mask : Nat) := req (bytes [k, out, mask, 1] ++ le 4 1234 ++ bytes [9, 0, 0, 0] ++ le 4 4321)
def pl (p st : Nat) (left : Int := 0) := served.setPll p { served.pll p with state := st, left := left }
def sBusy : State := { s1r with routing := { s1r.routing with gens := [(2, { enabled := true, tg := 1, raster := 6, rate := 6 })] } }
def input0 : BitVec 16 := (0x0280 : BitVec 16)
def input1 : Request := req []
def input2 : Request := tgs 1 1 6 6 1
def input4 : Request := tgs 0 1 g0.raster g0.rate 1
def input5 : Request := tgs 0 1 5 g0.rate 1
def input7 : State := { s1e with time := { s1e.time with dt := 1753500000 * 10^9 } }
def input8 : Request := tgs 1 0 6 6 1
def input10 : Request := req (le 6 1753500000 ++ zeros 2 ++ le 4 77 ++ zeros 4)
def input14 : State := withC [c1] none
def input17 : State := withC [c1L] (some 0)
def input19 : State := withC [c1L, { c4 with state := .locked }] (some 1)
def input22 : State := { withC [{ c4 with state := .locked }] (some 0) with time := { (withC [{ c4 with state := .locked }] (some 0)).time with ppsSeconds := some 77, dt := 10^9 + 300 } }
def input23 : Request := syn 1 1 11
def input26 : State := pl 38 2
def input27 : State := pl 38 3
def input29 : State := pl 3 4 7
def input30 : State := pl 3 5 (-7)
def input32 : State := pl 3 6 (-1000001)
def input33 : State := pl 40 4

/-- Inputs of `Obligations.MailboxesSubmitWaitAndTimeOut`. -/
theorem witness_MailboxesSubmitWaitAndTimeOut :
    ((served.service input1.view input1.mailbox = Service.firmware) ∧ (served.journal.swapping = false)
      ∧ ((served.mailbox (mbKey input1.view input1.mailbox)).state ≠ MbState.submitted
      ∧ (served.mailbox (mbKey input1.view input1.mailbox)).state ≠ MbState.accepted ∧ input0.toNat ∈ opcodes))
    ∧ ((sSub.service input1.view input1.mailbox = Service.firmware) ∧ (sSub.journal.swapping = false)
      ∧ ((sSub.mailbox (mbKey input1.view input1.mailbox)).state = MbState.submitted ∨ (sSub.mailbox (mbKey input1.view input1.mailbox)).state = MbState.accepted))
    ∧ ((sSub.mailbox (mbKey View.pf0 0)).state = MbState.submitted ∨ (sSub.mailbox (mbKey View.pf0 0)).state = MbState.accepted)
    ∧ ((sSub.mailbox (mbKey View.pf0 0)).state = MbState.submitted)
    ∧ ((sAcc.mailbox (mbKey View.pf0 0)).state = MbState.accepted) :=
  ⟨⟨by decide +kernel, by decide +kernel, by decide +kernel⟩,
    ⟨by decide +kernel, by decide +kernel, by decide +kernel⟩,
    by decide +kernel,
    by decide +kernel,
    by decide +kernel⟩

/-- Inputs of `Obligations.TimingGroupsStartAndCountFrames` (timing group is enabled and disabled). -/
theorem witness_TimingGroupIsEnabledAndDisabled :
    ((timingGroupSet.executes input2 served = true) ∧ ((served.tg (u8 input2.payload 0)).enabled = false ∧ u8 input2.payload 1 = 1))
    ∧ ((timingGroupSet.executes input4 served = true) ∧ ((served.tg (u8 input4.payload 0)).enabled = true ∧ u8 input4.payload 1 = 1
      ∧ (served.tg (u8 input4.payload 0)).sameParams input4.payload = true ∧ (served.waitsOn 514 fun (q : Bytes) => u8 q 0 == u8 input4.payload 0) = false))
    ∧ ((timingGroupSet.executes input5 served = true) ∧ ((served.tg (u8 input5.payload 0)).enabled = true ∧ u8 input5.payload 1 = 1
      ∧ (served.tg (u8 input5.payload 0)).sameParams input5.payload = false ∧ timingGroupSet.mayWait input5 served Point.frameStart (u8 input5.payload 0)))
    ∧ ((timingGroupSet.executes input8 s1r = true) ∧ (u8 input8.payload 1 = 0
      ∧ (timingGroupSet.taken input8 s1r).groupBusy (u8 input8.payload 0) = false))
    ∧ ((timingGroupSet.executes input8 sBusy = true) ∧ (u8 input8.payload 1 = 0
      ∧ (timingGroupSet.taken input8 sBusy).groupBusy (u8 input8.payload 0) = true)) :=
  ⟨⟨by decide +kernel, by decide +kernel⟩,
    ⟨by decide +kernel, by decide +kernel⟩,
    ⟨by decide +kernel, by unfold Cmd.mayWait; decide +kernel⟩,
    ⟨by decide +kernel, by decide +kernel⟩,
    ⟨by decide +kernel, by decide +kernel⟩⟩

/-- Inputs of `Obligations.TimingGroupsStartAndCountFrames` (enabled group starts at the derived frame). -/
theorem witness_EnabledGroupStartsAtTheDerivedFrame :
    (1 < 8) ∧ ((input7.tg 1).starting = true) :=
  ⟨by decide +kernel, by decide +kernel⟩

/-- Inputs of `Obligations.TimingGroupsStartAndCountFrames` (frame start counts exactly one). -/
theorem witness_FrameStartCountsExactlyOne :
    (0 < 8) ∧ ((served.tg 0).enabled = true) ∧ ((served.tg 0).starting = false) :=
  ⟨by decide +kernel, by decide +kernel, by decide +kernel⟩

/-- Inputs of `Obligations.ReferencesAreListedLockedAndLost` (reference set takes the new list). -/
theorem witness_ReferenceSetTakesTheNewList :
    referenceSet.executes rRef stQ = true :=
  by decide +kernel

/-- Inputs of `Obligations.DeviceTimeIsSetAndFollows` (dt set follows the reference). -/
theorem witness_DtSetFollowsTheReference :
    dtSet.executes input10 served = true :=
  by decide +kernel

/-- Inputs of `Obligations.ReferencesAreListedLockedAndLost` (reference is locked and lost). -/
theorem witness_ReferenceIsLockedAndLost :
    ((input14.time.cands[0]? = some c1) ∧ (c1.state = CandState.acquiring) ∧ (c1.kind = 1 → 16 ≤ c1.good) ∧ (input14.time.cascadeTime = false)
      ∧ (input14.time.selected = none) ∧ (∀ (j : Nat) (d : Cand), input14.time.cands[j]? = some d → d.state ≠ CandState.locked))
    ∧ ((input17.time.cands[0]? = some c1L) ∧ (c1L.state = CandState.locked) ∧ (input17.time.cascadeTime = false) ∧ (input17.time.selected = some 0)
      ∧ (input17.time.everLocked = true) ∧ (∀ (j : Nat) (d : Cand), j ≠ 0 → input17.time.cands[j]? = some d → d.state ≠ CandState.locked))
    ∧ ((input19.time.cands[0]? = some c1L) ∧ (c1L.state = CandState.locked) ∧ (input19.time.selected = some 1) ∧ (0 < 1)
      ∧ (input19.time.cascadeTime = false)) :=
  ⟨⟨by decide +kernel, by decide +kernel, by decide +kernel, by decide +kernel, by decide +kernel,
    by intro j d h; replace h := List.mem_of_getElem? h; revert d; decide +kernel⟩,
    ⟨by decide +kernel, by decide +kernel, by decide +kernel, by decide +kernel, by decide +kernel,
    by intro j d hj h; obtain ⟨k, rfl⟩ : ∃ k, j = k + 1 := ⟨j - 1,
    by omega⟩; replace h : (input17.time.cands.drop 1)[k]? = some d := (by rw [List.getElem?_drop, Nat.add_comm]; exact h); replace h := List.mem_of_getElem? h; clear hj; revert d; decide +kernel⟩,
    ⟨by decide +kernel, by decide +kernel, by decide +kernel, by decide +kernel, by decide +kernel⟩⟩

/-- Inputs of `Obligations.DeviceTimeIsSetAndFollows` (sync and pulse move device time). -/
theorem witness_SyncAndPulseMoveDeviceTime :
    ((input17.time.cands[0]? = some c1L) ∧ (c1L.kind = 1) ∧ (input17.time.selected = some 0))
    ∧ (input22.time.selectedKind = 4) :=
  ⟨⟨by decide +kernel, by decide +kernel, by decide +kernel⟩,
    by decide +kernel⟩

/-- Inputs of `Obligations.ClocksAreConfiguredAndLoopsFollow` (synth configure stores what its mask names). -/
theorem witness_SynthConfigureStoresWhatItsMaskNames :
    synthConfigure.executes input23 served = true :=
  by decide +kernel

/-- Inputs of `Obligations.ClocksAreConfiguredAndLoopsFollow` (loops lose lock and relock). -/
theorem witness_LoopsLoseLockAndRelock :
    ((38 < 50) ∧ ((input26.pll 38).state = 2 ∨ (input26.pll 38).state = 5))
    ∧ ((38 < 50) ∧ ((input27.pll 38).state = 3))
    ∧ ((input29.pll 3).state = 4)
    ∧ ((input30.pll 3).state = 5)
    ∧ ((input32.pll 3).state = 6) :=
  ⟨⟨by decide +kernel, by decide +kernel⟩,
    ⟨by decide +kernel, by decide +kernel⟩,
    by decide +kernel,
    by decide +kernel,
    by decide +kernel⟩

/-- Inputs of `Obligations.ClocksAreConfiguredAndLoopsFollow` (glints and lost oscillators). -/
theorem witness_GlintsAndLostOscillators :
    (((input33.pll 40).state = 4) ∧ (40 < 2 ∨ 38 ≤ 40))
    ∧ (0 < 19) :=
  ⟨⟨by decide +kernel, by decide +kernel⟩,
    by decide +kernel⟩

end TimeRows

namespace Flows

def stS : State := after (execTimingGroupSet (req (bytes [0, 1, 6, 3, 0, 0, 0, 0, 0, 1, 0, 0, 0, 0, 0, 0])) served) served
def stSl : State := stS.setTg 0 { stS.tg 0 with pos := { (stS.tg 0).pos with line := 1120 } }
def stE : State := (served.setQuad 1 { served.quad 1 with protocol := 2, mode := 1 }).setQuad 2 { served.quad 2 with protocol := 1 }
def stUp : State := (List.range 16).foldl (fun s n => s.setLane n { s.lane n with state := .up, rxEn := true }) stE
def fcfg (n dir k en two : Nat) (fmt : Nat × Nat := (0, 0)) : Bytes :=
  le 2 n ++ bytes [dir, k, en, 1 + two, 4, if dir = 1 then 0 else 0] ++ le 2 4 ++ le 2 (if two = 1 then 5 else 0) ++ le 2 0 ++ le 2 0
   ++ (bytes [10,0,0,1] ++ zeros 12) ++ (bytes [10,0,0,2] ++ zeros 12)
   ++ (if two = 1 then (bytes [10,0,1,1] ++ zeros 12) ++ (bytes [10,0,1,2] ++ zeros 12) else zeros 32)
   ++ le 2 5000 ++ le 2 (if two = 1 then 5001 else 0) ++ le 2 (if dir = 1 then 5000 else 0) ++ bytes [if k = 7 then 0 else 96, 0] ++ le 4 0
   ++ bytes [fmt.1, fmt.2, 0, 0, 0, 0, if k = 1 ∨ k = 2 then 2 else 0, 0, 0, 0] ++ le 2 0 ++ le 4 0 ++ le 4 0 ++ le 2 0 ++ le 2 0
   ++ le 2 (if dir = 0 ∧ k = 0 then 0xFFFF else 0) ++ zeros 2 ++ (if dir = 0 ∧ k = 0 then (List.replicate 32 255) else zeros 32)
def sF := after (own flowConfigure (req (fcfg 3 0 0 1 1 (6,6))) stUp) stUp
def lf (e : List Nat) (trs : Nat) (u : Bool := false) : LinkFrame := { crcLines := e, trsErrors := trs, number := none, underrun := u, delay := 0 }
def mm : Measures := { diff := 1, mean := 2, peak := 3, levels := [], samePicture := [false], cut := false }
def sf (c : Bool) (l : LinkFrame) : SdiFrame := { start := 5, next := none, complete := c, measured := some (5, 3), st352 := none, iface := none, unsupported := false, links := [l], anc := [], picture := mm }
def stL : State := stUp.setInput 8 { stUp.input 8 with loss := 0, format := some (5,3), good := 4 }
def pk (q : Nat) (fr : Bool := false) : IpPacket := { seq := q, ts := 90, payloadType := 96, ssrc := 7, marker := false, fragment := fr, overrun := false, authentic := true, rows := [(1,0,10)], fits := true, anc := [], sdi := none, picture := mm }
def fl (next : Option Nat) (held : List IpPacket) : State := sF.setRx 3 { sF.rx 3 with next := next, held := held }
def sFg : State := sF.setInput 0x1003 { sF.input 0x1003 with loss := 0 }
def lg (l : Leg) : State := sF.setRx 3 { sF.rx 3 with legs := [{}, l] }
def input4 : Request := { req (le 8 1099511627778) with token := 9 }
def input5 : State := { stS with ccp := { stS.ccp with cache := [] } }
def input6 : Request := req (fcfg 3 0 0 1 1 (6,6))
def input9 : Request := req (fcfg 3 1 0 0 1 (6,6))
def input11 : State := { stUp with health := { stUp.health with fences := [⟨1, 5, 2⟩] } }  -- sdi frames
def input12 : SdiFrame := sf true (lf [3,4] 0)
def input14 : SdiFrame := sf true (lf [] 0 true)
def input17 : State := { stL with lanes := { stL.lanes with lanes := tabPut stL.lanes.lanes 8 { stL.lane 8 with state := .training } } }
def input18 : State := stUp.setInput 8 { stUp.input 8 with loss := 2, good := 4 } -- packets
def input19 : IpPacket := pk 20 true
def input20 : IpPacket := pk 20
def input21 : State := fl (some 20) []
def input22 : IpPacket := pk 19
def input23 : State := fl (some 20) [pk 25]
def input24 : IpPacket := pk 22
def input26 : State := lg { lost := true, seen := true }
def input28 : IpPacket := pk 25
def input29 : List IpPacket := [pk 26, pk 30]
def input30 : State := fl (some 20) [pk 25, pk 26, pk 30]

/-- Inputs of `Obligations.CancelsAndResponsesTellTheState` (cancel and result name a jsn). -/
theorem witness_CancelAndResultNameAJsn :
    ((commandCancel.executes input4 stS = true) ∧ ((List.filter (fun (e : Sched) => e.jsn == u64 input4.payload 0) stS.ccp.schedule).all stS.inTime = true))
    ∧ ((commandCancel.executes input4 stSl = true)
      ∧ ((List.filter (fun (e : Sched) => e.jsn == u64 input4.payload 0) stSl.ccp.schedule).all stSl.inTime = false))
    ∧ ((commandResult.executes input4 input5 = true)
      ∧ (List.find? (fun (e : Cached) => e.jsn == u64 (commandResult.work input4 input5).args 0) (commandResult.taken input4 input5).ccp.cache = none)) :=
  ⟨⟨by decide +kernel, by decide +kernel⟩,
    ⟨by decide +kernel, by decide +kernel⟩,
    ⟨by decide +kernel, by decide +kernel⟩⟩

/-- Inputs of `Obligations.FlowsAreConfiguredAndTimeOut` (flows take their configuration). -/
theorem witness_FlowsTakeTheirConfiguration :
    ((flowConfigure.executes input6 stUp = true) ∧ (u8 input6.payload 2 = 0
      ∧ (flowConfigure.taken input6 stUp).keyLost (stUp.rx (u16 input6.payload 0)) = false
      ∧ (u32 input6.payload 104 = 0 ∨ (flowConfigure.taken input6 stUp).keyUsable (u32 input6.payload 104) = true)
      ∧ (∀ (k : Nat), k ∈ List.range (u8 input6.payload 5) → (flowConfigure.taken input6 stUp).fenced 1 (u16 input6.payload (8 + 2 * k)) = false)
      ∧ (u8 input6.payload 3 = 1 ∨ u8 input6.payload 3 = 2 → u8 input6.payload 101 = (flowConfigure.taken input6 stUp).systemRate)))
    ∧ ((flowConfigure.executes input9 stUp = true) ∧ (u8 input9.payload 2 = 1
      ∧ (flowConfigure.taken input9 stUp).keyLost (stUp.tx (u16 input9.payload 0)) = false
      ∧ ((u32 input9.payload 104 = 0 ∨ (flowConfigure.taken input9 stUp).keyUsable (u32 input9.payload 104) = true)
      ∧ (∀ (k : Nat), k ∈ List.range (u8 input9.payload 5) → (flowConfigure.taken input9 stUp).fenced 1 (u16 input9.payload (8 + 2 * k)) = false)
      ∧ (u8 input9.payload 3 = 1 ∨ u8 input9.payload 3 = 2 → u8 input9.payload 101 = (flowConfigure.taken input9 stUp).systemRate))
      ∧ (u8 input9.payload 4 = 1 → ∀ (k : Nat), k ∈ List.range (u8 input9.payload 5) → (flowConfigure.taken input9 stUp).portFits (u16 input9.payload (8 + 2 * k)) (u16 input9.payload 0) { cfg := input9.payload, legs := (stUp.tx (u16 input9.payload 0)).legs, next := (stUp.tx (u16 input9.payload 0)).next, held := (stUp.tx (u16 input9.payload 0)).held, received := (stUp.tx (u16 input9.payload 0)).received, lost := (stUp.tx (u16 input9.payload 0)).lost, duplicate := (stUp.tx (u16 input9.payload 0)).duplicate, outOfOrder := (stUp.tx (u16 input9.payload 0)).outOfOrder, recovered := (stUp.tx (u16 input9.payload 0)).recovered, ts := (stUp.tx (u16 input9.payload 0)).ts, frameTs := (stUp.tx (u16 input9.payload 0)).frameTs, second := (stUp.tx (u16 input9.payload 0)).second, samples := (stUp.tx (u16 input9.payload 0)).samples, anc := (stUp.tx (u16 input9.payload 0)).anc, ancByTs := (stUp.tx (u16 input9.payload 0)).ancByTs, badStep := (stUp.tx (u16 input9.payload 0)).badStep, waiting := (stUp.tx (u16 input9.payload 0)).waiting, txSeq := (stUp.tx (u16 input9.payload 0)).txSeq, txTs := (stUp.tx (u16 input9.payload 0)).txTs, oldKey := (stUp.tx (u16 input9.payload 0)).oldKey, keyTold := (stUp.tx (u16 input9.payload 0)).keyTold } = true)))
    ∧ ((flowConfigure.executes input6 input11 = true)
      ∧ ((u32 input6.payload 104 = 0 ∨ (flowConfigure.taken input6 input11).keyUsable (u32 input6.payload 104) = true)
      ∧ (flowConfigure.taken input6 input11).keyLost (if u8 input6.payload 2 = 1 then input11.tx (u16 input6.payload 0) else input11.rx (u16 input6.payload 0)) = false ∧ ∃ (k : Nat), k ∈ List.range (u8 input6.payload 5)
      ∧ (flowConfigure.taken input6 input11).fenced 1 (u16 input6.payload (8 + 2 * k)) = true)) :=
  ⟨⟨by decide +kernel, by decide +kernel⟩,
    ⟨by decide +kernel, by decide +kernel⟩,
    ⟨by decide +kernel, by decide +kernel⟩⟩

/-- Inputs of `Obligations.InputsAndPacketsAreReceived` (inputs count frames and enter loss). -/
theorem witness_InputsCountFramesAndEnterLoss :
    ((stUp.sourceOk 8 = true) ∧ ((stUp.quad (8 / 4)).protocol = 1) ∧ (∀ (m : Nat), m ∈ stUp.rxGroup 8 → (stUp.lane m).state = Train.up)
      ∧ (firstCause input12       (List.map         (fun (k : Nat) =>           match input12.links[k]? with           | some l => if l.trsErrors = 0 then 0 else (stUp.input 8).trsRun.getD k 0 + 1           | none => 0)         (List.range 4)) =     (0, 0) ∧   wrongFormat input12 (stUp.rxSet 8) = false
      ∧ ((stUp.rxSet 8).fixed ≠ none ∨ (stUp.input 8).format = none ∨ (stUp.input 8).format = sdiFormat input12)))
    ∧ ((stUp.sourceOk 8 = true) ∧ ((stUp.quad (8 / 4)).protocol = 1) ∧ (∀ (m : Nat), m ∈ stUp.rxGroup 8 → (stUp.lane m).state = Train.up)
      ∧ ((firstCause input14       (List.map         (fun (k : Nat) =>           match input14.links[k]? with           | some l => if l.trsErrors = 0 then 0 else (stUp.input 8).trsRun.getD k 0 + 1           | none => 0)         (List.range 4))).fst ≠   0))
    ∧ ((input17.inLoss 8 = false) ∧ (lossHolds input17 8 1 1 = true) ∧ (1 ≠ 0))
    ∧ ((stUp.inLoss 8 = true) ∧ ((stUp.input 8).good < 4))
    ∧ ((input18.inLoss 8 = true) ∧ (4 ≤ (input18.input 8).good)) :=
  ⟨⟨by decide +kernel, by decide +kernel, by decide +kernel, by decide +kernel⟩,
    ⟨by decide +kernel, by decide +kernel, by decide +kernel, by decide +kernel⟩,
    ⟨by decide +kernel, by decide +kernel, by decide +kernel⟩,
    ⟨by decide +kernel, by decide +kernel⟩,
    ⟨by decide +kernel, by decide +kernel⟩⟩

/-- Inputs of `Obligations.InputsAndPacketsAreReceived` (packets merge in sequence). -/
theorem witness_PacketsMergeInSequence :
    ((input23.halted = false) ∧ (3 < 512) ∧ ((input23.rx 3).enabled = true) ∧ (1 < (input23.rx 3).legCount) ∧ (1 < (input23.rx 3).legs.length)
      ∧ (input24.fragment = false ∧ input24.overrun = false ∧ (input23.rx 3).matches input24 = true ∧ (input23.rx 3).handle = 0)
      ∧ ((input23.rx 3).next = some 20) ∧ (20 < input24.seq) ∧ ((input23.rx 3).legCount = 2 ∨ codedKind (input23.rx 3).kind = true)
      ∧ (∀ (q : IpPacket), q ∈ (input23.rx 3).held → q.seq ≠ input24.seq))
    ∧ ((input23.halted = false) ∧ (3 < 512) ∧ ((input23.rx 3).enabled = true) ∧ (1 < (input23.rx 3).legCount) ∧ (1 < (input23.rx 3).legs.length)
      ∧ (input22.fragment = false ∧ input22.overrun = false ∧ (input23.rx 3).matches input22 = true ∧ (input23.rx 3).handle = 0)
      ∧ ((input23.rx 3).next = some 20) ∧ (input22.seq < 20) ∧ ((input23.rx 3).legCount = 2 ∨ codedKind (input23.rx 3).kind = true))
    ∧ ((input21.halted = false) ∧ (3 < 512) ∧ ((input21.rx 3).enabled = true) ∧ (1 < (input21.rx 3).legCount) ∧ (1 < (input21.rx 3).legs.length)
      ∧ (input20.fragment = false ∧ input20.overrun = false ∧ (input21.rx 3).matches input20 = true ∧ (input21.rx 3).handle = 0)
      ∧ ((input21.rx 3).next = some input20.seq) ∧ ((input21.rx 3).held = []))
    ∧ ((sF.halted = false) ∧ (3 < 512) ∧ ((sF.rx 3).enabled = true) ∧ (1 < (sF.rx 3).legCount) ∧ (1 < (sF.rx 3).legs.length)
      ∧ (input20.fragment = false ∧ input20.overrun = false ∧ (sF.rx 3).matches input20 = true ∧ (sF.rx 3).handle = 0) ∧ ((sF.rx 3).next = none))
    ∧ ((sF.halted = false) ∧ (3 < 512) ∧ ((sF.rx 3).enabled = true) ∧ (1 < (sF.rx 3).legCount) ∧ (1 < (sF.rx 3).legs.length)
      ∧ (input19.fragment = true))
    ∧ (((input30.rx 3).enabled = true) ∧ ((input30.rx 3).held = input28 :: input29) ∧ ((input30.rx 3).next = some 20) ∧ (20 < input28.seq)) :=
  ⟨⟨by decide +kernel, by decide +kernel, by decide +kernel, by decide +kernel, by decide +kernel, by decide +kernel, by decide +kernel,
    by decide +kernel, by decide +kernel, by decide +kernel⟩,
    ⟨by decide +kernel, by decide +kernel, by decide +kernel, by decide +kernel, by decide +kernel, by decide +kernel, by decide +kernel,
    by decide +kernel, by decide +kernel⟩,
    ⟨by decide +kernel, by decide +kernel, by decide +kernel, by decide +kernel, by decide +kernel, by decide +kernel, by decide +kernel,
    by decide +kernel⟩,
    ⟨by decide +kernel, by decide +kernel, by decide +kernel, by decide +kernel, by decide +kernel, by decide +kernel, by decide +kernel⟩,
    ⟨by decide +kernel, by decide +kernel, by decide +kernel, by decide +kernel, by decide +kernel, by decide +kernel⟩,
    ⟨by decide +kernel, by decide +kernel, by decide +kernel, by decide +kernel⟩⟩

/-- Inputs of `Obligations.FlowsAreConfiguredAndTimeOut` (flow timeouts and port answers). -/
theorem witness_FlowTimeoutsAndPortAnswers :
    (((sFg.rx 3).enabled = true) ∧ (1 < (sFg.rx 3).legCount) ∧ (1 < (sFg.rx 3).legs.length) ∧ (((sFg.rx 3).legs.getD 1 { }).lost = false))
    ∧ (((input26.rx 3).enabled = true) ∧ (1 < (input26.rx 3).legCount) ∧ (1 < (input26.rx 3).legs.length) ∧ (((input26.rx 3).legs.getD 1 { }).lost = true
      ∧ ((input26.rx 3).legs.getD 1 { }).seen = true))
    ∧ (((sFg.rx 3).enabled = true) ∧ (pictureKind (sFg.rx 3).kind = true) ∧ (sFg.inLoss (flowSource 3) = false))
    ∧ ((stUp.ethernetPort 4 = true) ∧ ((stUp.lane 4).state = Train.up) ∧ (stUp.fwRunning = true)) :=
  ⟨⟨by decide +kernel, by decide +kernel, by decide +kernel, by decide +kernel⟩,
    ⟨by decide +kernel, by decide +kernel, by decide +kernel, by decide +kernel⟩,
    ⟨by decide +kernel, by decide +kernel, by decide +kernel⟩,
    ⟨by decide +kernel, by decide +kernel, by decide +kernel⟩⟩

end Flows

namespace Routes

def stA : State := served.setQuad 2 { served.quad 2 with protocol := 1, mode := 1 }
def stR : State := (List.range 4).foldl (fun s n => s.setLane (8+n) { s.lane (8+n) with state := .up, rxEn := true, txEn := true, txIface := 3 }) stA
def ent (d src lane nf : Nat) : Bytes := le 2 d ++ le 2 src ++ bytes [lane, nf, 0, 0]
def rR := req (ent 8 9 0 1)
def rS := req (le 2 2 ++ zeros 6 ++ ent 8 9 0 1 ++ ent 10 11 0 0)
def rule (en : Nat) := le 2 8 ++ bytes [en, 2] ++ le 2 9 ++ le 2 10 ++ le 2 0xF000 ++ le 2 0xF000 ++ bytes [63, 1] ++ zeros 34
def dcf (g : Nat) := req (le 2 8 ++ bytes [g, 1] ++ le 4 7 ++ bytes [2, 0,0,0])
def stG : State := after (execTgEnableStart 1 (after (own timingGroupSet (req (bytes [1, 1, 6, 6, 0, 0, 0, 0, 0, 1, 0, 0, 0, 0, 0, 0])) stR) stR)) stR
def syn (g : Nat) := req (le 2 9 ++ bytes [g, 1] ++ le 4 7 ++ bytes [0,0,0,0,0,0,0,0])
def gn (en pat : Nat) := req (bytes [2, en, 0, (served.tg 0).raster, (served.tg 0).rate, pat] ++ zeros 10)
def stGn : State := (stR.setGen 2 { stR.gen 2 with enabled := true, tg := 1, raster := 6, rate := 6 }).setDest 8 { stR.dest 8 with source := 0x5002 }
def stW : State := stR.setRule 8 { cfg := rule 1, cands := [⟨9, 0, [0,0,0,0,0,0], 5⟩, ⟨10, 0, [3,0,0,0,0,0], 9⟩], decided := some (1, 2, 0) }
def stLk : State := stR.setDest 8 { stR.dest 8 with locked := true }
def stLk2 : State := stR.setDest 10 { stR.dest 10 with locked := true }
def wBad : Watched := ⟨9, 0, [9000, 9000, 9000, 9000, 9000, 9000], 0⟩
def wGood : Watched := ⟨10, 0, [0, 0, 0, 0, 0, 0], 9⟩
def wSick : Watched := ⟨10, 0, [0, 0, 0, 0, 0, 0], 0⟩
def wR : Rule := { cfg := rule 1, cands := [⟨9, 0, [0,0,0,0,0,0], 5⟩, ⟨10, 0, [3,0,0,0,0,0], 9⟩], decided := some (1, 2, 0) }
def input0 : State := ((fullOf 103 stR).setTg 0 { stR.tg 0 with pos := ⟨9, 0, 0⟩ })
def input4 : State := stR.setDest 8 { stR.dest 8 with locked := true }
def input8 : Request := req (le 2 8 ++ bytes [1,0,0,0,0,0])
def input9 : Request := req (rule 1)
def input11 : Request := { dcf 0 with token := 5 }
def input12 : Request := { dcf 1 with token := 5 }
def input13 : State := stG.setDest 8 { stG.dest 8 with locked := true }
def input14 : Request := syn 0
def input15 : Request := syn 3
def input16 : Request := gn 1 1
def input17 : Request := gn 0 1
def input20 : State := stR.setDest 8 { stR.dest 8 with lane := true, source := 9 }
def input23 : Bytes := ent 10 11 0 0
def input24 : Bytes := rule 1
def input25 : List Watched := [wBad, wGood]
def input26 : Nat := ((activeCondition (rule 1) wBad).getD 99)
def input27 : List Watched := [wBad, wSick]
def input28 : List Watched := [⟨9, 0, [0, 0, 0, 0, 0, 0], 90000⟩, wGood]
def input29 : List Watched := [⟨9, 0, [0, 0, 0, 0, 0, 0], 0⟩, wGood]
def input30 : Watched := ⟨10, 0, [3,0,0,0,0,0], 9⟩

/-- Inputs of `Obligations.RoutesAndSalvosWaitForTheirSwitch` (routes wait for their switch). -/
theorem witness_RoutesWaitForTheirSwitch :
    ((routeSet.executes rR stR = true)
      ∧ ((routeSet.taken rR stR).routeRefusal rR.payload = none ∧ routeSet.mayWait rR stR (routeKind rR.payload) (if u8 rR.payload 4 = 1 then rR.group.toNat else stR.destGroup (u16 rR.payload 0))
      ∧ (routeSet.taken rR stR).fits ((routeSet.taken rR stR).entryCharges rR.payload) (routeSet.placed rR stR (routeKind rR.payload) (if u8 rR.payload 4 = 1 then rR.group.toNat else stR.destGroup (u16 rR.payload 0))).effect = true))
    ∧ ((routeSet.executes rR input0 = true) ∧ ((routeSet.taken rR input0).routeRefusal rR.payload = none
      ∧ (routeSet.placed rR input0 (routeKind rR.payload) (if u8 rR.payload 4 = 1 then rR.group.toNat else input0.destGroup (u16 rR.payload 0))).late = false
      ∧ (routeSet.taken rR input0).waiting < 8192
      ∧ (routeSet.taken rR input0).fits ((routeSet.taken rR input0).entryCharges rR.payload) (routeSet.placed rR input0 (routeKind rR.payload) (if u8 rR.payload 4 = 1 then rR.group.toNat else input0.destGroup (u16 rR.payload 0))).effect = false))
    ∧ ((routeSet.executes rR stLk = true) ∧ ((routeSet.taken rR stLk).routeRefusal rR.payload = some stDestinationLocked)) :=
  ⟨⟨by decide +kernel, by unfold Cmd.mayWait; decide +kernel⟩,
    ⟨by decide +kernel, by decide +kernel⟩,
    ⟨by decide +kernel, by decide +kernel⟩⟩

/-- Inputs of `Obligations.RoutesAndSalvosWaitForTheirSwitch` (salvos are all or nothing). -/
theorem witness_SalvosAreAllOrNothing :
    ((salvo.executes rS stLk2 = true) ∧ ((salvoEntries (salvo.work rS stLk2))[1]? = some input23)
      ∧ ((salvo.taken rS stLk2).routeRefusal input23 = some stDestinationLocked)
      ∧ (∀ (j : Nat) (q : Bytes), j < 1 → (salvoEntries (salvo.work rS stLk2))[j]? = some q → (salvo.taken rS stLk2).routeRefusal q = none)
      ∧ ((salvo.work rS stLk2).dma = false))
    ∧ ((salvo.executes rS stR = true) ∧ ((∀ (e : Bytes), e ∈ salvoEntries (salvo.work rS stR) → (salvo.taken rS stR).routeRefusal e = none)
      ∧ (((salvo.taken rS stR).place Point.switchLine ((salvo.taken rS stR).salvoGroup (salvo.work rS stR) (salvoEntries (salvo.work rS stR))) rS.atFrame.toNat rS.atLine.toNat rS.group.toNat ((salvo.taken rS stR).stampOf (salvo.work rS stR).key ((salvo.taken rS stR).salvoGroup (salvo.work rS stR) (salvoEntries (salvo.work rS stR))))).late = true ∨ (salvo.taken rS stR).salvoFrame ((salvo.taken rS stR).salvoGroup (salvo.work rS stR) (salvoEntries (salvo.work rS stR))) ((salvo.taken rS stR).place Point.switchLine ((salvo.taken rS stR).salvoGroup (salvo.work rS stR) (salvoEntries (salvo.work rS stR))) rS.atFrame.toNat rS.atLine.toNat rS.group.toNat ((salvo.taken rS stR).stampOf (salvo.work rS stR).key ((salvo.taken rS stR).salvoGroup (salvo.work rS stR) (salvoEntries (salvo.work rS stR))))).effect.frame (salvoEntries (salvo.work rS stR)) ≠ ((salvo.taken rS stR).place Point.switchLine ((salvo.taken rS stR).salvoGroup (salvo.work rS stR) (salvoEntries (salvo.work rS stR))) rS.atFrame.toNat rS.atLine.toNat rS.group.toNat ((salvo.taken rS stR).stampOf (salvo.work rS stR).key ((salvo.taken rS stR).salvoGroup (salvo.work rS stR) (salvoEntries (salvo.work rS stR))))).effect.frame → flagDiscard (salvo.work rS stR).flags = false)
      ∧ (salvo.taken rS stR).overfull (List.flatMap (fun (y : SalvoPart) => List.map (fun (q : Charge) => { dt := (salvo.taken rS stR).effectDt y.effect, charge := q }) ((salvo.taken rS stR).partCharges y)) ((salvo.taken rS stR).salvoParts ((salvo.taken rS stR).salvoGroup (salvo.work rS stR) (salvoEntries (salvo.work rS stR))) ((salvo.taken rS stR).salvoFrame ((salvo.taken rS stR).salvoGroup (salvo.work rS stR) (salvoEntries (salvo.work rS stR))) ((salvo.taken rS stR).place Point.switchLine ((salvo.taken rS stR).salvoGroup (salvo.work rS stR) (salvoEntries (salvo.work rS stR))) rS.atFrame.toNat rS.atLine.toNat rS.group.toNat ((salvo.taken rS stR).stampOf (salvo.work rS stR).key ((salvo.taken rS stR).salvoGroup (salvo.work rS stR) (salvoEntries (salvo.work rS stR))))).effect.frame (salvoEntries (salvo.work rS stR))) (salvoEntries (salvo.work rS stR)))) = []
      ∧ (salvo.taken rS stR).waiting < 8192)) :=
  ⟨⟨by decide +kernel, by decide +kernel, by decide +kernel,
    by intro j d hj h; replace h : ((salvoEntries (salvo.work rS stLk2)).take 1)[j]? = some d := (by rw [List.getElem?_take, if_pos hj]; exact h); replace h := List.mem_of_getElem? h; clear hj; revert d; decide +kernel,
    by decide +kernel⟩,
    ⟨by decide +kernel, by decide +kernel⟩⟩

/-- Inputs of `Obligations.DestinationsAndSourcesAreConfigured` (destinations are locked watched and configured). -/
theorem witness_DestinationsAreLockedWatchedAndConfigured :
    ((watchRuleSet.executes input9 stR = true)
      ∧ ((watchRuleSet.taken input9 stR).destFenced (u16 input9.payload 0) = false ∧ ∀ (c : Nat), (c ∈ if u8 input9.payload 2 = 1 then ruleCands input9.payload else []) → (watchRuleSet.taken input9 stR).sourceFenced c = false)
      ∧ ((stR.dest (u16 input9.payload 0)).locked = false
      ∧ (∀ (c : Nat), (c ∈ if u8 input9.payload 2 = 1 then ruleCands input9.payload else []) → (watchRuleSet.taken input9 stR).compatible (u16 input9.payload 0) c = true) ∧ watchRuleSet.mayWait input9 stR Point.dusk (stR.destGroup (u16 input9.payload 0))
      ∧ (watchRuleSet.taken input9 stR).fits ((watchRuleSet.taken input9 stR).ruleCharges (u16 input9.payload 0) (stR.destGroup (u16 input9.payload 0)) (if u8 input9.payload 2 = 1 then ruleCands input9.payload else [])) (watchRuleSet.placed input9 stR Point.dusk (stR.destGroup (u16 input9.payload 0))).effect = true))
    ∧ ((watchRuleSet.executes input9 input4 = true)
      ∧ ((watchRuleSet.taken input9 input4).destFenced (u16 input9.payload 0) = false ∧ ∀ (c : Nat), (c ∈ if u8 input9.payload 2 = 1 then ruleCands input9.payload else []) → (watchRuleSet.taken input9 input4).sourceFenced c = false)
      ∧ ((input4.dest (u16 input9.payload 0)).locked = true))
    ∧ ((destinationConfigure.executes input11 stG = true) ∧ ((destinationConfigure.taken input11 stG).destFenced (u16 input11.payload 0) = false)
      ∧ ((stG.dest (u16 input11.payload 0)).locked = false
      ∧ (1 < cls (u16 input11.payload 0) ∨ u8 input11.payload 2 = stG.destGroup (u16 input11.payload 0)) ∧ destinationConfigure.mayWait input11 stG Point.switchLine (stG.destGroup (u16 input11.payload 0))))
    ∧ ((destinationConfigure.executes input12 stG = true) ∧ ((destinationConfigure.taken input12 stG).destFenced (u16 input12.payload 0) = false)
      ∧ ((stG.dest (u16 input12.payload 0)).locked = false ∧ cls (u16 input12.payload 0) ≤ 1 ∧ u8 input12.payload 2 ≠ stG.destGroup (u16 input12.payload 0) ∧ destinationConfigure.mayWait input12 stG Point.switchLine (stG.destGroup (u16 input12.payload 0)) ∧ destinationConfigure.mayWait input12 stG Point.frameStart (u8 input12.payload 2)
      ∧ (destinationConfigure.taken input12 stG).fits ((destinationConfigure.taken input12 stG).moveCharges (u16 input12.payload 0) (u8 input12.payload 2)) (destinationConfigure.placed input12 stG Point.frameStart (u8 input12.payload 2)).effect = true))
    ∧ ((destinationConfigure.executes input12 input13 = true) ∧ ((destinationConfigure.taken input12 input13).destFenced (u16 input12.payload 0) = false)
      ∧ ((input13.dest (u16 input12.payload 0)).locked = true))
    ∧ ((destinationLock.executes input8 stR = true) ∧ ((destinationLock.taken input8 stR).destFenced (u16 input8.payload 0) = false)) :=
  ⟨⟨by decide +kernel, by decide +kernel, by unfold Cmd.mayWait; decide +kernel⟩,
    ⟨by decide +kernel, by decide +kernel, by decide +kernel⟩,
    ⟨by decide +kernel, by decide +kernel, by unfold Cmd.mayWait; decide +kernel⟩,
    ⟨by decide +kernel, by decide +kernel, by unfold Cmd.mayWait; decide +kernel⟩,
    ⟨by decide +kernel, by decide +kernel, by decide +kernel⟩,
    ⟨by decide +kernel, by decide +kernel⟩⟩

/-- Inputs of `Obligations.DestinationsAndSourcesAreConfigured` (synchronisers and generators are set). -/
theorem witness_SynchronisersAndGeneratorsAreSet :
    ((syncConfigure.executes input14 stR = true) ∧ ((syncConfigure.taken input14 stR).sourceFenced (u16 input14.payload 0) = false)
      ∧ ((stR.tg (u8 input14.payload 2)).enabled = true ∧ syncConfigure.mayWait input14 stR Point.frameStart (u8 input14.payload 2)))
    ∧ ((syncConfigure.executes input15 stR = true) ∧ ((syncConfigure.taken input15 stR).sourceFenced (u16 input15.payload 0) = false)
      ∧ ((stR.tg (u8 input15.payload 2)).enabled = false))
    ∧ ((testGeneratorSet.executes input16 stR = true) ∧ (u8 input16.payload 1 ≠ 0
      ∧ (stR.sourceUsed (20480 + u8 input16.payload 0) = false ∨ (stR.gen (u8 input16.payload 0)).tg = u8 input16.payload 2
      ∧ (stR.gen (u8 input16.payload 0)).raster = u8 input16.payload 3 ∧ (stR.gen (u8 input16.payload 0)).rate = u8 input16.payload 4)
      ∧ ((stR.gen (u8 input16.payload 0)).enabled = false ∨ (stR.gen (u8 input16.payload 0)).pattern ≠ u8 input16.payload 5) ∧ testGeneratorSet.mayWait input16 stR Point.firstActive (u8 input16.payload 2)))
    ∧ ((testGeneratorSet.executes input17 stR = true) ∧ (u8 input17.payload 1 = 0
      ∧ (stR.sourceUsed (20480 + u8 input17.payload 0) = false ∨ (stR.gen (u8 input17.payload 0)).enabled = false)))
    ∧ ((testGeneratorSet.executes input17 stGn = true) ∧ (stGn.sourceUsed (20480 + u8 input17.payload 0) = true ∧ (u8 input17.payload 1 = 0
      ∧ (stGn.gen (u8 input17.payload 0)).enabled = true ∨ u8 input17.payload 1 ≠ 0 ∧ ¬((stGn.gen (u8 input17.payload 0)).tg = u8 input17.payload 2
      ∧ (stGn.gen (u8 input17.payload 0)).raster = u8 input17.payload 3 ∧ (stGn.gen (u8 input17.payload 0)).rate = u8 input17.payload 4)))) :=
  ⟨⟨by decide +kernel, by decide +kernel, by unfold Cmd.mayWait; decide +kernel⟩,
    ⟨by decide +kernel, by decide +kernel, by decide +kernel⟩,
    ⟨by decide +kernel, by unfold Cmd.mayWait; decide +kernel⟩,
    ⟨by decide +kernel, by decide +kernel⟩,
    ⟨by decide +kernel, by decide +kernel⟩⟩

/-- Inputs of `Obligations.WatchRulesDecideAndSwitch` (decisions switch their destination). -/
theorem witness_DecisionsSwitchTheirDestination :
    ((stW.rule 8 = some wR) ∧ (wR.decided = some (1, 2, 0)) ∧ (wR.cands[1]? = some input30) ∧ (stW.journal.newChain = false)
      ∧ (stW.journal.open_.length < 64))
    ∧ ((8 < 144) ∧ ((input20.dest 8).lane = true)) :=
  ⟨⟨by decide +kernel, by decide +kernel, by decide +kernel, by decide +kernel, by decide +kernel⟩,
    ⟨by decide +kernel, by decide +kernel⟩⟩

/-- Inputs of `Obligations.TimingGroupsStartAndCountFrames` (dusk line is passed). -/
theorem witness_DuskLineIsPassed :
    (0 < 8) ∧ ((stR.tg 0).enabled = true) ∧ ((stR.tg 0).starting = false) :=
  ⟨by decide +kernel, by decide +kernel, by decide +kernel⟩

/-- Inputs of `Obligations.WatchRulesDecideAndSwitch` (watch rules fail over in order). -/
theorem witness_WatchRulesFailOverInOrder :
    ((input25.length ≤ 4) ∧ ((List.find? (fun (c : Watched) => c.source == 9) input25).bind (activeCondition input24) = some input26)
      ∧ (input25[1]? = some wGood) ∧ (wGood.source ≠ 9 ∧ 0 < wGood.healthy)
      ∧ (∀ (j : Nat) (d : Watched), j < 1 → input25[j]? = some d → ¬(d.source ≠ 9 ∧ 0 < d.healthy)))
    ∧ ((input27.length ≤ 4) ∧ ((List.find? (fun (c : Watched) => c.source == 9) input27).bind (activeCondition input24) = some input26)
      ∧ (∀ (c : Watched), c ∈ input27 → ¬(c.source ≠ 9 ∧ 0 < c.healthy)))
    ∧ ((input28.length ≤ 4) ∧ ((List.find? (fun (c : Watched) => c.source == 10) input28).bind (activeCondition input24) = none)
      ∧ (ruleReturn input24 = true ∧ ∃ (c : Watched), input28[0]? = some c ∧ c.source ≠ 10 ∧ ruleReturnHold input24 ≤ c.healthy))
    ∧ ((input29.length ≤ 4) ∧ ((List.find? (fun (c : Watched) => c.source == 10) input29).bind (activeCondition input24) = none)
      ∧ (¬(ruleReturn input24 = true ∧ ∃ (c : Watched), input29[0]? = some c ∧ c.source ≠ 10 ∧ ruleReturnHold input24 ≤ c.healthy))) :=
  ⟨⟨by decide +kernel, by decide +kernel, by decide +kernel, by decide +kernel,
    by intro j d hj h; replace h : (input25.take 1)[j]? = some d := (by rw [List.getElem?_take, if_pos hj]; exact h); replace h := List.mem_of_getElem? h; clear hj; revert d; decide +kernel⟩,
    ⟨by decide +kernel, by decide +kernel, by decide +kernel⟩,
    ⟨by decide +kernel, by decide +kernel, by decide +kernel⟩,
    ⟨by decide +kernel, by decide +kernel, by decide +kernel⟩⟩

end Routes

namespace Pipes

def pc (n en g ras rate mode : Nat) : Bytes := le 2 n ++ bytes [en, g, ras, rate, 0, 0] ++ zeros 16 ++ bytes [0,0,0,0,0,0,mode,0] ++ zeros 16
def stG : State := [1,2,3,4,5].foldl (fun s k => if k = 3 then s.setPipe 4 { s.pipe 4 with gang := 2 } else s) served
def lut (n : Nat) := dmaReq (le 2 n ++ bytes [2,0,0,0,0,0]) (zeros 32)
def stNc : State := { served with health := { served.health with fences := (List.range 8).map fun i => { cls := 5, idx := i, cause := 2 } } }
def input0 : Request := req (pc 3 1 0 4 6 0)
def input1 : Request := req (pc 3 0 1 4 6 0)
def input2 : Request := req (pc 3 1 0 4 6 2)
def input3 : Request := req (le 2 4 ++ bytes [4,0,0,0,0,0])
def input5 : State := stG.setPipe 6 { stG.pipe 6 with cfg := pc 6 1 0 4 6 0 }
def input6 : Request := lut 3
def input7 : State := served.setPipe 3 { served.pipe 3 with cfg := pc 3 0 1 4 6 0 } -- extra

/-- Inputs of `Obligations.PipesAreConfiguredGangedAndLoaded`. -/
theorem witness_PipesAreConfiguredGangedAndLoaded :
    ((pipeConfigure.executes input0 served = true) ∧ ((pipeConfigure.taken input0 served).gangDown (u16 input0.payload 0) = false)
      ∧ ((pipeConfigure.taken input0 served).gangTested (u16 input0.payload 0) = false)
      ∧ (u8 input0.payload 2 = 1 → pipeCharge (u8 input0.payload 4) (u8 input0.payload 5) (served.tg (u8 input0.payload 3)).raster (served.tg (u8 input0.payload 3)).rate ≤ 16 * (served.pipe (u16 input0.payload 0)).gang)
      ∧ ((served.tg (if u8 input0.payload 2 = 0
      ∧ (served.pipe (u16 input0.payload 0)).enabled = true then (served.pipe (u16 input0.payload 0)).tg else u8 input0.payload 3)).enabled = true
      ∧ ((u8 input0.payload 2 == 1 && u8 input0.payload 30 == 2) = true → (if (u8 input0.payload 2 == 1 && u8 input0.payload 30 == 2) = true then (pipeConfigure.taken input0 served).motionCore (u16 input0.payload 0) input0.payload ((pipeConfigure.taken input0 served).effectDt (pipeConfigure.placed input0 served (if reconfigures (served.pipe (u16 input0.payload 0)).cfg input0.payload = true then Point.frameStart else Point.firstActive) (if u8 input0.payload 2 = 0
      ∧ (served.pipe (u16 input0.payload 0)).enabled = true then (served.pipe (u16 input0.payload 0)).tg else u8 input0.payload 3)).effect) else none).isSome = true) ∧ pipeConfigure.mayWait input0 served (if reconfigures (served.pipe (u16 input0.payload 0)).cfg input0.payload = true then Point.frameStart else Point.firstActive) (if u8 input0.payload 2 = 0
      ∧ (served.pipe (u16 input0.payload 0)).enabled = true then (served.pipe (u16 input0.payload 0)).tg else u8 input0.payload 3)
      ∧ (pipeConfigure.taken input0 served).fits ((pipeConfigure.taken input0 served).pipeCharges (u16 input0.payload 0) input0.payload (if (u8 input0.payload 2 == 1 && u8 input0.payload 30 == 2) = true then (pipeConfigure.taken input0 served).motionCore (u16 input0.payload 0) input0.payload ((pipeConfigure.taken input0 served).effectDt (pipeConfigure.placed input0 served (if reconfigures (served.pipe (u16 input0.payload 0)).cfg input0.payload = true then Point.frameStart else Point.firstActive) (if u8 input0.payload 2 = 0
      ∧ (served.pipe (u16 input0.payload 0)).enabled = true then (served.pipe (u16 input0.payload 0)).tg else u8 input0.payload 3)).effect) else none)) (pipeConfigure.placed input0 served (if reconfigures (served.pipe (u16 input0.payload 0)).cfg input0.payload = true then Point.frameStart else Point.firstActive) (if u8 input0.payload 2 = 0
      ∧ (served.pipe (u16 input0.payload 0)).enabled = true then (served.pipe (u16 input0.payload 0)).tg else u8 input0.payload 3)).effect = true))
    ∧ ((pipeConfigure.executes input1 served = true) ∧ ((pipeConfigure.taken input1 served).gangDown (u16 input1.payload 0) = false)
      ∧ ((pipeConfigure.taken input1 served).gangTested (u16 input1.payload 0) = false)
      ∧ (u8 input1.payload 2 = 1 → pipeCharge (u8 input1.payload 4) (u8 input1.payload 5) (served.tg (u8 input1.payload 3)).raster (served.tg (u8 input1.payload 3)).rate ≤ 16 * (served.pipe (u16 input1.payload 0)).gang)
      ∧ ((served.tg (if u8 input1.payload 2 = 0
      ∧ (served.pipe (u16 input1.payload 0)).enabled = true then (served.pipe (u16 input1.payload 0)).tg else u8 input1.payload 3)).enabled = false))
    ∧ ((pipeConfigure.executes input2 stNc = true) ∧ ((pipeConfigure.taken input2 stNc).gangDown (u16 input2.payload 0) = false)
      ∧ ((pipeConfigure.taken input2 stNc).gangTested (u16 input2.payload 0) = false)
      ∧ (u8 input2.payload 2 = 1 → pipeCharge (u8 input2.payload 4) (u8 input2.payload 5) (stNc.tg (u8 input2.payload 3)).raster (stNc.tg (u8 input2.payload 3)).rate ≤ 16 * (stNc.pipe (u16 input2.payload 0)).gang)
      ∧ ((stNc.tg (if u8 input2.payload 2 = 0
      ∧ (stNc.pipe (u16 input2.payload 0)).enabled = true then (stNc.pipe (u16 input2.payload 0)).tg else u8 input2.payload 3)).enabled = true
      ∧ (u8 input2.payload 2 == 1 && u8 input2.payload 30 == 2) = true
      ∧ (if (u8 input2.payload 2 == 1 && u8 input2.payload 30 == 2) = true then (pipeConfigure.taken input2 stNc).motionCore (u16 input2.payload 0) input2.payload ((pipeConfigure.taken input2 stNc).effectDt (pipeConfigure.placed input2 stNc (if reconfigures (stNc.pipe (u16 input2.payload 0)).cfg input2.payload = true then Point.frameStart else Point.firstActive) (if u8 input2.payload 2 = 0
      ∧ (stNc.pipe (u16 input2.payload 0)).enabled = true then (stNc.pipe (u16 input2.payload 0)).tg else u8 input2.payload 3)).effect) else none) = none))
    ∧ ((pipeLutLoad.executes input6 served = true) ∧ ((pipeLutLoad.taken input6 served).gangDown (u16 (pipeLutLoad.work input6 served).args 0) = false)
      ∧ ((served.tg (served.pipe (u16 (pipeLutLoad.work input6 served).args 0)).tg).enabled = true ∧ pipeLutLoad.mayWait input6 served Point.firstActive (served.pipe (u16 (pipeLutLoad.work input6 served).args 0)).tg))
    ∧ ((pipeLutLoad.executes input6 input7 = true) ∧ ((pipeLutLoad.taken input6 input7).gangDown (u16 (pipeLutLoad.work input6 input7).args 0) = false)
      ∧ ((input7.tg (input7.pipe (u16 (pipeLutLoad.work input6 input7).args 0)).tg).enabled = false))
    ∧ ((pipeGang.executes input3 stG = true)
      ∧ ((∀ (i : Nat), i < max (u8 input3.payload 2) (stG.pipe (u16 input3.payload 0)).gang → (pipeGang.taken input3 stG).pipeDown (u16 input3.payload 0 + i) = false) ∧ ∀ (i : Nat), i < max (u8 input3.payload 2) (stG.pipe (u16 input3.payload 0)).gang → (stG.pipe (stG.gangHead (u16 input3.payload 0 + i))).enabled = false))
    ∧ ((pipeGang.executes input3 input5 = true)
      ∧ ((∀ (i : Nat), i < max (u8 input3.payload 2) (input5.pipe (u16 input3.payload 0)).gang → (pipeGang.taken input3 input5).pipeDown (u16 input3.payload 0 + i) = false) ∧ ∃ (i : Nat), i < max (u8 input3.payload 2) (input5.pipe (u16 input3.payload 0)).gang
      ∧ (input5.pipe (input5.gangHead (u16 input3.payload 0 + i))).enabled = true)) :=
  ⟨⟨by decide +kernel, by decide +kernel, by decide +kernel, by decide +kernel, by unfold Cmd.mayWait; decide +kernel⟩,
    ⟨by decide +kernel, by decide +kernel, by decide +kernel, by decide +kernel, by decide +kernel⟩,
    ⟨by decide +kernel, by decide +kernel, by decide +kernel, by decide +kernel, by decide +kernel⟩,
    ⟨by decide +kernel, by decide +kernel, by unfold Cmd.mayWait; decide +kernel⟩,
    ⟨by decide +kernel, by decide +kernel, by decide +kernel⟩,
    ⟨by decide +kernel, by decide +kernel⟩,
    ⟨by decide +kernel, by decide +kernel⟩⟩

end Pipes

namespace Canvas

def al (w h f l v : Nat) := req (le 2 w ++ le 2 h ++ bytes [f, l, v, 0] ++ zeros 8)
def x1 : Surface := { addr := 65536, size := 8192, stride := 256, width := 64, height := 32, format := 0, layout := 0 }
def s1 : State := { served.setSurface 1 x1 with pictures := { (served.setSurface 1 x1).pictures with nextHandle := 2 } }
def h1 := 1
def rel := { req (le 4 h1 ++ zeros 4) with token := 5 }
def ss (st : SurfState) := s1.setSurface h1 { x1 with state := st }
def s2 := after (execSurfaceRelease rel (ss .active)) s1
def wr := { dmaReq (le 4 h1 ++ le 8 128 ++ zeros 4) (bytes [1,0,3,4]) with token := 5 }
def cc (en g : Nat) : Bytes := le 2 1 ++ bytes [en, g, 0, 0] ++ zeros 6 ++ bytes [0xFF] ++ zeros 11
def rec0 (l : Nat) : Bytes := bytes [l] ++ zeros 63
def lc := req (le 2 1 ++ bytes [1] ++ zeros 5 ++ rec0 2)
def stC := served.setCanvas 1 { served.canvas 1 with cfg := cc 1 0 }
def lcB := req (le 2 1 ++ bytes [2] ++ zeros 5 ++ rec0 2 ++ (rec0 5).set 1 77)
def clg (en : Nat) := req (le 2 1 ++ bytes [1, 0] ++ le 4 6 ++ (le 2 8 ++ bytes [en, 0]) ++ zeros 60)
def stK := (served.setQuad 2 { served.quad 2 with protocol := 1, mode := 1 }).setCanvas 1 { served.canvas 1 with cfg := cc 1 0 }
def stK1 := stK.setLane 8 { stK.lane 8 with state := .up, txEn := true, txIface := 3 }
def fb (k : Nat) := req (le 2 1 ++ le 2 k ++ zeros 4)
def wst (h : Nat) : State := stC.setLayer 1 2 { cfg := some [1], waiting := some { rec_ := rec0 2, held := h, jsn := 4 }, held := 3, expired := 7 }
def j2 : Job := match s2.ccp.jobs with | j :: _ => j | [] => (surfaceRelease.work rel served).job 1 []
def x2 : Surface := match s2.surface h1 with | some x => x | none => x1
def recF : Bytes := bytes [5, 1, 0, 1] ++ le 4 1 ++ (le 2 0 ++ le 2 0 ++ le 2 64 ++ le 2 32) ++ (le 2 0 ++ le 2 0 ++ le 2 64 ++ le 2 32) ++ le 2 1023 ++ zeros 38
def stFl : State := (stC.setSurface 1 { x1 with ready := true }).setCanvas 1 { stC.canvas 1 with cfg := cc 1 0, budget := 0 }
def lcF := req (le 2 1 ++ bytes [1] ++ zeros 5 ++ recF)
def stFk : State := stFl.setLayer 1 2 { stFl.canvas 1 |>.layer 2 with cfg := some recF }
def stKd : State := ((stK1.setCanvas 1 { served.canvas 1 with cfg := cc 0 1 }).setDest 8 { stK1.dest 8 with tg := 1 }).setTg 1 { stK1.tg 1 with raster := 4, rate := 6 }
def input0 : Request := al 64 32 0 0 0
def input1 : State := { served with pictures := { served.pictures with surfaces := List.replicate 4096 (5, x1) } }
def input2 : Request := al 64 32 0 2 3
def input3 : Surface := { x1 with state := SurfState.afterglow }
def input4 : State := ss .afterglow
def input5 : Surface := { x1 with state := SurfState.active }
def input6 : State := ss .active
def input7 : Request := req (cc 1 0)
def input8 : Request := req (cc 0 1)
def input9 : State := served.setCanvas 1 { served.canvas 1 with cfg := cc 1 0 }
def input10 : State := served.setCanvas 1 { served.canvas 1 with cfg := cc 0 1 }
def input11 : Request := clg 1
def input13 : Request := fb 64
def input14 : Waiting := { rec_ := rec0 2, held := 64, jsn := 4 }
def input15 : State := wst 64
def input16 : Waiting := { rec_ := rec0 2, held := 63, jsn := 4 }
def input17 : State := wst 63
def input18 : State := stC.setCanvas 1 { stC.canvas 1 with flat := .building, budget := 3 }
def input19 : State := { stK1 with pictures := { stK1.pictures with mirrors := tabPut [] 8 { stK1.mirror 8 with bad := true, clean := 60 } } }
def input21 : Request := fb 0

/-- Inputs of `Obligations.SurfacesLiveAndDie` (surfaces are allocated apart). -/
theorem witness_SurfacesAreAllocatedApart :
    ((surfaceAllocate.executes input0 input1 = true) ∧ ((u8 input0.payload 5 = 2 → u8 input0.payload 6 = 1) ∧ 4096 ≤ List.length input1.pictures.surfaces))
    ∧ ((surfaceAllocate.executes input2 served = true) ∧ (u8 input2.payload 5 = 2 ∧ u8 input2.payload 6 ≠ 1)) :=
  ⟨⟨by decide +kernel, by decide +kernel⟩,
    ⟨by decide +kernel, by decide +kernel⟩⟩

/-- Inputs of `Obligations.SurfacesLiveAndDie` (surfaces are freed after their last use). -/
theorem witness_SurfacesAreFreedAfterTheirLastUse :
    ((s2.surface h1 = some x2) ∧ (s2.surfaceNamed h1 = false) ∧ (s2.surfaceRead h1 = false) ∧ (x2.state = SurfState.afterglow)
      ∧ (List.find? (fun (k : Job) => some k.jsn == x2.releaseJsn) s2.ccp.jobs = some j2))
    ∧ ((input4.surface h1 = some input3) ∧ (input4.surfaceNamed h1 = false) ∧ (input4.surfaceRead h1 = false) ∧ (input3.state = SurfState.afterglow)
      ∧ (List.find? (fun (k : Job) => some k.jsn == input3.releaseJsn) input4.ccp.jobs = none))
    ∧ ((input6.surface h1 = some input5) ∧ (input6.surfaceNamed h1 = false) ∧ (input6.surfaceRead h1 = false) ∧ (input5.state = SurfState.active))
    ∧ ((surfaceRelease.executes rel s1 = true) ∧ (s1.surface (u32 rel.payload 0) = some x1) ∧ (x1.state = SurfState.idle))
    ∧ ((surfaceRelease.executes rel input4 = true) ∧ (input4.surface (u32 rel.payload 0) = some input3) ∧ (input3.state = SurfState.afterglow))
    ∧ ((surfaceRelease.executes rel input6 = true) ∧ (input6.surface (u32 rel.payload 0) = some input5) ∧ (input5.state = SurfState.active)) :=
  ⟨⟨by decide +kernel, by decide +kernel, by decide +kernel, by decide +kernel, by decide +kernel⟩,
    ⟨by decide +kernel, by decide +kernel, by decide +kernel, by decide +kernel, by decide +kernel⟩,
    ⟨by decide +kernel, by decide +kernel, by decide +kernel, by decide +kernel⟩,
    ⟨by decide +kernel, by decide +kernel, by decide +kernel⟩,
    ⟨by decide +kernel, by decide +kernel, by decide +kernel⟩,
    ⟨by decide +kernel, by decide +kernel, by decide +kernel⟩⟩

/-- Inputs of `Obligations.SurfacesLiveAndDie` (surfaces are written byte for byte). -/
theorem witness_SurfacesAreWrittenByteForByte :
    ((surfaceWrite.executes wr s1 = true) ∧ (s1.memory.wf = true) ∧ (s1.surface (u32 (surfaceWrite.work wr s1).args 0) = some x1)
      ∧ (x1.state = SurfState.idle))
    ∧ ((surfaceWrite.executes wr input6 = true) ∧ (input6.memory.wf = true) ∧ (input6.surface (u32 (surfaceWrite.work wr input6).args 0) = some input5)
      ∧ (input5.state ≠ SurfState.idle))
    ∧ ((surfaceReady.executes rel s1 = true) ∧ (s1.surface (u32 rel.payload 0) = some x1)) :=
  ⟨⟨by decide +kernel, by decide +kernel, by decide +kernel, by decide +kernel⟩,
    ⟨by decide +kernel, by decide +kernel, by decide +kernel, by decide +kernel⟩,
    ⟨by decide +kernel, by decide +kernel⟩⟩

/-- Inputs of `Obligations.CanvasesAndLayersWaitForTheFirstActiveLine`. -/
theorem witness_CanvasesAndLayersWaitForTheFirstActiveLine :
    ((canvasConfigure.executes input7 served = true) ∧ ((canvasConfigure.taken input7 served).canvasRefusal (u16 input7.payload 0) = none)
      ∧ (u8 input7.payload 3 = (served.canvas (u16 input7.payload 0)).tg ∧ (canvasConfigure.taken input7 served).fitsNow [] = true
      ∧ (served.tg (u8 input7.payload 3)).enabled = true ∧ canvasConfigure.mayWait input7 served Point.firstActive (u8 input7.payload 3)
      ∧ (canvasConfigure.taken input7 served).fits (List.map (fun (y : Nat × Nat) => { pool := 2, item := y.fst, amount := y.snd }) ((canvasConfigure.taken input7 served).canvasItems (u16 input7.payload 0) (u8 input7.payload 2 == 1) ((canvasConfigure.taken input7 served).groupFormat (u8 input7.payload 3)) ((canvasConfigure.taken input7 served).recordsAt (u16 input7.payload 0) (canvasConfigure.placed input7 served Point.firstActive (u8 input7.payload 3)).effect))) (canvasConfigure.placed input7 served Point.firstActive (u8 input7.payload 3)).effect = true))
    ∧ ((canvasConfigure.executes input8 input9 = true) ∧ ((canvasConfigure.taken input8 input9).canvasRefusal (u16 input8.payload 0) = none)
      ∧ (u8 input8.payload 3 ≠ (input9.canvas (u16 input8.payload 0)).tg ∧ (input9.canvas (u16 input8.payload 0)).enabled = true))
    ∧ ((canvasConfigure.executes input8 input10 = true) ∧ ((canvasConfigure.taken input8 input10).canvasRefusal (u16 input8.payload 0) = none)
      ∧ (u8 input8.payload 3 = (input10.canvas (u16 input8.payload 0)).tg ∧ (canvasConfigure.taken input8 input10).fitsNow [] = true
      ∧ (input10.tg (u8 input8.payload 3)).enabled = false))
    ∧ ((layerCommit.executes lc stC = true) ∧ ((layerCommit.taken lc stC).canvasRefusal (u16 lc.payload 0) = none)
      ∧ ((layerCommit.taken lc stC).commitRefusal (u16 lc.payload 0) (List.foldl putRecord ((layerCommit.taken lc stC).recordsAt (u16 lc.payload 0) (layerCommit.placed lc stC Point.firstActive (stC.canvas (u16 lc.payload 0)).tg).effect) (commitRecords lc.payload)) (commitRecords lc.payload) = none
      ∧ (layerCommit.taken lc stC).flatBytes (u16 lc.payload 0) (List.foldl putRecord ((layerCommit.taken lc stC).recordsAt (u16 lc.payload 0) (layerCommit.placed lc stC Point.firstActive (stC.canvas (u16 lc.payload 0)).tg).effect) (commitRecords lc.payload)) ≤ (stC.canvas (u16 lc.payload 0)).budget * 65536
      ∧ (stC.tg (stC.canvas (u16 lc.payload 0)).tg).enabled = true ∧ layerCommit.mayWait lc stC Point.firstActive (stC.canvas (u16 lc.payload 0)).tg
      ∧ (layerCommit.taken lc stC).fits ((layerCommit.taken lc stC).commitCharges (u16 lc.payload 0) (layerCommit.placed lc stC Point.firstActive (stC.canvas (u16 lc.payload 0)).tg).effect (commitRecords lc.payload)) (layerCommit.placed lc stC Point.firstActive (stC.canvas (u16 lc.payload 0)).tg).effect = true))
    ∧ ((layerCommit.executes lcB stC = true) ∧ ((layerCommit.taken lcB stC).canvasRefusal (u16 lcB.payload 0) = none)
      ∧ ((layerCommit.taken lcB stC).commitRefusal (u16 lcB.payload 0) (List.foldl putRecord ((layerCommit.taken lcB stC).recordsAt (u16 lcB.payload 0) (layerCommit.placed lcB stC Point.firstActive (stC.canvas (u16 lcB.payload 0)).tg).effect) (commitRecords lcB.payload)) (commitRecords lcB.payload) = some (1, stBadArgument)))
    ∧ ((layerCommit.executes lcF stFl = true) ∧ ((layerCommit.taken lcF stFl).canvasRefusal (u16 lcF.payload 0) = none)
      ∧ ((layerCommit.taken lcF stFl).commitRefusal (u16 lcF.payload 0) (List.foldl putRecord ((layerCommit.taken lcF stFl).recordsAt (u16 lcF.payload 0) (layerCommit.placed lcF stFl Point.firstActive (stFl.canvas (u16 lcF.payload 0)).tg).effect) (commitRecords lcF.payload)) (commitRecords lcF.payload) = none
      ∧ (stFl.canvas (u16 lcF.payload 0)).budget * 65536 < (layerCommit.taken lcF stFl).flatBytes (u16 lcF.payload 0) (List.foldl putRecord ((layerCommit.taken lcF stFl).recordsAt (u16 lcF.payload 0) (layerCommit.placed lcF stFl Point.firstActive (stFl.canvas (u16 lcF.payload 0)).tg).effect) (commitRecords lcF.payload)))) :=
  ⟨⟨by decide +kernel, by decide +kernel, by unfold Cmd.mayWait; decide +kernel⟩,
    ⟨by decide +kernel, by decide +kernel, by decide +kernel⟩,
    ⟨by decide +kernel, by decide +kernel, by decide +kernel⟩,
    ⟨by decide +kernel, by decide +kernel, by unfold Cmd.mayWait; decide +kernel⟩,
    ⟨by decide +kernel, by decide +kernel, by decide +kernel⟩,
    ⟨by decide +kernel, by decide +kernel, by decide +kernel⟩⟩

/-- Inputs of `Obligations.ClonesBudgetsAndMirrors` (clones budgets and waiting records). -/
theorem witness_ClonesBudgetsAndWaitingRecords :
    ((cloneGroupSet.executes input11 stK1 = true) ∧ ((cloneGroupSet.taken input11 stK1).canvasRefusal (u16 input11.payload 0) = none)
      ∧ (∀ (d : Nat), d ∈ List.map (fun (x : Nat × Bool) => x.fst) (cloneMembers input11.payload) → ((stK1.canvas (u16 input11.payload 0)).members.any fun (m : Nat × Bool × Bool) => m.fst == d) = false → (cloneGroupSet.taken input11 stK1).memberRefusal (u16 input11.payload 0) d = none)
      ∧ ((stK1.tg (stK1.canvas (u16 input11.payload 0)).tg).enabled = true ∧ cloneGroupSet.mayWait input11 stK1 Point.firstActive (stK1.canvas (u16 input11.payload 0)).tg))
    ∧ ((cloneGroupSet.executes input11 stKd = true) ∧ ((cloneGroupSet.taken input11 stKd).canvasRefusal (u16 input11.payload 0) = none)
      ∧ (∀ (d : Nat), d ∈ List.map (fun (x : Nat × Bool) => x.fst) (cloneMembers input11.payload) → ((stKd.canvas (u16 input11.payload 0)).members.any fun (m : Nat × Bool × Bool) => m.fst == d) = false → (cloneGroupSet.taken input11 stKd).memberRefusal (u16 input11.payload 0) d = none)
      ∧ ((stKd.tg (stKd.canvas (u16 input11.payload 0)).tg).enabled = false))
    ∧ ((flattenBudgetSet.executes input13 stC = true) ∧ ((flattenBudgetSet.taken input13 stC).canvasDown (u16 input13.payload 0) = false)
      ∧ ((flattenBudgetSet.taken input13 stC).fitsNow [{ pool := 113, item := u16 input13.payload 0, amount := u16 input13.payload 2 }] = true
      ∧ (flattenBudgetSet.taken input13 stC).flatBytes (u16 input13.payload 0) (stC.canvas (u16 input13.payload 0)).records ≤ u16 input13.payload 2 * 65536))
    ∧ ((flattenBudgetSet.executes input21 stFk = true) ∧ ((flattenBudgetSet.taken input21 stFk).canvasDown (u16 input21.payload 0) = false)
      ∧ (u16 input21.payload 2 * 65536 < (flattenBudgetSet.taken input21 stFk).flatBytes (u16 input21.payload 0) (stFk.canvas (u16 input21.payload 0)).records))
    ∧ ((((input15.canvas 1).layer 2).waiting = some input14) ∧ (64 ≤ input14.held))
    ∧ ((((input17.canvas 1).layer 2).waiting = some input16) ∧ (input16.held < 64))
    ∧ ((input18.canvas 1).flat = Flat.building) :=
  ⟨⟨by decide +kernel, by decide +kernel, by decide +kernel, by unfold Cmd.mayWait; decide +kernel⟩,
    ⟨by decide +kernel, by decide +kernel, by decide +kernel, by decide +kernel⟩,
    ⟨by decide +kernel, by decide +kernel, by decide +kernel⟩,
    ⟨by decide +kernel, by decide +kernel, by decide +kernel⟩,
    ⟨by decide +kernel, by decide +kernel⟩,
    ⟨by decide +kernel, by decide +kernel⟩,
    by decide +kernel⟩

/-- Inputs of `Obligations.ClonesBudgetsAndMirrors` (mirror clears and counts). -/
theorem witness_MirrorClearsAndCounts :
    ((8 < 144) ∧ (0 < 4) ∧ (stK1.outputSends 8 = true) ∧ (0 < (stK1.mirror 8).noSignal.length))
    ∧ (((input19.mirror 8).bad = true) ∧ (60 ≤ (input19.mirror 8).clean))
    ∧ ((stK1.mirror 8).clean < 60) :=
  ⟨⟨by decide +kernel, by decide +kernel, by decide +kernel, by decide +kernel⟩,
    ⟨by decide +kernel, by decide +kernel⟩,
    by decide +kernel⟩

/-- Inputs of `Obligations.SurfacesLiveAndDie` (an allocation that finds room, wherever the free value puts it). -/
theorem witness_SurfaceAllocation :
    (surfaceAllocate.executes (al 64 32 0 0 0) served = true) ∧ ((0 : Nat) = 2 → (0 : Nat) = 1) ∧ (served.pictures.surfaces.length < 4096)
    ∧ ((served.surfaceAddr (surfaceSize 0 0 64 32 0)).isSome = true) ∧ (served.memory.wf = true) :=
  ⟨by decide +kernel, by decide +kernel, by decide +kernel, by
    unfold State.surfaceAddr
    dsimp only
    split
    · rfl
    · decide +kernel, by decide +kernel⟩

end Canvas

namespace Panel

def pcf (en te w : Nat) : Bytes := bytes [0, en, 0, 1] ++ le 2 w ++ le 2 480 ++ le 2 1000 ++ bytes [4, te] ++ le 2 6000 ++ le 2 5 ++ bytes [4, 0, 0] ++ zeros 5
def s1 := after (own panelConfigure (req (pcf 1 0 640)) served) served
def sfc : Surface := { addr := 0, size := 65536, stride := 4096, width := 64, height := 16, format := 0, layout := 0, state := .afterglow }
def ctS := { req (bytes [0, 1] ++ zeros 22 ++ le 4 77 ++ zeros 28) with token := 4}
def pn : Panel := { s1.panel 0 with state := .active, script := [], filled := true, dirty := [1, 2, 5], pushing := [], tePeriod := 3 }
def dl (sc : List (Nat × Bytes)) (cl : Bool) := s1.setPanel 0 { pn with script := sc, closing := cl, filled := false, dirty := [] }
def input0 : Request := req (pcf 1 0 640)
def input1 : Request := { req (pcf 0 0 640) with token := 3 }
def input2 : Request := { req (pcf 1 0 320) with token := 3 }
def input3 : Request := req (bytes [0, 1] ++ le 2 6 ++ zeros 4 ++ (bytes [0x15, 1] ++ le 2 9 ++ bytes [1,2] ++ zeros 2))
def input4 : Request := { req (bytes [0, 1] ++ zeros 54) with token := 4}
def input5 : State := s1.setPanel 0 { s1.panel 0 with cfg := pcf 1 0 640 |>.set 2 3 }
def input6 : State := s1.setSurface 77 sfc -- pushes
def input7 : State := s1.setPanel 0 pn
def input8 : State := s1.setPanel 0 { pn with cfg := pcf 1 1 640 }
def input10 : State := s1.setPanel 0 { pn with pushing := pn.regions, pushTiles := [1, 2] }
def input11 : State := s1.setPanel 0 { pn with still := 5 }
def input12 : State := s1.setPanel 0 { pn with state := .stretched, still := 6 }
def input13 : State := dl [(3, [0x29])] false
def input14 : Bytes := [0x29]
def input15 : List (Nat × Bytes) := []
def input16 : State := dl [(3, [0x11])] true
def input17 : Bytes := [0x11]

/-- Inputs of `Obligations.PanelsAreConfiguredAndPush` (panels are configured). -/
theorem witness_PanelsAreConfigured :
    ((panelContentSet.executes input4 s1 = true)
      ∧ (∀ (y : Surface), (y ∈ if u8 input4.payload 1 = 1 then List.filterMap s1.surface (contentHandles input4.payload) else []) → y.format ≤ 1 ∧ y.state ≠ SurfState.afterglow)
      ∧ ((s1.tg (s1.panel (u8 input4.payload 0)).tg).enabled = true ∧ panelContentSet.mayWait input4 s1 Point.firstActive (s1.panel (u8 input4.payload 0)).tg))
    ∧ ((panelContentSet.executes input4 input5 = true)
      ∧ (∀ (y : Surface), (y ∈ if u8 input4.payload 1 = 1 then List.filterMap input5.surface (contentHandles input4.payload) else []) → y.format ≤ 1 ∧ y.state ≠ SurfState.afterglow)
      ∧ ((input5.tg (input5.panel (u8 input4.payload 0)).tg).enabled = false))
    ∧ ((panelConfigure.executes input0 served = true) ∧ ((served.panel (u8 input0.payload 0)).enabled = false ∧ u8 input0.payload 1 = 1
      ∧ (panelConfigure.taken input0 served).fitsNow (((panelConfigure.taken input0 served).setPanel (u8 input0.payload 0) { cfg := input0.payload, seqs := (served.panel (u8 input0.payload 0)).seqs, content := (served.panel (u8 input0.payload 0)).content, state := (served.panel (u8 input0.payload 0)).state, resetHigh := (served.panel (u8 input0.payload 0)).resetHigh, script := (served.panel (u8 input0.payload 0)).script, sent := (served.panel (u8 input0.payload 0)).sent, closing := (served.panel (u8 input0.payload 0)).closing, dirty := (served.panel (u8 input0.payload 0)).dirty, filled := (served.panel (u8 input0.payload 0)).filled, pushing := (served.panel (u8 input0.payload 0)).pushing, pushTiles := (served.panel (u8 input0.payload 0)).pushTiles, still := (served.panel (u8 input0.payload 0)).still, skip := (served.panel (u8 input0.payload 0)).skip, oweActive := (served.panel (u8 input0.payload 0)).oweActive, teLost := (served.panel (u8 input0.payload 0)).teLost, teGood := (served.panel (u8 input0.payload 0)).teGood, teLast := (served.panel (u8 input0.payload 0)).teLast, tePeriod := (served.panel (u8 input0.payload 0)).tePeriod, fills := (served.panel (u8 input0.payload 0)).fills, pushes := (served.panel (u8 input0.payload 0)).pushes, tiles := (served.panel (u8 input0.payload 0)).tiles, skipped := (served.panel (u8 input0.payload 0)).skipped, teLosses := (served.panel (u8 input0.payload 0)).teLosses }).unitCharges [20480 + u8 input0.payload 0] (57344 + u8 input0.payload 0)) = true))
    ∧ ((panelConfigure.executes input1 s1 = true) ∧ ((s1.panel (u8 input1.payload 0)).enabled = true ∧ u8 input1.payload 1 = 0
      ∧ (panelConfigure.taken input1 s1).fitsNow (((panelConfigure.taken input1 s1).setPanel (u8 input1.payload 0) { cfg := input1.payload, seqs := (s1.panel (u8 input1.payload 0)).seqs, content := (s1.panel (u8 input1.payload 0)).content, state := (s1.panel (u8 input1.payload 0)).state, resetHigh := (s1.panel (u8 input1.payload 0)).resetHigh, script := (s1.panel (u8 input1.payload 0)).script, sent := (s1.panel (u8 input1.payload 0)).sent, closing := (s1.panel (u8 input1.payload 0)).closing, dirty := (s1.panel (u8 input1.payload 0)).dirty, filled := (s1.panel (u8 input1.payload 0)).filled, pushing := (s1.panel (u8 input1.payload 0)).pushing, pushTiles := (s1.panel (u8 input1.payload 0)).pushTiles, still := (s1.panel (u8 input1.payload 0)).still, skip := (s1.panel (u8 input1.payload 0)).skip, oweActive := (s1.panel (u8 input1.payload 0)).oweActive, teLost := (s1.panel (u8 input1.payload 0)).teLost, teGood := (s1.panel (u8 input1.payload 0)).teGood, teLast := (s1.panel (u8 input1.payload 0)).teLast, tePeriod := (s1.panel (u8 input1.payload 0)).tePeriod, fills := (s1.panel (u8 input1.payload 0)).fills, pushes := (s1.panel (u8 input1.payload 0)).pushes, tiles := (s1.panel (u8 input1.payload 0)).tiles, skipped := (s1.panel (u8 input1.payload 0)).skipped, teLosses := (s1.panel (u8 input1.payload 0)).teLosses }).unitCharges [20480 + u8 input1.payload 0] (57344 + u8 input1.payload 0)) = true))
    ∧ ((panelConfigure.executes input2 s1 = true)
      ∧ ((s1.panel (u8 input2.payload 0)).enabled = true ∧ u8 input2.payload 1 = 1 ∧ panelFixed (s1.panel (u8 input2.payload 0)).cfg input2.payload = false))
    ∧ ((panelContentSet.executes ctS input6 = true)
      ∧ ((∀ (y : Surface), (y ∈ if u8 ctS.payload 1 = 1 then List.filterMap input6.surface (contentHandles ctS.payload) else []) → y.format ≤ 1) ∧ ∃ (y : Surface), (y ∈ if u8 ctS.payload 1 = 1 then List.filterMap input6.surface (contentHandles ctS.payload) else []) ∧ y.state = SurfState.afterglow))
    ∧ (panelSequenceSet.executes input3 served = true) :=
  ⟨⟨by decide +kernel, by decide +kernel, by unfold Cmd.mayWait; decide +kernel⟩,
    ⟨by decide +kernel, by decide +kernel, by decide +kernel⟩,
    ⟨by decide +kernel, by decide +kernel⟩,
    ⟨by decide +kernel, by decide +kernel⟩,
    ⟨by decide +kernel, by decide +kernel⟩,
    ⟨by decide +kernel, by decide +kernel⟩,
    by decide +kernel⟩

/-- Inputs of `Obligations.PanelsAreConfiguredAndPush` (panels push their dirty tiles). -/
theorem witness_PanelsPushTheirDirtyTiles :
    ((input7.halted = false) ∧ (((input7.panel 0).state ≠ PanelState.disabled ∧ (input7.panel 0).script = [] ∧ (input7.panel 0).filled = true
      ∧ (input7.panel 0).pushing = [] ∧ (input7.panel 0).dirty ≠ [] ∧ (input7.panel 0).oweActive = false) ∧ 0 ≤ 1 ∧ (input7.panel 0).teNone = false
      ∧ (input7.panel 0).teLost = false))
    ∧ ((input7.halted = false) ∧ ((input7.panel 0).teNone = false ∧ (input7.panel 0).teLost = false))
    ∧ ((input8.halted = false) ∧ (((input8.panel 0).state ≠ PanelState.disabled ∧ (input8.panel 0).script = [] ∧ (input8.panel 0).filled = true
      ∧ (input8.panel 0).pushing = [] ∧ (input8.panel 0).dirty ≠ [] ∧ (input8.panel 0).oweActive = false)
      ∧ ((input8.panel 0).teNone = true ∨ (input8.panel 0).teLost = true)))
    ∧ (((input13.panel 0).script = (3, input14) :: input15) ∧ ((input13.panel 0).closing = false))
    ∧ (((input16.panel 0).script = (3, input17) :: input15) ∧ ((input16.panel 0).closing = true))
    ∧ ((input10.panel 0).pushing ≠ [])
    ∧ (((input11.panel 0).state = PanelState.active ∧ (input11.panel 0).script = [] ∧ (input11.panel 0).staticFrames ≤ (input11.panel 0).still))
    ∧ (((input12.panel 0).state ≠ PanelState.disabled ∧ (input12.panel 0).teNone = false ∧ (input12.panel 0).teLost = false ∧ 0 ≤ 1)) :=
  ⟨⟨by decide +kernel, by decide +kernel⟩,
    ⟨by decide +kernel, by decide +kernel⟩,
    ⟨by decide +kernel, by decide +kernel⟩,
    ⟨by decide +kernel, by decide +kernel⟩,
    ⟨by decide +kernel, by decide +kernel⟩,
    by decide +kernel,
    by decide +kernel,
    by decide +kernel⟩

end Panel

namespace Encoding

def opb (codec prof chroma depth raster rate lat eff str irap refs : Nat) (kbps : Nat) : Bytes :=
  bytes [0,0,0,codec,prof,93,0,chroma,depth,raster,rate,lat,eff,str,irap,refs] ++ le 2 0 ++ le 2 0 ++ le 4 kbps ++ bytes [0,10,0,1,0,0,0,0] ++ zeros 16
def p0 : Bytes := opb 0 1 0 10 4 6 2 1 0 0 0 20000
def rOpen : Request := req p0
def st1 : State := after (own encodeChannelOpen rOpen served) served
def e1 : Enc := { ((st1.enc 0).getD (newEnc [] [])) with begun := true }
def st1b : State := st1.setEnc 0 e1
def rSet : Request := req (le 2 0 ++ bytes [30, 2] ++ le 4 10000 ++ le 2 60 ++ bytes [12] ++ zeros 13)
def e1i : Enc := { e1 with cfg := opb 0 1 0 10 4 6 2 1 0 1 0 20000 }
def st1i : State := st1.setEnc 0 e1i
def rClose : Request := req (zeros 8)
def rPk : Request := req (le 2 0 ++ le 2 1200 ++ zeros 28)
def rRing : Request := req (zeros 8 ++ le 8 4096 ++ le 4 65536 ++ zeros 4 ++ le 8 8 ++ le 8 16)
def pic0 : EncPic := { frame := 4, second := false, number := 0, type := 2, flags := 0, effort := 1, sweep := 0, target := 300000, start := 5, buffer := 0, dus := List.replicate e1.time.dus {}, refresh := false }
def st2 : State := st1b.setEnc 0 { e1 with pics := [pic0] }
def e2 : Enc := (st2.enc 0).getD (newEnc [] [])
def picOf (e : Enc) : EncPic := match e.pics with | p :: _ => p | [] => { frame := 0, second := false, number := 0, type := 0, flags := 0, effort := 0, sweep := 0, target := 0, start := 0, buffer := 0, dus := [], refresh := false }
def duOf (p : EncPic) (r : Nat) : Du := (p.dus[r]?).getD {}
def pic2 := picOf e2
def e2r : Enc := { e2 with ring := hostRing rRing.payload }
def st3 := encodeDuReady 0 0 0 st2
def e3 : Enc := (st3.enc 0).getD (newEnc [] [])
def du0 : Du := { duOf (picOf e3) 0 with bits := some 5000, ready := true, analysed := true }
def st4 : State := st3.setEnc 0 { e3 with fPrev := none, pics := [{ picOf e3 with dus := (picOf e3).dus.set 0 du0 }] }
def st5 := st4
def e5 : Enc := (st5.enc 0).getD (newEnc [] [])
def e1c : Enc := { e1 with closed := true }
def st1c : State := st1b.setEnc 0 e1c
def input1 : Enc := { e1 with closed := true }
def input2 : State := st1b.setEnc 0 { e1 with closed := true }
def input4 : Bytes := (zeros 8)
def input5 : Enc := { e2r with ring := { e2r.ring with prod := 65000 } }
def input6 : Du := duOf pic2 0
def input7 : Du := duOf pic2 1
def input8 : EncPic := picOf e3
def input9 : Du := duOf (picOf e3) 0
def input13 : Nat := ((duOf (picOf e5) 0).bits.getD 0)
def input14 : EncPic := picOf e5
def input15 : Du := duOf (picOf e5) 0
def input19 : Enc := { e2r with ring := {} }
def input20 : Enc := { e1 with pics := [{ pic0 with dus := pic0.dus.set 0 du0 }] }
def input21 : EncPic := { pic0 with dus := pic0.dus.set 0 du0 }

/-- Inputs of `Obligations.EncodeChannelsAreCommanded` (encode channels open set and close). -/
theorem witness_EncodeChannelsOpenSetAndClose :
    ((encodeChannelClose.executes rClose st1b = true) ∧ (st1b.enc (u16 rClose.payload 0) = some e1)
      ∧ (encodeChannelClose.mayWait rClose st1b Point.firstActive e1.tg)
      ∧ ((encodeChannelClose.taken rClose st1b).fits ({ pool := 105, item := u16 rClose.payload 0, amount := 0 } :: coreCharges (u16 rClose.payload 0) 0 [] e1.cores) (encodeChannelClose.placed rClose st1b Point.firstActive e1.tg).effect = true))
    ∧ ((encodeChannelSet.executes rSet st1i = true) ∧ (st1i.enc (u16 rSet.payload 0) = some e1i)
      ∧ (encodeChannelSet.mayWait rSet st1i Point.firstActive e1i.tg))
    ∧ ((input2.enc 0 = some input1) ∧ (input1.closed = true ∧ input1.pics = []))
    ∧ ((st1b.enc 0 = some e1) ∧ (e1.closed = false ∨ e1.pics ≠ [])) :=
  ⟨⟨by decide +kernel, by decide +kernel, by unfold Cmd.mayWait; decide +kernel, by decide +kernel⟩,
    ⟨by decide +kernel, by decide +kernel, by unfold Cmd.mayWait; decide +kernel⟩,
    ⟨by decide +kernel, by decide +kernel⟩,
    ⟨by decide +kernel, by decide +kernel⟩⟩

/-- Inputs of `Obligations.EncodeChannelsAreCommanded` (encode settings take effect). -/
theorem witness_EncodeSettingsTakeEffect :
    ((st1b.enc (u16 input4 0) = some e1) ∧ (e1.closed = false) ∧ (3 ≠ u16 input4 0))
    ∧ ((st1b.enc (u16 input4 0) = some e1) ∧ (5 ≠ 16384 + u16 input4 0))
    ∧ ((st1c.enc (u16 input4 0) = some e1c) ∧ (e1c.closed = true)) :=
  ⟨⟨by decide +kernel, by decide +kernel, by decide +kernel⟩,
    ⟨by decide +kernel, by decide +kernel⟩,
    ⟨by decide +kernel, by decide +kernel⟩⟩

/-- Inputs of `Obligations.EncodeChannelsAreCommanded` (encode streams are directed). -/
theorem witness_EncodeStreamsAreDirected :
    ((packetiserSet.executes rPk st1b = true) ∧ (st1b.enc (u16 rPk.payload 0) = some e1))
    ∧ ((encodeHostRingSet.executes rRing st1b = true) ∧ (st1b.enc (u16 rRing.payload 0) = some e1))
   
      ∧ ((e2r.ring.base ≠ 0 ∧ e2r.omitting = false ∧ e2r.ring.prod - e2r.ring.cons ≤ e2r.ring.size ∧ roundUp (32 + 500) 64 ≤ e2r.ring.size - (e2r.ring.prod - e2r.ring.cons)))
   
      ∧ ((input5.ring.base ≠ 0 ∧ input5.ring.size - (input5.ring.prod - input5.ring.cons) < roundUp (32 + 5000) 64 ∧ input5.ring.size < roundUp (32 + 5000) 64 + (input5.ring.prod - 0)))
    ∧ (input19.ring.base = 0) :=
  ⟨⟨by decide +kernel, by decide +kernel⟩,
    ⟨by decide +kernel, by decide +kernel⟩,
    by decide +kernel,
    by decide +kernel,
    by decide +kernel⟩

/-- Inputs of `Obligations.DecodingUnitsPassThroughTheEncoder` (decoding units are analysed). -/
theorem witness_DecodingUnitsAreAnalysed :
    ((st2.enc 0 = some e2) ∧ (List.find? (fun (q : EncPic) => q.number == 0) e2.pics = some pic2) ∧ (pic2.dus[0]? = some input6)
      ∧ (input6.analysed = false ∧ input6.ready = false ∧ 0 = 0))
    ∧ ((st2.enc 0 = some e2) ∧ (List.find? (fun (q : EncPic) => q.number == 0) e2.pics = some pic2) ∧ (pic2.dus[1]? = some input7)
      ∧ (input7.analysed = false ∧ input7.ready = false ∧ 1 ≠ 0))
    ∧ ((st3.enc 0 = some e3) ∧ (List.find? (fun (q : EncPic) => q.number == 0) e3.pics = some input8) ∧ (input8.dus[0]? = some input9)
      ∧ (input9.analysed = false ∧ input9.ready = true))
    ∧ ((st4.enc 0 = some input20) ∧ (List.find? (fun (q : EncPic) => q.number == 0) input20.pics = some input21) ∧ (input21.dus[0]? = some du0)
      ∧ (du0.analysed = true)) :=
  ⟨⟨by decide +kernel, by decide +kernel, by decide +kernel, by decide +kernel⟩,
    ⟨by decide +kernel, by decide +kernel, by decide +kernel, by decide +kernel⟩,
    ⟨by decide +kernel, by decide +kernel, by decide +kernel, by decide +kernel⟩,
    ⟨by decide +kernel, by decide +kernel, by decide +kernel, by decide +kernel⟩⟩

/-- Inputs of `Obligations.DecodingUnitsPassThroughTheEncoder` (decoding units are closed). -/
theorem witness_DecodingUnitsAreClosed :
    (st5.enc 0 = some e5) ∧ (List.find? (fun (q : EncPic) => q.number == 0) e5.pics = some input14) ∧ (input14.dus[0]? = some input15)
      ∧ (input15.bits = some input13) ∧ (input15.closed = false) :=
  ⟨by decide +kernel, by decide +kernel, by decide +kernel, by decide +kernel, by decide +kernel⟩

/-- No encode core can take a channel. -/
def full : State := { served with health := { served.health with fences := (List.range 16).map fun i => { cls := 5, idx := i, cause := 2 } } }

/-- Inputs of `Obligations.EncodeChannelsAreCommanded` for ENCODE_CHANNEL_OPEN, where the codec's table of levels allows the
parameters and its headers take no bits. -/
theorem witness_EncodeChannelOpen (h : Config.levelAllows p0 = true) (g : Config.headerBits p0 = 0) :
    (encodeChannelOpen.executes rOpen served = true)
    ∧ ((encodeChannelOpen.taken rOpen served).placeCores 0 (codingCharge (formatCost 4 6)) ((encodeChannelOpen.taken rOpen served).effectDt
        (encodeChannelOpen.placed rOpen served .firstActive 0).effect) = some [0])
    ∧ (encodeChannelOpen.mayWait rOpen served .firstActive 0)
    ∧ ((encodeChannelOpen.taken rOpen served).fits (⟨105, 0, 1⟩ :: coreCharges 0 (codingCharge (formatCost 4 6)) [0] [])
        (encodeChannelOpen.placed rOpen served .firstActive 0).effect = true)
    ∧ (encodeChannelOpen.executes rOpen full = true)
    ∧ ((encodeChannelOpen.taken rOpen full).placeCores 0 (codingCharge (formatCost 4 6)) ((encodeChannelOpen.taken rOpen full).effectDt
        (encodeChannelOpen.placed rOpen full .firstActive 0).effect) = none) :=
  ⟨executes_of_args _ _ _ (by
      show encodeValid p0 _ = true
      simp only [encodeValid, h, g]
      decide +kernel) (by decide +kernel),
    by decide +kernel, by unfold Cmd.mayWait; decide +kernel, by decide +kernel,
    executes_of_args _ _ _ (by
      show encodeValid p0 _ = true
      simp only [encodeValid, h, g]
      decide +kernel) (by decide +kernel),
    by decide +kernel⟩

/-- Inputs of `Obligations.EveryDecidedUnitArrivesInTime`, where the headers of the picture take no bits. -/
theorem witness_EveryDecidedUnit (h : ∀ k, Config.duHeaderBits e3.cfg (picOf e3).number k = 0) :
    (st3.enc 0 = some e3) ∧ (e3.pics.find? (fun q => q.number == 0) = some (picOf e3)) ∧ ((picOf e3).dus[0]? = some (duOf (picOf e3) 0))
    ∧ ((duOf (picOf e3) 0).bits = none) ∧ (∀ k, k < 0 → ∀ x, (picOf e3).dus[k]? = some x → x.bits ≠ none)
    ∧ ((picOf e3).dus.length = e3.time.dus) ∧ (modeSupported e3.time e3.latency = true)
    ∧ (8 * e3.time.second ≤ e3.rate * 1000 * e3.time.du) ∧ (e3.time.picture ≤ (e3.time.dus + 2) * e3.time.du)
    ∧ (∀ k, 0 ≤ k → k < e3.time.dus → 2 * e3.floorCost (picOf e3) k * e3.time.second ≤ e3.rate * 1000 * e3.time.du)
    ∧ (∀ f, e3.fPrev = some f → f + e3.rate * 1000 * e3.time.du ≤ e3.rate * 1000 * removal e3.time e3.latency (e3.startOf (picOf e3)) 0) :=
  ⟨by decide +kernel, by decide +kernel, by decide +kernel, by decide +kernel, fun _ hk => absurd hk (Nat.not_lt_zero _),
    by decide +kernel, by decide +kernel, by decide +kernel, by decide +kernel, by
      intro k _ _
      unfold Enc.floorCost Enc.header
      rw [h k]
      decide +kernel, by intro f hf; cases hf⟩

end Encoding

namespace DecodingRows

def p0 : Bytes := bytes [0,0,0,0,1,93,0,0,10,4,6,0,1,0] ++ le 2 0 ++ le 4 0 ++ le 4 20000 ++ bytes [0,0] ++ zeros 22
def rO : Request := req p0
def st1 : State := after (own decodeChannelOpen rO served) served
def d1 : Dec := { (st1.dec 0).getD (newDec [] []) with begun := true }
def st1b := st1.setDec 0 d1
def rSet : Request := req (le 2 0 ++ bytes [7,0] ++ le 4 40000 ++ bytes [1,0] ++ le 2 9 ++ zeros 4)
def rRing : Request := req (zeros 8 ++ le 8 4096 ++ le 4 65536 ++ zeros 4 ++ le 8 8 ++ le 8 16)
def dh : Dec := { d1 with cfg := d1.cfg.set 11 1, ring := hostRing rRing.payload }
def sth := st1b.setDec 0 dh
def sch (op : Nat) (a : Bytes) : Sched := { jsn := 5, opcode := op, view := .pf0, session := 1, flags := 0, token := 0, major := 1, minor := 0, args := a, effect := ⟨0, 10, 1⟩, kind := 0, status := 1, charges := [], last := true, begun := false, atDt := none }
def kind4 : Nat := ((List.range 10).find? codedKind).getD 0
def f0 : Flow := { (st1.rx 3) with cfg := bytes ([3,0,0,kind4,1,1]) ++ zeros 146 }
def st2 := st1b.setRx 3 f0
def strm : CodedStream := { codec := 0, profile := 1, level := 93, tier := 0, chroma := 0, depth := 10, width := 1280, height := 720, interlaced := false, rate := 59940, pool := 6, resampled := false, split := false }
def cd : CodedData := { bytes := 1000, stamp := 0, ssrc := 1, discont := false, first := true, last := true, poc := 4, type := 0, refs := [], recovery := none, noPrior := false, gap := false, errors := [], damaged := 0, stream := strm, anc := [] }
def dl : Dec := { d1 with cfg := d1.cfg.set 12 1 }
def st2l := st2.setDec 0 dl
def cdl : CodedData := {cd with stream := {strm with width := activeWidth 4, height := activeLines 4}, stamp := 90}
def st3 := decodeDataArrival 0 cdl st2l
def d3 : Dec := (st3.dec 0).getD d1
def p3 : DecPic := match d3.pics with | p :: _ => p | [] => { poc := 0, type := 0, stamp := 0, frame := 0, arrived := false, done := false, flags := 0, errors := 0, concealed := 0, bytes := 0, refs := [], recovery := none, noPrior := false }
def st3t : State := { st3 with time := { st3.time with dt := 100000000000 } }
def d5 : Dec := { d1 with stale := 9, held := 5 }
def stNc : State := { served with health := { served.health with fences := (List.range 8).map fun i => { cls := 5, idx := i, cause := 2 } } }
def cBig : CodedData := {cd with stream := {strm with codec := 1}}
def ipk (q : Nat) : IpPacket := { seq := q, ts := 90, payloadType := 96, ssrc := 7, marker := false, fragment := false, overrun := false, authentic := true, rows := [], fits := true, anc := [], sdi := none, picture := { diff := 1, mean := 2, peak := 3, levels := [], samePicture := [false], cut := false } }
def stRo : State := st2.setRx 3 { f0 with held := [ipk 25], next := some 20 }
def input1 : Request := req (zeros 8)
def input2 : Sched := sch 0x0703 p0
def input3 : Sched := sch 0x0708 rSet.payload
def input4 : Sched := sch 0x0709 (zeros 8)
def input5 : CodedData := {cd with stream := {strm with width := activeWidth 4, height := activeLines 4}}
def input6 : CodedData := {cd with bytes := 100000000}
def input8 : State := st1b.setDec 0 d5 -- extra
def input9 : Nat := ((d1.misfit cBig.stream).getD 0)
def input10 : IpPacket := ipk 25
def input11 : List IpPacket := []

/-- Inputs of `Obligations.DecodeChannelsAreConfigured`. -/
theorem witness_DecodeChannelsAreConfigured :
    ((decodeChannelClose.executes input1 st1b = true) ∧ (st1b.dec (u16 input1.payload 0) = some d1)
      ∧ (decodeChannelClose.mayWait input1 st1b Point.frameStart d1.tg)
      ∧ ((decodeChannelClose.taken input1 st1b).fits ({ pool := 106, item := u16 input1.payload 0, amount := 0 } :: coreCharges (256 + u16 input1.payload 0) 0 [] d1.cores) (decodeChannelClose.placed input1 st1b Point.frameStart d1.tg).effect = true))
    ∧ ((decodeChannelSet.executes rSet st1b = true) ∧ (st1b.dec (u16 rSet.payload 0) = some d1)
      ∧ (decodeChannelSet.mayWait rSet st1b Point.frameStart d1.tg))
    ∧ ((st1b.dec (u16 input2.args 0) = some d1) ∧ (input2.opcode = 1795) ∧ (3 ≠ u16 input2.args 0))
    ∧ ((st1b.dec (u16 input4.args 0) = some d1) ∧ (input4.opcode = 1801) ∧ (3 ≠ u16 input4.args 0))
    ∧ ((st1b.dec (u16 input3.args 0) = some d1) ∧ (input3.opcode = 1800) ∧ (3 ≠ u16 input3.args 0))
    ∧ ((decodeHostRingSet.executes rRing st1b = true) ∧ (st1b.dec (u16 rRing.payload 0) = some d1))
    ∧ ((sth.dec 0 = some dh) ∧ (dh.host = true ∧ dh.ring.base ≠ 0))
    ∧ ((st1b.dec 0 = some d1) ∧ (d1.host = false ∨ d1.ring.base = 0)) :=
  ⟨⟨by decide +kernel, by decide +kernel, by unfold Cmd.mayWait; decide +kernel, by decide +kernel⟩,
    ⟨by decide +kernel, by decide +kernel, by unfold Cmd.mayWait; decide +kernel⟩,
    ⟨by decide +kernel, by decide +kernel, by decide +kernel⟩,
    ⟨by decide +kernel, by decide +kernel, by decide +kernel⟩,
    ⟨by decide +kernel, by decide +kernel, by decide +kernel⟩,
    ⟨by decide +kernel, by decide +kernel⟩,
    ⟨by decide +kernel, by decide +kernel⟩,
    ⟨by decide +kernel, by decide +kernel⟩⟩

/-- Inputs of `Obligations.CodedPicturesAreReceivedAndShown` (coded data arrive). -/
theorem witness_CodedDataArrive :
    ((st2.dec 0 = some d1) ∧ (d1.state ≠ DecState.stopped) ∧ (d1.host = false) ∧ ((st2.decFlow 0).isSome = true) ∧ (input5.errors = [])
      ∧ (input5.gap = false) ∧ (d1.fill + input5.bytes ≤ dejitterBytes d1.cfg (st2.groupFormat d1.tg).fst (st2.groupFormat d1.tg).snd)
      ∧ (input5.first = true) ∧ (input5.last = true) ∧ (d1.misfit input5.stream = none) ∧ (d1.pics = []) ∧ (input5.type = 0) ∧ (d1.locked = true)
      ∧ (((applyRefs d1.pool []).any fun (b : Buf) => b.mark == 0) = true)
      ∧ (st2.deadlinePassed d1 (st2.frameFor d1 (st2.stampDt 0 d1 input5.stamp) d1.delay) = false)
      ∧ ((st2.tg d1.tg).dtOf (st2.frameFor d1 (st2.stampDt 0 d1 input5.stamp) d1.delay) 1 ≤ ↑st2.time.dt + ↑d1.delay * 1000 + 2000000000)
      ∧ (∀ (l : Nat), d1.lastFrame = some l → l < st2.frameFor d1 (st2.stampDt 0 d1 input5.stamp) d1.delay))
    ∧ ((st2.dec 0 = some d1) ∧ (d1.state ≠ DecState.stopped) ∧ (d1.host = false) ∧ ((st2.decFlow 0).isSome = true) ∧ (cBig.errors = [])
      ∧ (cBig.gap = false) ∧ (d1.fill + cBig.bytes ≤ dejitterBytes d1.cfg (st2.groupFormat d1.tg).fst (st2.groupFormat d1.tg).snd)
      ∧ (cBig.first = true) ∧ (d1.misfit cBig.stream = some input9))
    ∧ ((st2.dec 0 = some d1) ∧ (d1.state ≠ DecState.stopped) ∧ (d1.host = false) ∧ ((st2.decFlow 0).isSome = true) ∧ (input6.errors = [])
      ∧ (input6.gap = false) ∧ (dejitterBytes d1.cfg (st2.groupFormat d1.tg).fst (st2.groupFormat d1.tg).snd < d1.fill + input6.bytes))
    ∧ (((stRo.rx 3).enabled = true) ∧ (codedKind (stRo.rx 3).kind = true) ∧ ((stRo.rx 3).legCount = 1) ∧ ((stRo.rx 3).held = input10 :: input11)
      ∧ ((stRo.rx 3).next = some 20) ∧ (20 < input10.seq))
    ∧ ((st1b.dec 0 = some d1)
      ∧ (d1.state = DecState.stopped ∨ d1.host = false ∧ st1b.decFlow 0 = none ∨ d1.host = true ∧ d1.ring.prod < d1.ring.cons + roundUp (32 + cd.bytes) 64)) :=
  ⟨⟨by decide +kernel, by decide +kernel, by decide +kernel, by decide +kernel, by decide +kernel, by decide +kernel, by decide +kernel,
    by decide +kernel, by decide +kernel, by decide +kernel, by decide +kernel, by decide +kernel, by decide +kernel, by decide +kernel,
    by decide +kernel, by decide +kernel, by decide +kernel⟩,
    ⟨by decide +kernel, by decide +kernel, by decide +kernel, by decide +kernel, by decide +kernel, by decide +kernel, by decide +kernel,
    by decide +kernel, by decide +kernel⟩,
    ⟨by decide +kernel, by decide +kernel, by decide +kernel, by decide +kernel, by decide +kernel, by decide +kernel, by decide +kernel⟩,
    ⟨by decide +kernel, by decide +kernel, by decide +kernel, by decide +kernel, by decide +kernel, by decide +kernel⟩,
    ⟨by decide +kernel, by decide +kernel⟩⟩

/-- Inputs of `Obligations.CodedPicturesAreReceivedAndShown` (decoded pictures meet their frames). -/
theorem witness_DecodedPicturesMeetTheirFrames :
    ((st3.dec 0 = some d3) ∧ (List.find? (fun (q : DecPic) => !q.done) d3.pics = some p3) ∧ (List.filter (fun (q : DecPic) => !q.done) d3.pics = [p3])
      ∧ (p3.buffer.isSome = true) ∧ (p3.arrived = false ∨ st3.deadlinePassed d3 p3.frame = false))
    ∧ ((st3t.dec 0 = some d3) ∧ (List.find? (fun (q : DecPic) => !q.done) d3.pics = some p3)
      ∧ (List.filter (fun (q : DecPic) => !q.done) d3.pics = [p3]) ∧ (p3.buffer.isSome = true)
      ∧ (p3.arrived = true ∧ st3t.deadlinePassed d3 p3.frame = true))
    ∧ ((input8.dec 0 = some d5) ∧ (d5.begun = true) ∧ (input8.inLoss (16384 + 0) = false) ∧ (d5.lossReason = some 8)) :=
  ⟨⟨by decide +kernel, by decide +kernel, by decide +kernel, by decide +kernel, by decide +kernel⟩,
    ⟨by decide +kernel, by decide +kernel, by decide +kernel, by decide +kernel, by decide +kernel⟩,
    ⟨by decide +kernel, by decide +kernel, by decide +kernel, by decide +kernel⟩⟩

/-- Inputs of `Obligations.DecodeChannelsAreConfigured` for DECODE_CHANNEL_OPEN, where the codec's table of levels allows the
parameters. -/
theorem witness_DecodeChannelOpen (h : Config.levelAllows (le 2 0x0703 ++ p0) = true) :
    (decodeChannelOpen.executes rO served = true)
    ∧ ((decodeChannelOpen.taken rO served).placeCores 0x100 (served.decCharge p0) ((decodeChannelOpen.taken rO served).effectDt
        (decodeChannelOpen.placed rO served .frameStart 0).effect) = some [0])
    ∧ (decodeChannelOpen.mayWait rO served .frameStart 0)
    ∧ ((decodeChannelOpen.taken rO served).fits (⟨106, 0, 1⟩ :: coreCharges 0x100 (served.decCharge p0) [0] [])
        (decodeChannelOpen.placed rO served .frameStart 0).effect = true)
    ∧ (decodeChannelOpen.executes rO stNc = true)
    ∧ ((decodeChannelOpen.taken rO stNc).placeCores 0x100 (stNc.decCharge p0) ((decodeChannelOpen.taken rO stNc).effectDt
        (decodeChannelOpen.placed rO stNc .frameStart 0).effect) = none) :=
  ⟨executes_of_args _ _ _ (by
      show decodeValid p0 _ = true
      simp only [decodeValid, h]
      decide +kernel) (by decide +kernel),
    by decide +kernel, by unfold Cmd.mayWait; decide +kernel, by decide +kernel,
    executes_of_args _ _ _ (by
      show decodeValid p0 _ = true
      simp only [decodeValid, h]
      decide +kernel) (by decide +kernel),
    by decide +kernel⟩

end DecodingRows

namespace AudioRows

def ringCfg : Bytes := bytes [0,1,2,0] ++ zeros 4 ++ le 8 4096 ++ le 4 65536 ++ zeros 4 ++ le 8 8 ++ le 8 16 ++ zeros 8
def rRing := req ringCfg
def st1 : State := (served.setAudioRing 16 { cfg := ringCfg }).setAudioRing 0 { cfg := (ringCfg.set 1 0) }
def ent (d ch k src sch fl : Nat) (g : Nat) : Bytes := le 2 d ++ bytes [ch,k] ++ le 2 src ++ bytes [sch, fl] ++ le 2 g ++ zeros 6
def rRoute := req (le 2 2 ++ bytes [1] ++ zeros 5 ++ ent 0x8000 1 0 0x8000 2 0 0 ++ ent 0x8000 2 0 0x8000 1 0 0)
def st2 : State := { st1 with audio := { st1.audio with crosses := [(crossKey 0x8000 1 0, ⟨0x8000, 2, 0, false⟩)] } }
def rGain := req (le 2 1 ++ bytes [0] ++ zeros 5 ++ (le 2 0x8000 ++ bytes [1,0,0,0,0,0] ++ le 2 0xFF00 ++ zeros 6))
def rDest := req (le 2 0x8000 ++ bytes [0, 0, 20, 0,0,0] ++ le 4 480 ++ zeros 4 ++ zeros 32)
def rSrc (a : Nat) := req (le 2 0x8000 ++ bytes [a, 0xFF] ++ zeros 20)
def st3 : State := after (own audioMclkSet (req (bytes [3,2,0,0,0,0,0,0])) st1) st1
def tcfg (en ms : Nat) : Bytes := bytes [2, en, ms, 8, 32, 24, 0, 0, 0, 2, 0] ++ zeros 5
def st4 : State := st1.setTdm 2 { cfg := tcfg 1 0, state := .mutedClock, nominal := 2 }
def stT (st : TdmState) (g : Nat) (m : Bool) : State := st1.setTdm 2 { cfg := (tcfg 1 0).set 10 6, state := st, nominal := 2, good := g, measuring := m, fading := true }
def st5 : State := st2.setAudioSource 0x8000 { next := some (rSrc 0).payload }
def chg : AudioChange := ⟨5, 0x8000, 1, [(0, some ⟨0x8000, 1, 0, false⟩)], none, 0⟩
def st6 : State := { st2 with audio := { st2.audio with changes := [chg, {chg with chan := 2}] }, time := { st2.time with dt := 20000000 } }
def st7 : State := st1.setAudioSource 0x8000 { dev := 1700, exact := 3, fallback := [1], nonAudio := [1], owed := [(1,5),(2,6),(1,7)] }
def stTr : State := { st2 with health := { st2.health with tripped := true } }
def input0 : State := fullOf 110 served
def input1 : Request := req (le 2 1 ++ bytes [1] ++ zeros 5 ++ ent 0x8000 1 0 9 2 0 0)
def input2 : State := { st1 with health := { st1.health with fences := [⟨1, 9, 2⟩] } }
def input4 : Request := rSrc 0
def input5 : Request := rSrc 1
def input6 : State := fullOf 112 st2
def input7 : AudioSource := { next := some (rSrc 1).payload }
def input8 : Bytes := (rSrc 1).payload
def input9 : Request := req (bytes [0,0,0,0,0,0,0,0])
def input10 : Request := req (bytes [1,0,0,0,0,0,0,0])
def input11 : Request := req (bytes [3,2,0,0,0,0,0,0])
def input12 : Request := req (tcfg 1 0)
def input13 : State := fullOf 110 st1
def input15 : Request := req (tcfg 1 1)
def input16 : State := stT .mutedClock 0 false
def input17 : State := stT .mutedClock 31 false
def input18 : State := stT .mutedFrame 0 false
def input19 : State := stT .mutedFrame 1 true
def input20 : State := stT .running 0 false
def input21 : State := stT .mutedRate 0 true
def input25 : Cross := ⟨0x8000, 1, 0, false⟩
def input26 : State := { st6 with time := { st6.time with dt := 200 } }
def input27 : State := st1.setAudioSource 0x1003 { windows := 2 }
def input28 : State := { st7 with time := { st6.time with dt := 200000000 } } -- extra
def input29 : Nat := (((stT .mutedRate 0 true).tdm 2).codeFor 44100).getD 0

/-- Inputs of `Obligations.AudioCommandsSetRouterAndPorts`. -/
theorem witness_AudioCommandsSetRouterAndPorts :
    ((audioRouteSet.executes rRoute st1 = true)
      ∧ (openStatus ((audioRouteSet.taken rRoute st1).armAudio (audioRouteSet.work rRoute st1) 2049 (audioBytes (audioRouteSet.work rRoute st1)) audioCharges).status = true)
      ∧ (∀ (p : Bytes), p ∈ audioEntries (audioBytes (audioRouteSet.work rRoute st1)) → (audioRouteSet.taken rRoute st1).destFenced (u16 p 0) = false
      ∧ (audioRouteSet.taken rRoute st1).sourceFenced (u16 p 4) = false))
    ∧ ((audioRouteSet.executes input1 input2 = true)
      ∧ ((firstIndex (audioEntries (audioBytes (audioRouteSet.work input1 input2))) fun (x : Nat) (p : Bytes) => (audioRouteSet.taken input1 input2).destFenced (u16 p 0) || (audioRouteSet.taken input1 input2).sourceFenced (u16 p 4)) = some 0)
      ∧ ((audioRouteSet.work input1 input2).dma = false))
    ∧ ((audioGainSet.executes rGain st2 = true)
      ∧ (openStatus ((audioGainSet.taken rGain st2).armAudio (audioGainSet.work rGain st2) 2050 (audioBytes (audioGainSet.work rGain st2)) fun (x : Bytes) => []).status = true)
      ∧ (∀ (p : Bytes), p ∈ audioEntries (audioBytes (audioGainSet.work rGain st2)) → (audioGainSet.taken rGain st2).destFenced (u16 p 0) = false))
    ∧ ((audioHostRingSet.executes rRing served = true)
      ∧ (u8 rRing.payload 1 = 0 ∨ u64 rRing.payload 8 = 0 ∨ (audioHostRingSet.taken rRing served).fitsNow [{ pool := 110, item := 32768 + u8 rRing.payload 0, amount := u8 rRing.payload 2 }] = true))
    ∧ ((audioHostRingSet.executes rRing input0 = true)
      ∧ (¬(u8 rRing.payload 1 = 0 ∨ u64 rRing.payload 8 = 0 ∨ (audioHostRingSet.taken rRing input0).fitsNow [{ pool := 110, item := 32768 + u8 rRing.payload 0, amount := u8 rRing.payload 2 }] = true)))
    ∧ ((audioSourceSet.executes input4 st2 = true)
      ∧ (u8 input4.payload 2 ≠ 1 ∨ (audioSourceSet.taken input4 st2).fitsNow [{ pool := 112, item := u16 input4.payload 0, amount := (st2.trackedAll (u16 input4.payload 0) (u64 input4.payload 8)).length }] = true))
    ∧ ((audioSourceSet.executes input5 input6 = true) ∧ (u8 input5.payload 2 = 1
      ∧ (audioSourceSet.taken input5 input6).fitsNow [{ pool := 112, item := u16 input5.payload 0, amount := (input6.trackedAll (u16 input5.payload 0) (u64 input5.payload 8)).length }] = false))
    ∧ ((audioSystemSet.executes input9 st2 = true)
      ∧ (st2.audio.crosses ≠ [] ∨ (List.any st2.audio.tdm fun (e : Nat × Tdm) => e.snd.enabled && e.snd.master) = true ∨ (List.any st2.audio.mclk fun (e : Nat × Mclk) => e.snd.multiple != 0) = true))
    ∧ ((audioSystemSet.executes input10 st1 = true)
      ∧ (¬(st1.audio.crosses ≠ [] ∨ (List.any st1.audio.tdm fun (e : Nat × Tdm) => e.snd.enabled && e.snd.master) = true ∨ (List.any st1.audio.mclk fun (e : Nat × Mclk) => e.snd.multiple != 0) = true)))
    ∧ ((tdmPortConfigure.executes input12 st1 = true)
      ∧ ((u8 ((st1.tdm (u8 input12.payload 0)).next.getD (st1.tdm (u8 input12.payload 0)).cfg) 1 ≠ 1 ∨ List.take 1 ((st1.tdm (u8 input12.payload 0)).next.getD (st1.tdm (u8 input12.payload 0)).cfg) ++ List.drop 2 ((st1.tdm (u8 input12.payload 0)).next.getD (st1.tdm (u8 input12.payload 0)).cfg) = List.take 1 input12.payload ++ List.drop 2 input12.payload)
      ∧ (u8 input12.payload 1 = 0 ∨ (tdmPortConfigure.taken input12 st1).fitsNow [{ pool := 110, item := 28672 + u8 input12.payload 0, amount := u8 input12.payload 3 }] = true)))
    ∧ ((tdmPortConfigure.executes input12 input13 = true)
      ∧ ((u8 ((input13.tdm (u8 input12.payload 0)).next.getD (input13.tdm (u8 input12.payload 0)).cfg) 1 ≠ 1 ∨ List.take 1 ((input13.tdm (u8 input12.payload 0)).next.getD (input13.tdm (u8 input12.payload 0)).cfg) ++ List.drop 2 ((input13.tdm (u8 input12.payload 0)).next.getD (input13.tdm (u8 input12.payload 0)).cfg) = List.take 1 input12.payload ++ List.drop 2 input12.payload) ∧ ¬(u8 input12.payload 1 = 0 ∨ (tdmPortConfigure.taken input12 input13).fitsNow [{ pool := 110, item := 28672 + u8 input12.payload 0, amount := u8 input12.payload 3 }] = true)))
    ∧ ((tdmPortConfigure.executes input15 st4 = true)
      ∧ (u8 ((st4.tdm (u8 input15.payload 0)).next.getD (st4.tdm (u8 input15.payload 0)).cfg) 1 = 1 ∧ ¬List.take 1 ((st4.tdm (u8 input15.payload 0)).next.getD (st4.tdm (u8 input15.payload 0)).cfg) ++ List.drop 2 ((st4.tdm (u8 input15.payload 0)).next.getD (st4.tdm (u8 input15.payload 0)).cfg) = List.take 1 input15.payload ++ List.drop 2 input15.payload))
    ∧ (audioDestinationSet.executes rDest st2 = true)
    ∧ (input7.next = some input8)
    ∧ (audioMclkSet.executes input11 st1 = true)
    ∧ ((tabGet st3.audio.mclk 3 { }).next = some 2) :=
  ⟨⟨by decide +kernel, by decide +kernel, by decide +kernel⟩,
    ⟨by decide +kernel, by decide +kernel, by decide +kernel⟩,
    ⟨by decide +kernel, by decide +kernel, by decide +kernel⟩,
    ⟨by decide +kernel, by decide +kernel⟩,
    ⟨by decide +kernel, by decide +kernel⟩,
    ⟨by decide +kernel, by decide +kernel⟩,
    ⟨by decide +kernel, by decide +kernel⟩,
    ⟨by decide +kernel, by decide +kernel⟩,
    ⟨by decide +kernel, by decide +kernel⟩,
    ⟨by decide +kernel, by decide +kernel⟩,
    ⟨by decide +kernel, by decide +kernel⟩,
    ⟨by decide +kernel, by decide +kernel⟩,
    by decide +kernel,
    by decide +kernel,
    by decide +kernel,
    by decide +kernel⟩

/-- Inputs of `Obligations.AudioFlowsAndSynchronises` (tdm ports follow their clock). -/
theorem witness_TdmPortsFollowTheirClock :
    ((2 < 16) ∧ (input16.halted = false ∧ (input16.tdm 2).slave = true ∧ (input16.tdm 2).state = TdmState.mutedClock) ∧ ((input16.tdm 2).good + 1 < 32))
    ∧ ((2 < 16) ∧ (input17.halted = false ∧ (input17.tdm 2).slave = true ∧ (input17.tdm 2).state = TdmState.mutedClock)
      ∧ ((input17.tdm 2).good = 31 ∧ 7 * portHz (input17.tdm 2).nominal ≤ 8 * 48010 ∧ 8 * 48010 ≤ 9 * portHz (input17.tdm 2).nominal))
    ∧ ((2 < 16) ∧ (input17.halted = false ∧ (input17.tdm 2).slave = true ∧ (input17.tdm 2).state = TdmState.mutedClock)
      ∧ ((input17.tdm 2).good = 31 ∧ ¬(7 * portHz (input17.tdm 2).nominal ≤ 8 * 96000 ∧ 8 * 96000 ≤ 9 * portHz (input17.tdm 2).nominal)))
    ∧ ((2 < 16) ∧ (input18.halted = false ∧ (input18.tdm 2).slave = true ∧ (input18.tdm 2).state = TdmState.mutedFrame) ∧ ((input18.tdm 2).good = 0))
    ∧ ((2 < 16) ∧ (input19.halted = false ∧ (input19.tdm 2).slave = true ∧ (input19.tdm 2).state = TdmState.mutedFrame) ∧ ((input19.tdm 2).good = 1))
    ∧ ((2 < 16) ∧ ((input20.tdm 2).slave = true ∧ (input20.tdm 2).state = TdmState.running)
      ∧ (¬(7 * portHz (input20.tdm 2).nominal ≤ 8 * 96000 ∧ 8 * 96000 ≤ 9 * portHz (input20.tdm 2).nominal)))
    ∧ ((2 < 16) ∧ ((input20.tdm 2).slave = true ∧ (input20.tdm 2).state = TdmState.running)
      ∧ (7 * portHz (input20.tdm 2).nominal ≤ 8 * 48100 ∧ 8 * 48100 ≤ 9 * portHz (input20.tdm 2).nominal))
    ∧ ((2 < 16) ∧ ((input21.tdm 2).slave = true ∧ (input21.tdm 2).state = TdmState.mutedRate) ∧ ((input21.tdm 2).codeFor 192000 = none))
    ∧ ((2 < 16) ∧ (input20.halted = false ∧ (input20.tdm 2).slave = true ∧ (input20.tdm 2).state = TdmState.running) ∧ (1 = 1 ∨ 1 = 2))
    ∧ ((2 < 16) ∧ ((input21.tdm 2).slave = true ∧ (input21.tdm 2).state = TdmState.mutedRate) ∧ ((input21.tdm 2).codeFor 44100 = some input29))
    ∧ ((2 < 16) ∧ ((input16.tdm 2).slave = true))
    ∧ ((2 < 16) ∧ ((input16.tdm 2).fading = true))
    ∧ ((2 < 16) ∧ ((st1.tdm 2).slave = false)) :=
  ⟨⟨by decide +kernel, by decide +kernel, by decide +kernel⟩,
    ⟨by decide +kernel, by decide +kernel, by decide +kernel⟩,
    ⟨by decide +kernel, by decide +kernel, by decide +kernel⟩,
    ⟨by decide +kernel, by decide +kernel, by decide +kernel⟩,
    ⟨by decide +kernel, by decide +kernel, by decide +kernel⟩,
    ⟨by decide +kernel, by decide +kernel, by decide +kernel⟩,
    ⟨by decide +kernel, by decide +kernel, by decide +kernel⟩,
    ⟨by decide +kernel, by decide +kernel, by decide +kernel⟩,
    ⟨by decide +kernel, by decide +kernel, by decide +kernel⟩,
    ⟨by decide +kernel, by decide +kernel, by decide +kernel⟩,
    ⟨by decide +kernel, by decide +kernel⟩,
    ⟨by decide +kernel, by decide +kernel⟩,
    ⟨by decide +kernel, by decide +kernel⟩⟩

/-- Inputs of `Obligations.AudioFlowsAndSynchronises` (audio blocks mix and changes fall due). -/
theorem witness_AudioBlocksMixAndChangesFallDue :
    ((chg.dest = 32768) ∧ (chg.chan = 1) ∧ (chg.set = [(0, some input25)]) ∧ (chg.delay = none)
      ∧ (List.filter (fun (y : AudioChange) => y.dest == 32768 && y.chan == 1) st6.audio.changes = [chg])
      ∧ (chg.due + (st6.audioDest 32768).timeout * 1000000 ≤ st6.time.dt))
    ∧ ((chg.dest = 32768) ∧ (chg.chan = 1) ∧ (chg.set = [(0, some input25)]) ∧ (chg.delay = none)
      ∧ (List.filter (fun (y : AudioChange) => y.dest == 32768 && y.chan == 1) input26.audio.changes = [chg])
      ∧ (input26.time.dt < chg.due + (input26.audioDest 32768).timeout * 1000000))
    ∧ ((77 < 2 ^ 23) ∧ (-2 ^ 23 ≤ 77))
    ∧ (st5.halted = false)
    ∧ ((st5.destChan 32768 1).delay = 0)
    ∧ (stTr.halted = true) :=
  ⟨⟨by decide +kernel, by decide +kernel, by decide +kernel, by decide +kernel, by decide +kernel, by decide +kernel⟩,
    ⟨by decide +kernel, by decide +kernel, by decide +kernel, by decide +kernel, by decide +kernel, by decide +kernel⟩,
    ⟨by decide +kernel, by decide +kernel⟩,
    by decide +kernel,
    by decide +kernel,
    by decide +kernel⟩

/-- Inputs of `Obligations.AudioFlowsAndSynchronises` (sources synchronise and slip). -/
theorem witness_SourcesSynchroniseAndSlip :
    ((st1.houseLocked 4099 = false) ∧ ((st1.audioSource 4099).sync = false) ∧ (-125000 ≤ 0) ∧ (0 ≤ 125000) ∧ (cls 4099 ≠ 7) ∧ (-1 ≤ 1 ∧ 1 ≤ 1
      ∧ (st1.audioSource 4099).windows < 2))
    ∧ ((input27.houseLocked 4099 = false) ∧ ((input27.audioSource 4099).sync = false) ∧ (-125000 ≤ 0) ∧ (0 ≤ 125000) ∧ (cls 4099 ≠ 7)
      ∧ (-1 ≤ 1 ∧ 1 ≤ 1 ∧ 2 ≤ (input27.audioSource 4099).windows))
    ∧ ((input27.houseLocked 4099 = false) ∧ ((input27.audioSource 4099).sync = false) ∧ (-125000 ≤ 0) ∧ (0 ≤ 125000) ∧ (cls 4099 ≠ 7)
      ∧ (7 < -1 ∨ 1 < 7))
    ∧ ((1 ≤ 1) ∧ (((input28.audioSource 32768).owed.any fun (o : Nat × Nat) => o.fst == 1 && decide (o.snd + 40000000 ≤ input28.time.dt)) = true))
    ∧ ((st7.audioSource 32768).dev ≤ -1500 ∨ 1500 ≤ (st7.audioSource 32768).dev)
    ∧ ((-1500 < (st1.audioSource 32768).dev ∧ (st1.audioSource 32768).dev < 1500)) :=
  ⟨⟨by decide +kernel, by decide +kernel, by decide +kernel, by decide +kernel, by decide +kernel, by decide +kernel⟩,
    ⟨by decide +kernel, by decide +kernel, by decide +kernel, by decide +kernel, by decide +kernel, by decide +kernel⟩,
    ⟨by decide +kernel, by decide +kernel, by decide +kernel, by decide +kernel, by decide +kernel, by decide +kernel⟩,
    ⟨by decide +kernel, by decide +kernel⟩,
    by decide +kernel,
    by decide +kernel⟩

end AudioRows

namespace LaneRows

def qa (q p m f v : Nat) := req (bytes [q, p, m, f] ++ le 4 v)
def stQ (p : Nat) := (served.setQuad 2 { served.quad 2 with protocol := p, mode := 1 }).setLane 8 { served.lane 8 with rxEn := true, pre := -3, state := .training }
def lcf (n : Nat) := req (le 2 n ++ bytes [1,1,0,0,0,0,0,0] ++ (List.replicate 12 255) ++ bytes [3, 2, 0xFE, 0, 9, 0,0,0,0,0])
def rl (n : Nat) := req (le 2 n ++ zeros 6)
def tst (n g c i lb : Nat) := req (le 2 n ++ bytes [g, c, 1, i, 3, lb] ++ le 2 5 ++ le 2 6 ++ zeros 4)
def q4 (st : Train) (sig : Bool) (k : Nat) := { stQ 2 with lanes := (List.range 4).foldl (fun l n => { l with lanes := tabPut l.lanes (8+n) { state := st, signal := sig || n != 1, attempts := k, rxEn := true, cdrLock := true } }) ((stQ 2).setQuad 2 { (stQ 2).quad 2 with protocol := 2, mode := 2 }).lanes }
def input0 : Request := qa 2 1 1 0 0
def input1 : State := stQ 1
def input6 : State := { served with health := { served.health with fences := [⟨2, 2, 2⟩] } }
def input7 : State := (stQ 1).setDest 9 { served.dest 9 with source := 3 }
def input8 : Request := lcf 8
def input9 : State := { stQ 1 with health := { served.health with fences := [⟨1, 8, 2⟩] } }
def input10 : Request := rl 8
def input14 : Request := tst 8 1 2 0 0
def input16 : Request := tst 8 1 2 0 1
def input17 : State := (stQ 1).setDest 9 { served.dest 9 with source := 3 } -- training
def input18 : State := q4 .waitSignal false 2
def input19 : State := q4 .training true 2
def input20 : State := q4 .up true 2
def input23 : State := q4 .training true 7
def input25 : State := q4 .backoff true 2
def input28 : State := (stQ 1).setLane 8 { served.lane 8 with chk := 2, chkLock := true }

/-- Inputs of `Obligations.QuadsAndLanesAreCommanded` (quad allocation resets its lanes). -/
theorem witness_QuadAllocationResetsItsLanes :
    ((quadAllocate.executes input0 input1 = true)
      ∧ ((quadAllocate.taken input0 input1).fenced 2 (u8 input0.payload 0) = false ∧ ∀ (n : Nat), n / 4 = u8 input0.payload 0 → (quadAllocate.taken input0 input1).laneWork n = false))
    ∧ ((quadAllocate.executes input0 input6 = true) ∧ ((quadAllocate.taken input0 input6).fenced 2 (u8 input0.payload 0) = true))
    ∧ ((quadAllocate.executes input0 input7 = true)
      ∧ ((quadAllocate.taken input0 input7).fenced 2 (u8 input0.payload 0) = false ∧ ∃ (n : Nat), n / 4 = u8 input0.payload 0
      ∧ (quadAllocate.taken input0 input7).laneWork n = true)) :=
  ⟨⟨by decide +kernel, ⟨by decide +kernel,
    by intro n h; replace h : n / 4 = 2 := h; have : n = 8 ∨ n = 9 ∨ n = 10 ∨ n = 11 := (by omega); rcases this with rfl | rfl | rfl | rfl <;> decide +kernel⟩⟩,
    ⟨by decide +kernel, by decide +kernel⟩,
    ⟨by decide +kernel, ⟨by decide +kernel, ⟨9, by decide +kernel, by decide +kernel⟩⟩⟩⟩

/-- Inputs of `Obligations.QuadsAndLanesAreCommanded` (lane commands configure rearm and test). -/
theorem witness_LaneCommandsConfigureRearmAndTest :
    ((laneTestSet.executes input16 input17 = true)
      ∧ ((laneTestSet.taken input16 input17).fenced 1 (u16 input16.payload 0) = false ∧ laneTestBusy input16.payload (laneTestSet.taken input16 input17) = true)
      ∧ (flagAutoFence (laneTestSet.work input16 input17).flags = false))
    ∧ ((laneConfigure.executes input8 input1 = true)
      ∧ ((laneConfigure.taken input8 input1).fenced 1 (u16 input8.payload 0) = false ∧ sdFromFractional input8.payload input1 = false ∧ laneConfigure.mayWait input8 input1 Point.anyLine input8.group.toNat))
    ∧ ((laneConfigure.executes input8 input9 = true) ∧ ((laneConfigure.taken input8 input9).fenced 1 (u16 input8.payload 0) = true))
    ∧ ((laneRearm.executes input10 input1 = true) ∧ ((laneRearm.taken input10 input1).fenced 1 (u16 input10.payload 0) = false))
    ∧ ((laneTestSet.executes input14 input1 = true)
      ∧ ((laneTestSet.taken input14 input1).fenced 1 (u16 input14.payload 0) = false ∧ laneTestBusy input14.payload (laneTestSet.taken input14 input1) = false)) :=
  ⟨⟨by decide +kernel, by decide +kernel, by decide +kernel⟩,
    ⟨by decide +kernel, by unfold Cmd.mayWait; decide +kernel⟩,
    ⟨by decide +kernel, by decide +kernel⟩,
    ⟨by decide +kernel, by decide +kernel⟩,
    ⟨by decide +kernel, by decide +kernel⟩⟩

/-- Inputs of `Obligations.LanesTrainAndAreMonitored` (training moves a whole unit). -/
theorem witness_TrainingMovesAWholeUnit :
    ((input18.present 1 9 = true) ∧ ((input18.lane 9).state = Train.waitSignal ∧ ∀ (m : Nat), m ∈ input18.unitOf 9 → m ≠ 9 → (input18.lane m).signal = true))
    ∧ ((input19.present 1 9 = true) ∧ ((input19.lane 9).state ≠ Train.waitSignal))
    ∧ ((input19.present 1 9 = true) ∧ ((input19.lane 9).state = Train.training))
    ∧ ((input20.present 1 9 = true) ∧ ((input20.lane 9).state = Train.up))
    ∧ (((input19.lane 9).state = Train.training) ∧ (input19.linkOf 9 = none))
    ∧ (((input19.lane 9).state = Train.training) ∧ ((input19.lane 9).attempts + 1 ≠ 8))
    ∧ (((input23.lane 9).state = Train.training) ∧ ((input23.lane 9).attempts + 1 = 8 ∧ (input23.policy 1).threshold = 0))
    ∧ ((input25.lane 9).state = Train.backoff) :=
  ⟨⟨by decide +kernel, by decide +kernel⟩,
    ⟨by decide +kernel, by decide +kernel⟩,
    ⟨by decide +kernel, by decide +kernel⟩,
    ⟨by decide +kernel, by decide +kernel⟩,
    ⟨by decide +kernel, by decide +kernel⟩,
    ⟨by decide +kernel, by decide +kernel⟩,
    ⟨by decide +kernel, by decide +kernel⟩,
    by decide +kernel⟩

/-- Inputs of `Obligations.LanesTrainAndAreMonitored` (lane monitors count). -/
theorem witness_LaneMonitorsCount :
    ((input20.present 1 9 = true) ∧ (input20.is64b 9 = true))
    ∧ ((input20.lane 9).cdrLock = true)
    ∧ ((input1.lane 8).cdrLock = false)
    ∧ ((input1.lane 8).chk = 0)
    ∧ ((input28.lane 8).chk ≠ 0) :=
  ⟨⟨by decide +kernel, by decide +kernel⟩,
    by decide +kernel,
    by decide +kernel,
    by decide +kernel,
    by decide +kernel⟩

end LaneRows

namespace CascadeRows

def stq (s : State) (q : Nat) : State := { s with lanes := { s.lanes with quads := tabPut s.lanes.quads q { (s.quad q) with protocol := 3 } } }
def st1 := stq (stq (stq (stq served 0) 1) 2) 3
def cc : Bytes := bytes [1,1,1,0] ++ le 2 7 ++ zeros 2 ++ bytes [0,8,0,0, 2,8,0xFF,0, 0xFF,0,0,0, 0xFF,0,0,0]
def st2 := after (own cascadeConfigure (req cc) st1) st1
def sub0 : Subscription := { origin := 0, slot := 5, taker := 2, link := some 1, hops := 1, charge := 1648 }
def st3 : State := { st2 with cascade := { st2.cascade with subs := [sub0] } }
def l0 : Link := (st2.link 0).getD { quads := [], expected := 0 }
def l1 : Link := (st2.link 1).getD { quads := [], expected := 0 }
def st4 := st2.mapLanes (l0.lanes ++ l1.lanes) fun x => { x with state := .training, phase := 4, attempts := 2 }
def st5 := st3.mapLanes (l0.lanes ++ l1.lanes) fun x => { x with state := .up }
def st5m (dt : Nat) : State := { st5 with cascade := { st5.cascade with master := true }, time := { st5.time with dt := dt } }
def ms : Measures := { diff := 0, mean := 0, peak := 0, levels := [], samePicture := [], cut := false }
def mp (c : Bool) (h : Nat) : MediaPacket := { type := 5, origin := 0, hops := h, slot := 5, length := 100, crcOk := c, dt := 0, first := true, last := false, whole := true, anc := [], picture := ms }
def stFq : State := { st1 with health := { st1.health with fences := [{ cls := 2, idx := 0, cause := 2 }] } }
def st4s : State := { st4 with cascade := { st4.cascade with subs := [sub0] } }
def input0 : Request := req cc
def input2 : Request := req (cc.set 0 0)
def input3 : Request := req (bytes [9,0,0,0,0,0,0,0])
def input4 : Request := req (bytes [9,0,3,0,0,0,0,0])
def input5 : State := (st2.setTg 3 { st2.tg 0 with enabled := true }).setDest 0x6009 { st2.dest 0x6009 with source := 9 }
def input7 : State := st5m 5000000
def input8 : State := st5m 5000001
def input9 : State := { (st5m 1010) with cascade := st5.cascade }
def input14 : State := { (st5m 10000005) with cascade := {st5.cascade with timeLast := some 5, timeLocked := true} }
def input16 : State := { (st5m 10000004) with cascade := {st5.cascade with timeLast := some 5, timeLocked := true} }
def input17 : MediaPacket := mp true 1
def input19 : MediaPacket := mp false 1

/-- Inputs of `Obligations.CascadeIsConfiguredAndCarriesExports` (cascade is configured). -/
theorem witness_CascadeIsConfigured :
    ((cascadeConfigure.executes input0 st1 = true)
      ∧ ((∀ (q : Nat), q ∈ List.flatMap (fun (k : Nat) => entryQuads (linkEntry input0.payload k)) (List.filter (fun (k : Nat) => u8 (linkEntry input0.payload k) 0 != 255) (List.range 4)) → (cascadeConfigure.taken input0 st1).fenced 2 q = false) ∧ ∀ (k : Nat), k < 4 → st1.linkCarries k = true → linkChanges input0.payload st1 k = false))
    ∧ ((cascadeConfigure.executes input2 st3 = true)
      ∧ ((∀ (q : Nat), q ∈ List.flatMap (fun (k : Nat) => entryQuads (linkEntry input2.payload k)) (List.filter (fun (k : Nat) => u8 (linkEntry input2.payload k) 0 != 255) (List.range 4)) → (cascadeConfigure.taken input2 st3).fenced 2 q = false) ∧ ¬∀ (k : Nat), k < 4 → st3.linkCarries k = true → linkChanges input2.payload st3 k = false))
    ∧ ((cascadeExportSet.executes input3 st2 = true)
      ∧ ((st2.dest (24576 + u16 input3.payload 0)).source = 61440 ∨ st2.exportGroup (u16 input3.payload 0) = u8 input3.payload 2))
    ∧ ((cascadeExportSet.executes input4 input5 = true)
      ∧ ((input5.dest (24576 + u16 input4.payload 0)).source ≠ 61440 ∧ input5.exportGroup (u16 input4.payload 0) ≠ u8 input4.payload 2))
    ∧ ((cascadeConfigure.executes input0 stFq = true)
      ∧ (∃ (q : Nat), q ∈ List.flatMap (fun (k : Nat) => entryQuads (linkEntry input0.payload k)) (List.filter (fun (k : Nat) => u8 (linkEntry input0.payload k) 0 != 255) (List.range 4))
      ∧ (cascadeConfigure.taken input0 stFq).fenced 2 q = true)) :=
  ⟨⟨by decide +kernel, by decide +kernel⟩,
    ⟨by decide +kernel, by decide +kernel⟩,
    ⟨by decide +kernel, by decide +kernel⟩,
    ⟨by decide +kernel, by decide +kernel⟩,
    ⟨by decide +kernel, by decide +kernel⟩⟩

/-- Inputs of `Obligations.CascadeNegotiatesAndKeepsTime`. -/
theorem witness_CascadeNegotiatesAndKeepsTime :
    ((input7.cascade.enabled = true) ∧ (input7.cascade.master = true) ∧ (input7.time.dt % 1000000 = 0)
      ∧ ((List.map (fun (x : Nat × Link) => x.fst) input7.cascade.links).Nodup))
    ∧ ((input9.link 0 = some l0) ∧ (input9.linkUp 0 = true) ∧ (input9.cascade.master = false)
      ∧ (input9.cascade.timeLink = some 0 ∨ input9.cascade.timeLink = none ∨ 1 < input9.cascade.timeHops))
    ∧ ((st4.link 0 = some l0) ∧ ((st4.lane (l0.lanes.headD 0)).state = Train.training)
      ∧ (¬(3 % 2 = 0 ∨ 7 ≠ u16 st4.cascade.cfg 4 ∨ 0 = st4.cascade.self ∨ l0.expected ≠ 255 ∧ 0 ≠ l0.expected)))
    ∧ ((st4.link 0 = some l0) ∧ ((st4.lane (l0.lanes.headD 0)).state = Train.training)
      ∧ ((3 % 2 = 0 ∨ 7 ≠ u16 st4.cascade.cfg 4 ∨ 1 = st4.cascade.self ∨ l0.expected ≠ 255 ∧ 1 ≠ l0.expected)
      ∧ (st4.lane (l0.lanes.headD 0)).attempts ≠ 7))
    ∧ ((st5.link 0 = some l0) ∧ (st5.linkUp 0 = true))
    ∧ ((input14.cascade.timeLast = some 5) ∧ (5 + 10000000 ≤ input14.time.dt))
    ∧ ((input16.cascade.timeLast = some 5) ∧ (input16.time.dt < 5 + 10000000))
    ∧ (input8.cascade.enabled = false ∨ input8.cascade.master = false ∨ input8.time.dt % 1000000 ≠ 0) :=
  ⟨⟨by decide +kernel, by decide +kernel, by decide +kernel, by decide +kernel⟩,
    ⟨by decide +kernel, by decide +kernel, by decide +kernel, by decide +kernel⟩,
    ⟨by decide +kernel, by decide +kernel, by decide +kernel⟩,
    ⟨by decide +kernel, by decide +kernel, by decide +kernel⟩,
    ⟨by decide +kernel, by decide +kernel⟩,
    ⟨by decide +kernel, by decide +kernel⟩,
    ⟨by decide +kernel, by decide +kernel⟩,
    by decide +kernel⟩

/-- Inputs of `Obligations.CascadeIsConfiguredAndCarriesExports` (cascade carries subscribed exports). -/
theorem witness_CascadeCarriesSubscribedExports :
    ((st5.link 1 = some l1) ∧ (st5.linkUp 1 = true) ∧ (0 ≠ st5.cascade.self) ∧ (0 ≤ 3) ∧ (6 ≤ 255))
    ∧ ((st5.link 0 = some l0) ∧ (st5.linkUp 0 = true) ∧ (st5.ownSub (24576 + input17.origin * 256 + input17.slot) = none) ∧ (input17.crcOk = true))
    ∧ ((st5.link 0 = some l0) ∧ (st5.linkUp 0 = true) ∧ (st5.ownSub (24576 + input19.origin * 256 + input19.slot) = none) ∧ (input19.crcOk = false))
    ∧ ((st5.link 1 = some l1) ∧ (st5.linkUp 1 = true)
      ∧ ((st5.cascade.subs.any fun (x : Subscription) => x.origin == 0 && x.slot == 5 && x.taker == 2) = true ∨ st5.linkFits 1 0 5 (if 0 = st5.cascade.self then exportCharge (formatCost (st5.tg (st5.exportGroup 5)).raster (st5.tg (st5.exportGroup 5)).rate) else st5.remoteCharge (24576 + 0 * 256 + 5)) = false))
    ∧ ((st5.link 1 = some l1) ∧ (st5.linkUp 1 = true)
      ∧ ((st5.cascade.subs.any fun (x : Subscription) => x.origin == 0 && x.slot == 6 && x.taker == 2) = false ∧ st5.linkFits 1 0 6 (if 0 = st5.cascade.self then exportCharge (formatCost (st5.tg (st5.exportGroup 6)).raster (st5.tg (st5.exportGroup 6)).rate) else st5.remoteCharge (24576 + 0 * 256 + 6)) = true))
    ∧ ((List.find? (fun (x : Subscription) => x.origin == 0 && x.slot == 5 && x.taker == 2) st4s.cascade.subs = some sub0) ∧ (sub0.link = some 1)
      ∧ (st4s.linkUp 1 = false))
    ∧ ((List.find? (fun (x : Subscription) => x.origin == 0 && x.slot == 5 && x.taker == 2) st5.cascade.subs = some sub0)
      ∧ (st5.linkUp 0 = true ∧ st5.linkFits 0 0 5 sub0.charge = true ∧ sub0.link ≠ some 0)) :=
  ⟨⟨by decide +kernel, by decide +kernel, by decide +kernel, by decide +kernel, by decide +kernel⟩,
    ⟨by decide +kernel, by decide +kernel, by decide +kernel, by decide +kernel⟩,
    ⟨by decide +kernel, by decide +kernel, by decide +kernel, by decide +kernel⟩,
    ⟨by decide +kernel, by decide +kernel, by decide +kernel⟩,
    ⟨by decide +kernel, by decide +kernel, by decide +kernel⟩,
    ⟨by decide +kernel, by decide +kernel, by decide +kernel⟩,
    ⟨by decide +kernel, by decide +kernel⟩⟩

end CascadeRows

namespace Boot

def pr : PassRec := { dest := 1, primary := 2, backup := 3, iface := 3, loss := 0, swing := 8, pre := 0, post := 0, flags := 0, seed1 := 1, seed2 := 2, reserved := 0 }
def nm : NlMap := { length := 56, quads := [(0, 0)], passes := [pr] }
def cp (b : Body) : Copy := { seq := 1, commit := 0, ok := true, hmacOk := true, body := b }
def s0 : State := after (execPorstNRelease State.reset) State.reset
def sm (m : NlMap) : State := { s0 with store := { s0.store with recs := [(2, { a := some (cp (.map m)), b := none })] } }
def s1 := after (execMramReadable [] (sm nm)) (sm nm)
def goodP : Package := { pkg with magic := 0x54464931, format := 1, signatures := 3, p384Ok := true, mldsaOk := true, keyHash := 0, authority := 0, hashOk := [true,true,true,true], version := 5, commit := 4, build := 77 }
def s2 : State := after (execPcieLinkUp s1) s1
def s2g : State := { s2 with flash := { s2.flash with slots := [some goodP, none], active := 0 }, lantern := { s2.lantern with fuses := { s2.lantern.fuses with authorities := [0], dual := false } } }
def s2b : State := { s2g with flash := { s2g.flash with slots := [some { goodP with hashOk := [false] }, none] } }
def badP := { goodP with hashOk := [true, false, true, true] }
def s2c : State := { s2g with flash := { s2g.flash with slots := [some badP, none] } }
def s3c := after (execLanternSelfTestDone true s2c) s2c
def s3 := after (execLanternSelfTestDone true s2g) s2g
def sW : State := after (execComponentVerifyFailed { s3c with flash := { s3c.flash with tried := [1,0] } }) s3c
def rImg : Request := { dmaReq [] (zeros 100) with major := 0, minor := 0 }
def s4 := after (execHbmTrained [1] s3) s3
def s5 := after (execFirmwareStart [] [] s4) s4
def ps (b l1 l2 sw lv : Bool) (ad : Nat) (fo : Int) : Pass := { record := pr, onBackup := b, lock1 := l1, lock2 := l2, switched := sw, live := lv, adopt := ad, follow := fo }
def sp (s : State) (p : Pass) : State := { s with boot := { s.boot with passes := [p, { p with record := { pr with dest := 9 } }] } }
def sA (x : Dest) : State := (sp served (ps false true true false true 0 0)).setDest 1 x
def input0 : State := { served with boot := { served.boot with porstN := false } }
def input1 : State := { served with boot := { served.boot with railBad := true } }
def input2 : Request := req (zeros 8)
def input3 : State := { served with boot := { served.boot with restart := some 0 } }
def input5 : State := sm nm
def input6 : State := sm { nm with length := 57 }
def input7 : NlMap := { nm with length := 57 }
def input9 : Package := { goodP with hashOk := [false] }
def input10 : State := { s3c with flash := { s3c.flash with tried := [1,0] } }
def input13 : Pass := ps false false false false false 0 0
def input14 : State := sp s1 (ps false false false false false 0 0)
def input15 : Pass := ps false false true false false 0 0
def input16 : State := sp s1 (ps false false true false false 0 0)
def input17 : Pass := ps false true true false true 0 0
def input18 : State := sp s1 (ps false true true false true 0 0)
def input21 : State := sA { source := 2, lane := true }
def input22 : State := sA { source := 5, lane := false }
def input23 : Pass := ps false true true false true 1 0
def input24 : State := sp served (ps false true true false true 1 0)
def input25 : Pass := ps false true true false true 1 1
def input26 : State := sp served (ps false true true false true 1 1)
def input27 : Request := req (bytes [4,0,1,0,0,0,0,0])
def input28 : State := { served with health := { served.health with fences := [⟨1, 4, 2⟩] } }

/-- Inputs of `Obligations.ResetsLeaveWhatMramHolds`. -/
theorem witness_ResetsLeaveWhatMramHolds :
    ((input3.pending = []) ∧ (input3.health.tripped = false) ∧ (input3.boot.restart = some 0))
    ∧ ((served.store.commit = none) ∧ (served.boot.porstN = true))
    ∧ ((input0.store.commit = none) ∧ (input0.boot.porstN = false))
    ∧ (served.boot.porstN = false ∨ served.boot.railBad = false)
    ∧ ((input1.boot.porstN = true ∧ input1.boot.railBad = true))
    ∧ (State.reset.boot.porstN = false)
    ∧ (deviceRestart.executes input2 served = true) :=
  ⟨⟨by decide +kernel, by decide +kernel, by decide +kernel⟩,
    ⟨by decide +kernel, by decide +kernel⟩,
    ⟨by decide +kernel, by decide +kernel⟩,
    by decide +kernel,
    by decide +kernel,
    by decide +kernel,
    by decide +kernel⟩

/-- Inputs of `Obligations.TheBootChainFollowsItsStages`. -/
theorem witness_TheBootChainFollowsItsStages :
    ((sW.service rImg.view rImg.mailbox = Service.boot) ∧ (sW.boot.stage = 16) ∧ (rImg.view = View.pf0) ∧ (rImg.mailbox = 0)
      ∧ ((sW.mailbox 0).state ≠ MbState.submitted) ∧ ((sW.mailbox 0).state ≠ MbState.accepted) ∧ (rImg.major = 0) ∧ (rImg.minor = 0)
      ∧ (requestIsDma rImg = true) ∧ (dmaValid rImg.payload = true) ∧ (List.length rImg.payload = 8 + 16 * (u16 rImg.payload 0 + u16 rImg.payload 2))
      ∧ (rImg.reserved = 0) ∧ (flagsValid rImg.flags.toNat = true) ∧ (rImg.atFrame = 0) ∧ (rImg.atLine = 0) ∧ (rImg.group = 0)
      ∧ (rImg.dma.readFails = false) ∧ (sW.verifies (Package.parse (padTo (dmaRequestLen rImg.payload) rImg.dma.data)) = false))
    ∧ ((s2g.lantern.state = 0) ∧ (s2g.boot.porstN = true) ∧ (s2g.boot.stage = 3) ∧ (s2g.lantern.ballLow = false) ∧ (s2g.flash.tried = [])
      ∧ (s2g.flash.active ≤ 1) ∧ (s2g.flash.slots[s2g.flash.active]? = some (some goodP)) ∧ (s2g.stage1Ok goodP = true))
    ∧ ((s2b.lantern.state = 0) ∧ (s2b.boot.porstN = true) ∧ (s2b.boot.stage = 3) ∧ (s2b.lantern.ballLow = false) ∧ (s2b.flash.tried = [])
      ∧ (s2b.flash.active ≤ 1) ∧ (s2b.flash.slots[s2b.flash.active]? = some (some input9))
      ∧ (s2b.stage1Ok input9 = false ∧ s2b.flash.slots[1 - s2b.flash.active]? = some none))
    ∧ ((input5.boot.porstN = true) ∧ (input5.boot.railBad = false) ∧ (input5.boot.stage = 0) ∧ (input5.store.body 2 = some (Body.map nm))
      ∧ (nm.valid = true))
    ∧ ((input6.boot.porstN = true) ∧ (input6.boot.railBad = false) ∧ (input6.boot.stage = 0) ∧ (input6.store.body 2 = some (Body.map input7))
      ∧ (input7.valid = false))
    ∧ ((input10.boot.stage = 4 ∨ input10.boot.stage = 5) ∧ (input10.flash.trying = some 0) ∧ (input10.bootPackage = some badP)
      ∧ (badP.hashOk.all id = false ∧ input10.flash.tried.contains 0 = true ∧ input10.flash.tried.contains 1 = true ∧ input10.flash.active ≤ 1))
    ∧ ((s3.boot.stage = 4 ∨ s3.boot.stage = 5) ∧ (s3.flash.trying = some 0) ∧ (s3.bootPackage = some goodP) ∧ (goodP.hashOk.all id = true))
    ∧ ((s4.boot.stage = 5) ∧ (s4.bootPackage = some goodP) ∧ (goodP.hashOk.all id = true) ∧ (2 ≤ s4.store.counters.length))
    ∧ ((s1.boot.porstN = true) ∧ (2 ≤ s1.boot.stage))
    ∧ (s3.boot.stage = 4)
    ∧ (s5.boot.stage = 6)
    ∧ (s4.boot.stage ≠ 6) :=
  ⟨⟨by decide +kernel, by decide +kernel, by decide +kernel, by decide +kernel, by decide +kernel, by decide +kernel, by decide +kernel,
    by decide +kernel, by decide +kernel, by decide +kernel, by decide +kernel, by decide +kernel, by decide +kernel, by decide +kernel,
    by decide +kernel, by decide +kernel, by decide +kernel, by decide +kernel⟩,
    ⟨by decide +kernel, by decide +kernel, by decide +kernel, by decide +kernel, by decide +kernel, by decide +kernel, by decide +kernel,
    by decide +kernel⟩,
    ⟨by decide +kernel, by decide +kernel, by decide +kernel, by decide +kernel, by decide +kernel, by decide +kernel, by decide +kernel,
    by decide +kernel⟩,
    ⟨by decide +kernel, by decide +kernel, by decide +kernel, by decide +kernel, by decide +kernel⟩,
    ⟨by decide +kernel, by decide +kernel, by decide +kernel, by decide +kernel, by decide +kernel⟩,
    ⟨by decide +kernel, by decide +kernel, by decide +kernel, by decide +kernel⟩,
    ⟨by decide +kernel, by decide +kernel, by decide +kernel, by decide +kernel⟩,
    ⟨by decide +kernel, by decide +kernel, by decide +kernel, by decide +kernel⟩,
    ⟨by decide +kernel, by decide +kernel⟩,
    by decide +kernel,
    by decide +kernel,
    by decide +kernel⟩

/-- Inputs of `Obligations.NightlightPassesRunAndAreAdopted`. -/
theorem witness_NightlightPassesRunAndAreAdopted :
    ((input14.pass 1 = some input13) ∧ (input13.record.backup ≠ 65535))
    ∧ ((input16.pass 1 = some input15) ∧ (input15.live = false ∧ input15.lock1 = false ∧ input15.lock2 = true))
    ∧ ((input14.pass 1 = some input13) ∧ (input13.live = true ∨ input13.lock1 = true ∨ input13.lock2 = false))
    ∧ ((input18.pass 1 = some input17) ∧ (input17.live = true ∧ input17.locked = true ∧ input18.fwRunning = false))
    ∧ ((input21.pass 1 = some input17) ∧ (input21.boot.stage = 7 ∧ input17.live = true ∧ input17.adopt = 0 ∧ input21.adoptKind input17 = 0))
    ∧ ((input22.pass 1 = some input17) ∧ (input22.boot.stage = 7 ∧ input17.live = true ∧ input17.adopt = 0 ∧ input22.adoptKind input17 = 2))
    ∧ ((input18.pass 1 = some input17) ∧ (input18.boot.stage ≠ 7 ∨ input17.live = false ∨ input17.adopt ≠ 0))
    ∧ ((input24.pass 1 = some input23) ∧ (input23.adopt = 1 ∧ input23.follow = 0))
    ∧ ((input26.pass 1 = some input25) ∧ (input25.adopt ≠ 1 ∨ input25.follow ≠ 0))
    ∧ ((nightlightPolicySet.executes input27 served = true) ∧ ((nightlightPolicySet.taken input27 served).fenced 1 (u16 input27.payload 0) = false))
    ∧ ((nightlightPolicySet.executes input27 input28 = true) ∧ ((nightlightPolicySet.taken input27 input28).fenced 1 (u16 input27.payload 0) = true)) :=
  ⟨⟨by decide +kernel, by decide +kernel⟩,
    ⟨by decide +kernel, by decide +kernel⟩,
    ⟨by decide +kernel, by decide +kernel⟩,
    ⟨by decide +kernel, by decide +kernel⟩,
    ⟨by decide +kernel, by decide +kernel⟩,
    ⟨by decide +kernel, by decide +kernel⟩,
    ⟨by decide +kernel, by decide +kernel⟩,
    ⟨by decide +kernel, by decide +kernel⟩,
    ⟨by decide +kernel, by decide +kernel⟩,
    ⟨by decide +kernel, by decide +kernel⟩,
    ⟨by decide +kernel, by decide +kernel⟩⟩

/-- Inputs of `Obligations.TheBootChainFollowsItsStages` for an image that is pushed and verifies. -/
theorem witness_BootImagePush (h : sW.verifies (Package.parse (padTo (dmaRequestLen rImg.payload) rImg.dma.data)) = true) :
    (sW.service rImg.view rImg.mailbox = Service.boot) ∧ (sW.boot.stage = 16) ∧ ((sW.mailbox 0).state ≠ MbState.submitted)
    ∧ ((sW.mailbox 0).state ≠ MbState.accepted) ∧ (requestIsDma rImg = true) ∧ (dmaValid rImg.payload = true)
    ∧ (rImg.payload.length = 8 + 16 * (u16 rImg.payload 0 + u16 rImg.payload 2)) ∧ (flagsValid rImg.flags.toNat = true)
    ∧ (sW.verifies (Package.parse (padTo (dmaRequestLen rImg.payload) rImg.dma.data)) = true) :=
  ⟨by decide +kernel, by decide +kernel, by decide +kernel, by decide +kernel, by decide +kernel, by decide +kernel, by decide +kernel,
    by decide +kernel, h⟩

end Boot

namespace BootMore

def pr : PassRec := { dest := 1, primary := 2, backup := 3, iface := 3, loss := 0, swing := 8, pre := 0, post := 0, flags := 0, seed1 := 1, seed2 := 2, reserved := 0 }
def ps (b l1 l2 sw lv : Bool) (ad : Nat) (fo : Int) : Pass := { record := pr, onBackup := b, lock1 := l1, lock2 := l2, switched := sw, live := lv, adopt := ad, follow := fo }
def sp (s : State) (p : Pass) : State := { s with boot := { s.boot with passes := [p, { p with record := { pr with dest := 9 } }] } }
def sA (x : Dest) : State := (sp served (ps false true true false true 0 0)).setDest 1 x
def sB2 : State := { (sA { source := 2, lane := false }) with signals := { (sA {}).signals with syncs := [(16, {pos := some 0})], inputs := [(2, { loss := 0, link := 0 })] } }
def w17b_0 : Pass := ps false true true false true 0 0

/-- Inputs of `Obligations.NightlightPassesRunAndAreAdopted`. -/
theorem witness_NightlightPassesRunAndAreAdopted :
    (sB2.pass 1 = some w17b_0) ∧ (sB2.boot.stage = 7 ∧ w17b_0.live = true ∧ w17b_0.adopt = 0 ∧ sB2.adoptKind w17b_0 = 1 ∧ sB2.syncSelected 1 = true) :=
  ⟨by decide +kernel, by decide +kernel⟩

end BootMore

namespace LanternRows

def s1 := after (execCoChallenge (req []) served) served
def rCo : Request := dmaReq (zeros 104) (zeros 2688)
def s1o : State := { s1 with lantern := { s1.lantern with fuses := { s1.lantern.fuses with officers := [some 0, none] } } }
def n1 : Nonce := match s1.lantern.nonces with | n :: _ => n | _ => { session := 0, officer := true, value := 0, since := 0 }
def sL : State := { served with lantern := { served.lantern with lockout := [some 5, none] } }
def keyP : Bytes := zeros 8 ++ List.replicate 2688 1
def sK : State := { served with lantern := { served.lantern with slots := [(3, { handle := 9, transmit := true }), (4, { handle := 10, transmit := false })] } }
def rOffer : Request := req (bytes [0,1,0,1,0,0,0,0] ++ List.replicate 48 7 ++ zeros 200)
def sX := after (execStreamKeyEstablish rOffer served) served
def sXp : State := { sX with store := { sX.store with recs := [(0x18, { a := some { seq := 1, commit := 0, body := .peers [(0, zeros 96)], ok := true, hmacOk := true }, b := none })] } }
def rAcc : Request := req (bytes [1,1,0,1] ++ le 4 1 ++ zeros 248)
def ex1 : Exchange := match sX.lantern.exchanges with | x :: _ => x | _ => { id := 0, context := [], side := 0, own := [], since := 0 }
def sZ := after (execZeroize (req (zeros 8)) served) served
def input0 : Request := req []
def input1 : State := { served with lantern := { served.lantern with state := 2 } }
def input4 : State := { sL with time := { sL.time with dt := 5 } }
def input7 : Request := req (bytes [1,0,0,0,0,0,0,0])
def input8 : Request := req (bytes [1,0,0,0,0,0,0,0] ++ zeros 2688)
def input9 : Request := req (bytes [1,0,0,0,0,0,0,0] ++ zeros 96)
def input12 : Request := req (zeros 8)
def input13 : Request := req (List.replicate 48 7)
def input14 : Request := req (bytes [9,0,0,0,0,0,0,0])
def input16 : Nat × KeySlot := (3, { handle := 9, transmit := true })
def input17 : Nat × KeySlot := (3, { handle := 9, transmit := true, packets := 2^31 })
def input18 : State := { sK with lantern := { sK.lantern with slots := [(3, { handle := 9, transmit := true, packets := 2^31 })] } }
def input19 : State := served.setRx 3 { (served.rx 3) with oldKey := some 4 }
def input20 : State := { sX with lantern := { sX.lantern with state := 3 } }
def input21 : State := { served with lantern := { served.lantern with exchanges := List.replicate 64 { id := 9, context := [], side := 0, own := [], since := 0 } } }

/-- Inputs of `Obligations.RolesAreGrantedByChallengeAndResponse`. -/
theorem witness_RolesAreGrantedByChallengeAndResponse :
    (((if true = true then coRespond else userRespond served.lantern.fuses.dual).executes rCo served = true) ∧ (served.lantern.state = 1)
      ∧ (served.lantern.fuses.decommissioned = false) ∧ (served.lantern.locked (b2n !true) served.time.dt = false) ∧ (served.lantern.failures.length = 2)
      ∧ (served.lantern.lockout.length = 2)
      ∧ (∀ (n : Nonce), List.find? (fun (n : Nonce) => n.session == ((if true = true then coRespond else userRespond served.lantern.fuses.dual).work rCo served).session && n.officer == true) served.lantern.nonces = some n → ¬(served.time.dt ≤ n.since + 60 * 1000000000
      ∧ (if true = true then ((if true = true then coRespond else userRespond served.lantern.fuses.dual).taken rCo served).officerValid (challengeMessage true n.value ((if true = true then coRespond else userRespond served.lantern.fuses.dual).work rCo served).session) ((if true = true then coRespond else userRespond served.lantern.fuses.dual).work rCo served).args ((if true = true then coRespond else userRespond served.lantern.fuses.dual).work rCo served).data else ((if true = true then coRespond else userRespond served.lantern.fuses.dual).taken rCo served).userValid (challengeMessage true n.value ((if true = true then coRespond else userRespond served.lantern.fuses.dual).work rCo served).session) ((if true = true then coRespond else userRespond served.lantern.fuses.dual).work rCo served).args ((if true = true then coRespond else userRespond served.lantern.fuses.dual).work rCo served).data) = true)))
    ∧ (((if true = true then coChallenge else userChallenge).executes input0 served = true)
      ∧ (served.lantern.state = 1 ∧ served.lantern.fuses.decommissioned = false))
    ∧ (((if false = true then coChallenge else userChallenge).executes input0 input1 = true)
      ∧ (input1.lantern.state ≠ 1 ∨ input1.lantern.fuses.decommissioned = true))
    ∧ ((sL.lantern.lockout.getD (b2n !true) none = some 5) ∧ (sL.time.dt < 5))
    ∧ ((input4.lantern.lockout.getD (b2n !true) none = some 5) ∧ (5 ≤ input4.time.dt)) :=
  ⟨⟨by decide +kernel, by decide +kernel, by decide +kernel, by decide +kernel, by decide +kernel, by decide +kernel, by intro n h; cases h⟩,
    ⟨by decide +kernel, by decide +kernel⟩,
    ⟨by decide +kernel, by decide +kernel⟩,
    ⟨by decide +kernel, by decide +kernel⟩,
    ⟨by decide +kernel, by decide +kernel⟩⟩

/-- Inputs of `Obligations.LanternServicesRun`. -/
theorem witness_LanternServicesRun :
    ((sX.lantern.state = 1) ∧ (streamKeyEstablish.executes rAcc sX = true) ∧ (sX.lantern.fuses.decommissioned = false) ∧ (u8 rAcc.payload 0 = 1)
      ∧ (List.find? (fun (y : Exchange) => y.id == u32 rAcc.payload 4) sX.lantern.exchanges = some ex1)
      ∧ (ex1.since + 30 * 1000000000 < sX.time.dt ∨ Config.onCurve (slice rAcc.payload 56 96) = false ∨ sX.peerKey (u8 rAcc.payload 2) = none))
    ∧ ((served.lantern.state = 1) ∧ (streamKeyEstablish.executes rOffer served = true) ∧ (served.lantern.fuses.decommissioned = false)
      ∧ (u8 rOffer.payload 0 = 0) ∧ (served.lantern.exchanges.length < 64))
    ∧ ((input21.lantern.state = 1) ∧ (streamKeyEstablish.executes rOffer input21 = true) ∧ (input21.lantern.fuses.decommissioned = false)
      ∧ (u8 rOffer.payload 0 = 0) ∧ (64 ≤ input21.lantern.exchanges.length))
    ∧ ((served.lantern.state = 1) ∧ (zeroize.executes input12 served = true) ∧ (served.ccp.jobs = []) ∧ (u8 input12.payload 0 = 0))
    ∧ ((served.lantern.state = 1) ∧ (served.lantern.fuses.dual = false) ∧ (served.lantern.fuses.decommissioned = false)
      ∧ ((attest false).executes input13 served = true))
    ∧ ((served.lantern.state = 1) ∧ (fusePolicySet.executes input7 served = true))
    ∧ ((served.lantern.state = 1) ∧ (userKeySet.executes input8 served = true))
    ∧ ((served.lantern.state = 1) ∧ (peerKeySet.executes input9 served = true))
    ∧ ((served.lantern.state = 1) ∧ (selfTestRun.executes input0 served = true))
    ∧ ((served.lantern.state = 1) ∧ (registerLock.executes input7 served = true))
    ∧ ((sK.lantern.state = 1) ∧ (streamKeyWithdraw.executes input14 sK = true)) :=
  ⟨⟨by decide +kernel, by decide +kernel, by decide +kernel, by decide +kernel, rfl, .inr (.inr (by decide +kernel))⟩,
    ⟨by decide +kernel, by decide +kernel, by decide +kernel, by decide +kernel, by decide +kernel⟩,
    ⟨by decide +kernel, by decide +kernel, by decide +kernel, by decide +kernel, by decide +kernel⟩,
    ⟨by decide +kernel, by decide +kernel, by decide +kernel, by decide +kernel⟩,
    ⟨by decide +kernel, by decide +kernel, by decide +kernel, by decide +kernel⟩,
    ⟨by decide +kernel, by decide +kernel⟩,
    ⟨by decide +kernel, by decide +kernel⟩,
    ⟨by decide +kernel, by decide +kernel⟩,
    ⟨by decide +kernel, by decide +kernel⟩,
    ⟨by decide +kernel, by decide +kernel⟩,
    ⟨by decide +kernel, by decide +kernel⟩⟩

/-- Inputs of `Obligations.LanternEventsZeroiseAndSeal`. -/
theorem witness_LanternEventsZeroiseAndSeal :
    ((sX.ccp.jobs = []) ∧ (sX.lantern.state = 1) ∧ (1 ≤ 1) ∧ (1 ≤ 5) ∧ (sX.boot.porstN = true))
    ∧ ((List.find? (fun (x : Nat × KeySlot) => x.fst == 3) sK.lantern.slots = some input16) ∧ (input16.snd.packets < 2 ^ 31))
    ∧ ((List.find? (fun (x : Nat × KeySlot) => x.fst == 3) input18.lantern.slots = some input17) ∧ (2 ^ 31 ≤ input17.snd.packets))
    ∧ ((sZ.lantern.state = 2) ∧ (sZ.boot.stage ≠ 3))
    ∧ ((sZ.journal.epoch ≠ 0) ∧ (sZ.lantern.state = 2))
    ∧ ((sX.journal.epoch ≠ 0) ∧ (sX.lantern.state = 1 ∧ sX.lantern.fuses.decommissioned = false ∧ sX.journal.open_ ≠ []))
    ∧ ((input20.journal.epoch ≠ 0) ∧ (input20.lantern.state ≠ 2 ∧ (input20.lantern.state ≠ 1 ∨ input20.lantern.fuses.decommissioned = true)))
    ∧ ((input19.rx 3).oldKey.isSome = true)
    ∧ (input20.lantern.state = 3) :=
  ⟨⟨by decide +kernel, by decide +kernel, by decide +kernel, by decide +kernel, by decide +kernel⟩,
    ⟨by decide +kernel, by decide +kernel⟩,
    ⟨by decide +kernel, by decide +kernel⟩,
    ⟨by decide +kernel, by decide +kernel⟩,
    ⟨by decide +kernel, by decide +kernel⟩,
    ⟨by decide +kernel, by decide +kernel⟩,
    ⟨by decide +kernel, by decide +kernel⟩,
    by decide +kernel,
    by decide +kernel⟩

/-- The device with its Crypto Officer keys provisioned. -/
def provisioned : State := { served with lantern := { served.lantern with fuses := { served.lantern.fuses with provisioned := true } } }

/-- Inputs of `Obligations.LanternServicesRun` for CO_PROVISION, where the key is on the curve. -/
theorem witness_CoProvision (h : Config.onCurve (slice keyP 8 96) = true) :
    (coProvision.executes (req keyP) served = true) ∧ (served.lantern.state = 1)
    ∧ ((coProvision.taken (req keyP) served).fusesThen.provisioned = false)
    ∧ (coProvision.executes (req keyP) provisioned = true) ∧ (provisioned.lantern.state = 1)
    ∧ ((coProvision.taken (req keyP) provisioned).fusesThen.provisioned = true) :=
  ⟨executes_of_args _ _ _ h (by decide +kernel), by decide +kernel, by decide +kernel,
    executes_of_args _ _ _ h (by decide +kernel), by decide +kernel, by decide +kernel⟩

/-- Inputs of `Obligations.RolesAreGrantedByChallengeAndResponse` for a response that is granted, where its signature verifies. -/
theorem witness_CoRespond
    (h : (coRespond.taken rCo s1o).officerValid (challengeMessage true n1.value (coRespond.work rCo s1o).session)
      (coRespond.work rCo s1o).args (coRespond.work rCo s1o).data = true) :
    (coRespond.executes rCo s1o = true) ∧ (s1o.lantern.state = 1) ∧ (s1o.lantern.fuses.decommissioned = false)
    ∧ (s1o.lantern.locked 0 s1o.time.dt = false) ∧ (s1o.lantern.failures.length = 2) ∧ (s1o.lantern.lockout.length = 2)
    ∧ ((s1o.lantern.nonces.find? fun n => n.session == (coRespond.work rCo s1o).session && n.officer == true) = some n1)
    ∧ (s1o.time.dt ≤ n1.since + 60 * 1000000000)
    ∧ ((coRespond.taken rCo s1o).officerValid (challengeMessage true n1.value (coRespond.work rCo s1o).session)
      (coRespond.work rCo s1o).args (coRespond.work rCo s1o).data = true) :=
  ⟨by decide +kernel, by decide +kernel, by decide +kernel, by decide +kernel, by decide +kernel, by decide +kernel, rfl,
    by decide +kernel, h⟩

/-- Inputs of `Obligations.LanternServicesRun` for the second half of an exchange, where the peer's key is on the curve and its
signature verifies. -/
theorem witness_StreamKeyAccept (h : Config.onCurve (slice rAcc.payload 56 96) = true)
    (g : Config.ecdsaVerify (zeros 96) (Config.sha384 (labelSk ++ slice rAcc.payload 8 48 ++ slice rAcc.payload 56 96 ++ ex1.own))
      (sigOf (slice rAcc.payload 152 96)) = true) :
    (streamKeyEstablish.executes rAcc sXp = true) ∧ (sXp.lantern.state = 1) ∧ (sXp.lantern.fuses.decommissioned = false)
    ∧ (u8 rAcc.payload 0 = 1) ∧ ((sXp.lantern.exchanges.find? fun y => y.id == u32 rAcc.payload 4) = some ex1)
    ∧ (sXp.time.dt ≤ ex1.since + 30 * 1000000000) ∧ (Config.onCurve (slice rAcc.payload 56 96) = true)
    ∧ (sXp.peerKey (u8 rAcc.payload 2) = some (zeros 96))
    ∧ (Config.ecdsaVerify (zeros 96) (Config.sha384 (labelSk ++ slice rAcc.payload 8 48 ++ slice rAcc.payload 56 96 ++ ex1.own))
      (sigOf (slice rAcc.payload 152 96)) = true)
    ∧ (sXp.lantern.freeSlots.length = 2) :=
  ⟨by decide +kernel, by decide +kernel, by decide +kernel, by decide +kernel, rfl, by decide +kernel, h, by decide +kernel, g,
    by decide +kernel⟩

end LanternRows

namespace MemoryRows

def sB : State := served.setStack 2 { served.stack 2 with banks := [(773, { owed := 5 }), (774, { owed := 13, catchUp := true }), (775, { owed := 3, catchUp := true })] }
def sCap : State := served.mapPort 47 fun u => { u with window := 40000 }
def s15 : State := served.setStack (served.stackOf 4096) { served.stack (served.stackOf 4096) with recent := List.replicate 15 served.time.dt }
def surf (h a n : Nat) (st : SurfState) (s : State) : State := s.setSurface h { addr := a, size := n, stride := 64, width := 4, height := 4, format := 0, layout := 0, state := st, ready := true }
def sS := surf 9 4096 4096 .active (surf 8 0 4096 .idle served)
def e8 : Nat × Surface := match sS.surfaceAt 5 with | some e => e | none => (0, {addr := 0, size := 1, stride := 64, width := 4, height := 4, format := 0, layout := 0})
def e9 : Nat × Surface := match sS.surfaceAt 5000 with | some e => e | none => e8
def encX : Enc := { cfg := zeros 44, cores := [], rate := 20000, effort := 1, period := 60, minQp := 0, pool := [] }
def decX : Dec := { cfg := zeros 32, cores := [], delay := 0, lossMode := 0, lossTimeout := 3, pool := [] }
def input0 : Request := req (le 8 0x300000)
def input1 : Request := req (bytes [45,0,7,0,9,0,0,0])
def input4 : State := sB.setStack 2 {}
def input5 : Stack := sB.stack 2
def input8 : Bytes := bytes [1,0,3]
def input9 : Stack := ({} : Stack)
def input10 : State := (served.setEnc 3 encX)
def input11 : State := (served.setDec 3 decX)

/-- Inputs of `Obligations.MemoryIsManagedAndScrubbed` (memory commands take effect at once). -/
theorem witness_MemoryCommandsTakeEffectAtOnce :
    (apertureSet.executes input0 served = true)
    ∧ (memoryQosSet.executes input1 served = true) :=
  ⟨by decide +kernel,
    by decide +kernel⟩

/-- Inputs of `Obligations.AddressDecodingIsOneToOne`. -/
theorem witness_AddressDecodingIsOneToOne :
    ((1 ≤ 3) ∧ (3 ≤ 4) ∧ (1192960 < 3 * 2 ^ 34) ∧ (1192960 < 3 * 2 ^ 34) ∧ (decodeAddress 3 1192960 = decodeAddress 3 1192960))
    ∧ ((1 ≤ 3) ∧ (3 ≤ 4) ∧ (2 < 3) ∧ (31 < 32) ∧ (536870911 < 2 ^ 29)) :=
  ⟨⟨by decide +kernel, by decide +kernel, by decide +kernel, by decide +kernel, by decide +kernel⟩,
    ⟨by decide +kernel, by decide +kernel, by decide +kernel, by decide +kernel, by decide +kernel⟩⟩

/-- Inputs of `Obligations.RefreshesAndPortsAreKept` (refreshes are owed and caught up). -/
theorem witness_RefreshesAreOwedAndCaughtUp :
    (((sB.stack 2).mapped = true) ∧ (0 < ((sB.stack 2).bank 773).owed))
    ∧ ((0 < (input5.bank 773).owed) ∧ ((input5.bank 773).catchUp = false))
    ∧ ((0 < (input5.bank 774).owed) ∧ ((input5.bank 774).catchUp = true))
    ∧ ((input4.stack 2).mapped = false)
    ∧ ((input9.bank 3).owed = 0) :=
  ⟨⟨by decide +kernel, by decide +kernel⟩,
    ⟨by decide +kernel, by decide +kernel⟩,
    ⟨by decide +kernel, by decide +kernel⟩,
    by decide +kernel,
    by decide +kernel⟩

/-- Inputs of `Obligations.RefreshesAndPortsAreKept` (ports are ranked capped and counted). -/
theorem witness_PortsAreRankedCappedAndCounted :
    ((30 < 48) ∧ (4096 + 256 ≤ input10.hbmEnd) ∧ (input10.capReached 30 = false)
      ∧ ((List.filter (fun (t : Nat) => decide (input10.time.dt < t + 1000000000)) (input10.stack (input10.stackOf 4096)).recent).length < 15)
      ∧ (input10.enc 3 = some encX))
    ∧ ((30 < 48) ∧ (4096 + 256 ≤ input11.hbmEnd) ∧ (input11.capReached 30 = false)
      ∧ ((List.filter (fun (t : Nat) => decide (input11.time.dt < t + 1000000000)) (input11.stack (input11.stackOf 4096)).recent).length < 15)
      ∧ (input11.dec 3 = some decX))
    ∧ ((portClass 44 = 2) ∧ (portUrgency 44 15000 = 3) ∧ (portClass 40 = 1) ∧ (portUrgency 40 1999 ≤ 1))
    ∧ ((30 < 48) ∧ (4096 + 256 ≤ served.hbmEnd) ∧ (served.capReached 30 = false)
      ∧ ((List.filter (fun (t : Nat) => decide (served.time.dt < t + 1000000000)) (served.stack (served.stackOf 4096)).recent).length < 15))
    ∧ ((47 < 48) ∧ (4096 + 256 ≤ sCap.hbmEnd) ∧ (sCap.capReached 47 = true))
    ∧ ((portClass 24 = 0) ∧ (portClass 25 ≠ 0))
    ∧ ((44 ≤ 44) ∧ (44 ≤ 47))
    ∧ ((s15.mapStacks ≠ [])
      ∧ (15 ≤ (List.filter (fun (t : Nat) => decide (s15.time.dt < t + 1000000000)) (s15.stack (s15.stackOf 4096)).recent).length))
    ∧ (1999 ≤ 3000) :=
  ⟨⟨by decide +kernel, by decide +kernel, by decide +kernel, by decide +kernel, by decide +kernel⟩,
    ⟨by decide +kernel, by decide +kernel, by decide +kernel, by decide +kernel, by decide +kernel⟩,
    ⟨by decide +kernel, by decide +kernel, by decide +kernel, by decide +kernel⟩,
    ⟨by decide +kernel, by decide +kernel, by decide +kernel, by decide +kernel⟩,
    ⟨by decide +kernel, by decide +kernel, by decide +kernel⟩,
    ⟨by decide +kernel, by decide +kernel⟩,
    ⟨by decide +kernel, by decide +kernel⟩,
    ⟨by decide +kernel, by decide +kernel⟩,
    by decide +kernel⟩

/-- Inputs of `Obligations.MemoryIsManagedAndScrubbed` (scrub and sram banks are kept). -/
theorem witness_ScrubAndSramBanksAreKept :
    (served.mapStacks ≠ [])
    ∧ (served.memory.bankState 9 ≠ 0)
    ∧ (served.memory.bankState 40 = 0)
    ∧ (9 < 48) :=
  ⟨by decide +kernel,
    by decide +kernel,
    by decide +kernel,
    by decide +kernel⟩

/-- Inputs of `Obligations.TheApertureReachesSurfacesOnly`. -/
theorem witness_TheApertureReachesSurfacesOnly :
    ((sS.boot.pcieUp = true) ∧ (5 + List.length input8 ≤ 268435456) ∧ (sS.capReached 44 = false) ∧ (sS.memory.aperture + 5 + List.length input8 ≤ sS.hbmEnd)
      ∧ (sS.memory.wf = true) ∧ (input8 ≠ []) ∧ (sS.surfaceAt (sS.memory.aperture + 5) = some e8)
      ∧ (∀ (i : Nat), i < List.length input8 → sS.surfaceAt (sS.memory.aperture + 5 + i) = some e8) ∧ (e8.snd.state = SurfState.idle))
    ∧ ((sS.boot.pcieUp = true) ∧ (5000 + List.length input8 ≤ 268435456) ∧ (sS.capReached 44 = false)
      ∧ (sS.memory.aperture + 5000 + List.length input8 ≤ sS.hbmEnd) ∧ (sS.memory.wf = true) ∧ (input8 ≠ [])
      ∧ (sS.surfaceAt (sS.memory.aperture + 5000) = some e9)
      ∧ (∀ (i : Nat), i < List.length input8 → sS.surfaceAt (sS.memory.aperture + 5000 + i) = some e9) ∧ (e9.snd.state ≠ SurfState.idle))
    ∧ ((sS.boot.pcieUp = true) ∧ (9000 + List.length input8 ≤ 268435456) ∧ (sS.capReached 44 = false)
      ∧ (sS.memory.aperture + 9000 + List.length input8 ≤ sS.hbmEnd) ∧ (sS.memory.wf = true) ∧ (input8 ≠ [])
      ∧ (∀ (i : Nat), i < List.length input8 → sS.surfaceAt (sS.memory.aperture + 9000 + i) = none))
    ∧ ((sS.boot.pcieUp = true) ∧ (4000 + 200 ≤ 268435456) ∧ (sS.capReached 44 = false) ∧ (sS.memory.aperture + 4000 + 200 ≤ sS.hbmEnd)) :=
  ⟨⟨by decide +kernel, by decide +kernel, by decide +kernel, by decide +kernel, by decide +kernel, by decide +kernel, by decide +kernel,
    by decide +kernel, by decide +kernel⟩,
    ⟨by decide +kernel, by decide +kernel, by decide +kernel, by decide +kernel, by decide +kernel, by decide +kernel, by decide +kernel,
    by decide +kernel, by decide +kernel⟩,
    ⟨by decide +kernel, by decide +kernel, by decide +kernel, by decide +kernel, by decide +kernel, by decide +kernel, by decide +kernel⟩,
    ⟨by decide +kernel, by decide +kernel, by decide +kernel, by decide +kernel⟩⟩

end MemoryRows

namespace Store

def rC := req (zeros 8)
def sClean : State := { served with store := { served.store with buffer := [], commit := none, queue := [], oldest := none } }
def sHold : State := { served with time := { served.time with dt := 10^10 }, store := { sClean.store with buffer := [gatheredOf 5 0x1A (.lock true), gatheredOf 5 0x0001 (.marker 5)], gathered := 4, oldest := some 5, waiting := false, lastFlip := none } }
def sClose : State := { sHold with store := { sHold.store with lastFlip := some (10^10) } }
def wait (s : State) : State := { s with store := { s.store with waiting := true } }
def low (s : State) : State := { s with store := { s.store with powerLow := true } }
def com (l : Bool) (s : State) : State := { s with store := { s.store with commit := some { entries := sHold.store.buffer, serial := 4, logs := [], powerFail := false, long := l } } }
def sFl := after (execNvCommit rC sHold) sHold
def cFl : Commit := match sFl.store.commit with | some c => c | none => { entries := [], serial := 4, logs := [], powerFail := false, long := false }
def jFl : Job := match sFl.ccp.jobs with | j :: _ => j | _ => (nvCommit.work rC sHold).job 1 []
def sFl2 : State := { sFl with store := { sFl.store with commit := some { cFl with serial := u64 jFl.args 0, logs := served.events.staged } } }
def cFl2 : Commit := { cFl with serial := u64 jFl.args 0, logs := served.events.staged }
def cv : Cvu := { config := 32 + 256 * 3 + 65536 * 3, poly := 0x1EDC6F41, init := 0xFFFFFFFF, xorout := 0xFFFFFFFF, length := 5, ctrl := 15, expect := 7 }
def sV : State := served.setCvu 2 cv
def rS (n len flags : Nat) := req (le 1 n ++ le 1 3 ++ le 1 32 ++ le 1 flags ++ zeros 4 ++ le 8 0x1EDC6F41 ++ le 8 0xFFFFFFFF ++ le 8 0xFFFFFFFF ++ le 8 0 ++ le 8 len ++ le 8 9)
def sAllB := [2,3,4,5,6,7].foldl (fun s n => s.setCvu n { cv with busy := true }) sV
def sHd := after (execCvuScan (rS 3 9 11) sV) sV
def jHd : Job := match sHd.ccp.jobs with | j :: _ => j | _ => jFl
def input0 : State := { sClose with time := { sClose.time with dt := 6 } }
def input1 : State := wait sHold
def input2 : State := wait sClose
def input3 : State := com false sHold
def input4 : Commit := { entries := sHold.store.buffer, serial := 4, logs := [], powerFail := false, long := false }
def input5 : State := com true sHold
def input6 : Commit := { entries := sHold.store.buffer, serial := 4, logs := [], powerFail := false, long := true }
def input7 : State := low (wait sHold)
def input8 : State := low (wait sClose)
def input9 : State := low (com false sHold)
def input10 : State := sV.setCvu 2 { cv with length := 0 }
def input11 : State := sV.setCvu 2 { cv with config := 0 }
def input12 : State := sV.setCvu 2 { cv with busy := true }
def input13 : State := sV.setCvu 2 { cv with busy := true, holder := some 3 }
def input17 : State := sV.setCvu 2 { cv with busy := true, config := 32 + 256 * 3 }
def input19 : Request := rS 255 9 15
def input21 : Request := rS 3 0 15
def input22 : Request := rS 2 0 15
def input23 : Request := rS 255 0 15

/-- Inputs of `Obligations.TheStoreCommitsAtomically` (commits start when they are due). -/
theorem witness_CommitsStartWhenTheyAreDue :
    ((sHold.store.oldest = some 5) ∧ (sHold.store.commit = none ∧ sHold.store.buffer ≠ []) ∧ (5 + 100000000 ≤ sHold.time.dt)
      ∧ (sHold.store.powerLow = false) ∧ (Option.all (fun (f : Nat) => decide (f + 50000000 < sHold.time.dt)) sHold.store.lastFlip = true))
    ∧ ((sClose.store.oldest = some 5) ∧ (sClose.store.commit = none ∧ sClose.store.buffer ≠ []) ∧ (5 + 100000000 ≤ sClose.time.dt)
      ∧ (sClose.store.powerLow = true ∨ ¬Option.all (fun (f : Nat) => decide (f + 50000000 < sClose.time.dt)) sClose.store.lastFlip = true))
    ∧ ((input1.store.commit = none ∧ input1.store.buffer ≠ []) ∧ (input1.store.waiting = true) ∧ (input1.store.powerLow = false)
      ∧ (Option.all (fun (f : Nat) => decide (f + 50000000 < input1.time.dt)) input1.store.lastFlip = true))
    ∧ ((∀ (n : Nat), (sClean.cvu n).busy = false) ∧ (sClean.store.powerLow = false) ∧ (sClean.store.commit = none) ∧ (sClean.store.buffer = []))
    ∧ ((∀ (n : Nat), (input3.cvu n).busy = false) ∧ (input3.store.powerLow = false) ∧ (input3.store.commit = some input4) ∧ (input4.long = false))
    ∧ ((∀ (n : Nat), (input5.cvu n).busy = false) ∧ (input5.store.powerLow = false) ∧ (input5.store.commit = some input6) ∧ (input6.long = true))
    ∧ ((input7.store.powerLow = true) ∧ (input7.store.commit = none ∧ input7.store.buffer ≠ []) ∧ (input7.store.waiting = true)
      ∧ (Option.all (fun (f : Nat) => decide (f + 50000000 < input7.time.dt)) input7.store.lastFlip = true))
    ∧ ((input8.store.powerLow = true) ∧ (input8.store.commit = none ∧ input8.store.buffer ≠ []) ∧ (input8.store.waiting = true)
      ∧ (¬Option.all (fun (f : Nat) => decide (f + 50000000 < input8.time.dt)) input8.store.lastFlip = true))
    ∧ ((input0.store.oldest = some 5) ∧ (input0.store.commit = none ∧ input0.store.buffer ≠ []) ∧ (input0.time.dt < 5 + 100000000))
    ∧ ((∀ (n : Nat), (input2.cvu n).busy = false) ∧ (input2.store.powerLow = false) ∧ (input2.store.commit = none ∧ input2.store.buffer ≠ []))
    ∧ ((nvCommit.executes rC sClean = true) ∧ (sClean.store.clean = true))
    ∧ ((nvCommit.executes rC sHold = true) ∧ (sHold.store.clean = false))
    ∧ ((input2.store.commit = none ∧ input2.store.buffer ≠ [])
      ∧ (input2.store.waiting = false ∨ input2.store.powerLow = true ∨ ¬Option.all (fun (f : Nat) => decide (f + 50000000 < input2.time.dt)) input2.store.lastFlip = true))
    ∧ ((input9.store.powerLow = true) ∧ (input9.store.commit = some input4)) :=
  ⟨⟨by decide +kernel, by decide +kernel, by decide +kernel, by decide +kernel, by decide +kernel⟩,
    ⟨by decide +kernel, by decide +kernel, by decide +kernel, by decide +kernel⟩,
    ⟨by decide +kernel, by decide +kernel, by decide +kernel, by decide +kernel⟩,
    ⟨fun _ => rfl, by decide +kernel, by decide +kernel, by decide +kernel⟩,
    ⟨fun _ => rfl, by decide +kernel, by decide +kernel, by decide +kernel⟩,
    ⟨fun _ => rfl, by decide +kernel, by decide +kernel, by decide +kernel⟩,
    ⟨by decide +kernel, by decide +kernel, by decide +kernel, by decide +kernel⟩,
    ⟨by decide +kernel, by decide +kernel, by decide +kernel, by decide +kernel⟩,
    ⟨by decide +kernel, by decide +kernel, by decide +kernel⟩,
    ⟨fun _ => rfl, by decide +kernel, by decide +kernel⟩,
    ⟨by decide +kernel, by decide +kernel⟩,
    ⟨by decide +kernel, by decide +kernel⟩,
    ⟨by decide +kernel, by decide +kernel⟩,
    ⟨by decide +kernel, by decide +kernel⟩⟩

/-- Inputs of `Obligations.CheckUnitsScan` (scans run to their ends). -/
theorem witness_ScansRunToTheirEnds :
    ((if false = true then 2 < 2 else 2 ≤ 2 ∧ 2 < 8) ∧ ((sV.cvu 2).holder = none) ∧ ((sV.cvu 2).busy = false)
      ∧ (sV.scanOk (sV.cvu 2).space (sV.cvu 2).width (sV.cvu 2).addr (sV.cvu 2).length = true) ∧ (0 < (sV.cvu 2).length))
    ∧ ((if false = true then 2 < 2 else 2 ≤ 2 ∧ 2 < 8) ∧ ((input10.cvu 2).holder = none) ∧ ((input10.cvu 2).busy = false)
      ∧ (input10.scanOk (input10.cvu 2).space (input10.cvu 2).width (input10.cvu 2).addr (input10.cvu 2).length = true) ∧ ((input10.cvu 2).length = 0))
    ∧ ((if false = true then 2 < 2 else 2 ≤ 2 ∧ 2 < 8) ∧ ((input11.cvu 2).holder = none) ∧ ((input11.cvu 2).busy = false)
      ∧ (input11.scanOk (input11.cvu 2).space (input11.cvu 2).width (input11.cvu 2).addr (input11.cvu 2).length = false))
    ∧ (((sHd.cvu 3).busy = true) ∧ ((sHd.cvu 3).holder = some jHd.jsn) ∧ (sHd.ccp.jobs = [jHd]) ∧ (sHd.carries jHd = true))
    ∧ ((if false = true then 2 < 2 else 2 ≤ 2 ∧ 2 < 8) ∧ ((input12.cvu 2).holder = none) ∧ ((input12.cvu 2).busy = true))
    ∧ ((if false = true then 2 < 2 else 2 ≤ 2 ∧ 2 < 8) ∧ ((input13.cvu 2).busy = true) ∧ ((input13.cvu 2).holder.isSome = true))
    ∧ (((input17.cvu 2).busy = true) ∧ ((input17.cvu 2).holder = none))
    ∧ ((¬if true = true then 2 < 2 else 2 ≤ 2 ∧ 2 < 8)) :=
  ⟨⟨by decide +kernel, by decide +kernel, by decide +kernel, by decide +kernel, by decide +kernel⟩,
    ⟨by decide +kernel, by decide +kernel, by decide +kernel, by decide +kernel, by decide +kernel⟩,
    ⟨by decide +kernel, by decide +kernel, by decide +kernel, by decide +kernel⟩,
    ⟨by decide +kernel, by decide +kernel, by decide +kernel, by decide +kernel⟩,
    ⟨by decide +kernel, by decide +kernel, by decide +kernel⟩,
    ⟨by decide +kernel, by decide +kernel, by decide +kernel⟩,
    ⟨by decide +kernel, by decide +kernel⟩,
    by decide +kernel⟩

/-- Inputs of `Obligations.CheckUnitsScan` (scan commands hold their unit). -/
theorem witness_ScanCommandsHoldTheirUnit :
    ((cvuScan.executes input19 sV = true) ∧ (2 ≤ 2) ∧ (2 < 8) ∧ ((sV.cvu 2).busy = false)
      ∧ (u8 input19.payload 0 = 255 → ∀ (k : Nat), k < 2 → 2 ≤ k → (sV.cvu k).busy = true) ∧ (u8 input19.payload 0 ≠ 255 → u8 input19.payload 0 = 2)
      ∧ (0 < u64 input19.payload 40))
    ∧ ((cvuScan.executes input21 sV = true) ∧ (2 ≤ 3) ∧ (3 < 8) ∧ ((sV.cvu 3).busy = false)
      ∧ (u8 input21.payload 0 = 255 → ∀ (k : Nat), k < 3 → 2 ≤ k → (sV.cvu k).busy = true) ∧ (u8 input21.payload 0 ≠ 255 → u8 input21.payload 0 = 3)
      ∧ (u64 input21.payload 40 = 0))
    ∧ ((cvuScan.executes input22 input12 = true) ∧ (u8 input22.payload 0 ≠ 255) ∧ ((input12.cvu (u8 input22.payload 0)).busy = true))
    ∧ ((cvuScan.executes input23 sAllB = true) ∧ (u8 input23.payload 0 = 255) ∧ (∀ (n : Nat), 2 ≤ n → n < 8 → (sAllB.cvu n).busy = true)) :=
  ⟨⟨by decide +kernel, by decide +kernel, by decide +kernel, by decide +kernel, by decide +kernel, by decide +kernel, by decide +kernel⟩,
    ⟨by decide +kernel, by decide +kernel, by decide +kernel, by decide +kernel, by decide +kernel, by decide +kernel, by decide +kernel⟩,
    ⟨by decide +kernel, by decide +kernel, by decide +kernel⟩,
    ⟨by decide +kernel, by decide +kernel,
    by intro n h1 h2; have : n = 2 ∨ n = 3 ∨ n = 4 ∨ n = 5 ∨ n = 6 ∨ n = 7 := (by omega); rcases this with rfl | rfl | rfl | rfl | rfl | rfl <;> decide +kernel⟩⟩

/-- Inputs of `Obligations.TheStoreCommitsAtomically` (a flip makes a commit current). -/
theorem witness_AFlipMakesACommitCurrent :
    sFl2.store.commit = some cFl2 :=
  rfl

end Store

namespace Units

def rF (k i : Nat) (x : Nat := 0) := req (le 1 k ++ zeros 1 ++ le 2 i ++ le 1 x ++ zeros 3)
def fen (k i c : Nat) (s : State) : State := { s with health := { s.health with fences := s.health.fences ++ [{ cls := k, idx := i, cause := c }] } }
def tst (t : UnitTest) (s : State) : State := { s with health := { s.health with tests := s.health.tests ++ [t] } }
def tU : UnitTest := { cls := 5, idx := 2, code := 2, jsn := 9, auto := false, running := true, due := none }
def sF := after (execUnitFence (rF 8 1) served) served
def eF : Sched := match sF.ccp.schedule with | e :: _ => e | _ => { jsn := 1, opcode := 1, view := .pf0, session := 0, flags := 0, token := 0, major := 1, minor := 0, args := [], effect := ⟨0,0,0⟩, kind := 0, status := 0, charges := [], last := true, begun := false, atDt := none }
def sU := after (execUnitUnfence (rF 8 1) (fen 8 1 2 served)) served
def jU : Job := match sU.ccp.jobs with | j :: _ => j | _ => (unitTest.work (rF 1 1) served).job 1 []
def sU2 := after (execUnitTestComplete 8 1 true 0 sU) sU
def xU : UnitTest := match sU2.health.tests with | j :: _ => j | _ => tU
def xU1 : UnitTest := match sU.health.tests with | j :: _ => j | _ => tU
def sLast := (List.range (unitCount 8)).foldl (fun s k => if k = 3 then s else fen 8 k 2 s) served
def rA := { rF 8 2 5 with flags := 2 }
def sAu := after (execUnitTest rA served) served
def xAu : UnitTest := match sAu.health.tests with | j :: _ => j | _ => tU
def jAu : Job := match sAu.ccp.jobs with | j :: _ => j | _ => jU
def sAm := after (execAutoFenceMove 8 2 sAu) sAu
def xAm : UnitTest := match sAm.health.tests with | j :: _ => j | _ => tU
def jM (j : Job) (o : Nat) : Job := { j with opcode := o }
def sUm : State := { sU with ccp := { sU.ccp with jobs := [jM jU 0x0B03] } }
def sT : State := { served with health := { served.health with tj := 1100, steps := 6 }, boot := { served.boot with stage := 0x13, retreat := true } }
def ev (n : EventName) (sev : Nat) : EventRec := { name := n, severity := sev, src := ⟨3, 4⟩, count := 1, dt := 5, frame := 0, line := 0, tg := 255, flags := 0, detail := 0 }
def ringOn : Ring := { served.ring 1 with sizeLog := 6, enabled := true, summaries := [⟨3, 2, 9, true⟩], queue := [ev .pllFailed 0, ev .glint 0], holding := true }
def sR := { served with time := { served.time with dt := 10^9 }, events := { (served.setRing 1 ringOn).events with windows := [⟨.glint, ⟨3,4⟩, 5, 0, ev .glint 2⟩, ⟨.refLost, ⟨3,4⟩, 5, 70000, ev .refLost 2⟩] } }
def w0 : Window := ⟨.glint, ⟨3,4⟩, 5, 0, ev .glint 2⟩
def w1 : Window := ⟨.refLost, ⟨3,4⟩, 5, 70000, ev .refLost 2⟩
def rgBad : State := served.setRing 1 { served.ring 1 with sizeLog := 3 }
def rgOn : State := served.setRing 1 { served.ring 1 with sizeLog := 6, enabled := true }
def input0 : Request := rF 5 2
def input1 : Request := rF 4 2
def input2 : State := fen 5 2 2 served
def input3 : State := fen 4 2 2 served
def input4 : State := tst tU (fen 5 2 2 served)
def input5 : Nat := eF.jsn
def input7 : Nat := xU.jsn
def input8 : Nat × Nat × Nat := (xU.due.getD (0,0,0))
def input9 : State := (served.setSurface 9 { addr := 4096, size := 4096, stride := 64, width := 4, height := 4, format := 0, layout := 0, ready := true }).setSurface 10 { addr := 4 * 2^34 - 4096, size := 4096, stride := 64, width := 4, height := 4, format := 0, layout := 0, ready := true }
def input11 : Request := req (bytes [2,0,0,0] ++ le 4 5 ++ le 4 60 ++ zeros 4)
def input12 : Request := rF 5 2 2
def input14 : Request := rF 8 2 5
def input15 : State := (List.range (unitCount 8)).foldl (fun s k => if k = 2 then s else fen 8 k 2 s) served
def input16 : Job := jM jU 0x0B03
def input17 : State := (served.setPipe 1 { (served.pipe 1) with gang := 1 })
def input18 : State := { sT with health := { sT.health with tj := 1089 } }
def input19 : State := { sT with health := { sT.health with tj := 1000, steps := 1 } }
def input20 : Request := req (bytes [1,60,7,0] ++ le 4 5)
def input22 : State := { served.setRing 1 { served.ring 1 with sizeLog := 6, enabled := true } with events := { (served.setRing 1 { served.ring 1 with sizeLog := 6 }).events with toBoot := false } }
def input24 : State := served.setRing 3 { served.ring 3 with unsignalled := 4, holdoff := 3 }
def input27 : Src := ⟨3,5⟩
def input28 : Option Nat := none
def input29 : Src := ⟨3,4⟩
def input30 : State := { sR with time := served.time }
def input31 : Summary := ⟨3, 2, 9, true⟩
def input32 : State := sR.setRing 1 { ringOn with enabled := false }
def input33 : EventRec := ev .pllFailed 0
def input34 : List EventRec := [ev .glint 0] -- extra

/-- Inputs of `Obligations.UnitsAreFencedAndReturned`. -/
theorem witness_UnitsAreFencedAndReturned :
    ((∀ (e : Sched), e ∈ sU2.ccp.schedule → e.jsn ≠ input7) ∧ (sU2.health.tests = [xU]) ∧ (xU.jsn = input7) ∧ (xU.due = some input8) ∧ (xU.cls = 8)
      ∧ (sU2.ccp.jobs = [jU]) ∧ (jU.jsn = input7) ∧ (sU2.carries jU = true))
    ∧ ((1 ≤ 5) ∧ (5 ≤ 8) ∧ (served.present 5 3 = true) ∧ (served.testOf 5 3 = none) ∧ (served.health.fencedSelf 5 3 = false)
      ∧ (5 = 8 → served.lastOne 8 3 = false))
    ∧ ((unitUnfence.executes input0 input2 = true) ∧ (input2.health.fencedSelf (u8 input0.payload 0) (u16 input0.payload 2) = true)
      ∧ (u8 input0.payload 0 ≠ 4) ∧ (input2.testOf (u8 input0.payload 0) (u16 input0.payload 2) = none))
    ∧ ((unitUnfence.executes input0 input4 = true) ∧ (input4.health.fencedSelf (u8 input0.payload 0) (u16 input0.payload 2) = true)
      ∧ (u8 input0.payload 0 ≠ 4) ∧ (input4.testOf (u8 input0.payload 0) (u16 input0.payload 2) ≠ none))
    ∧ ((8 = 8) ∧ (sLast.present 8 3 = true) ∧ (sLast.testOf 8 3 = none) ∧ (sLast.lastOne 8 3 = true))
    ∧ ((input9.present 4 1 = true) ∧ (input9.testOf 4 1 = none) ∧ (input9.health.fencedSelf 4 1 = false)
      ∧ (List.Pairwise (fun (x1 x2 : Nat) => x1 < x2) (List.map (fun (e : Nat × Surface) => e.fst) input9.pictures.surfaces)))
    ∧ ((unitFence.executes input0 served = true) ∧ (served.fenced (u8 input0.payload 0) (u16 input0.payload 2) = false)
      ∧ (unitFence.mayWait input0 served (if u8 input0.payload 0 = 4 then Point.dusk else Point.frameStart) (served.unitTg (u8 input0.payload 0) (u16 input0.payload 2))))
    ∧ ((unitUnfence.executes input1 input3 = true) ∧ (input3.health.fencedSelf (u8 input1.payload 0) (u16 input1.payload 2) = true)
      ∧ (u8 input1.payload 0 = 4))
    ∧ ((unitFence.executes input0 input2 = true) ∧ (input2.fenced (u8 input0.payload 0) (u16 input0.payload 2) = true))
    ∧ ((unitUnfence.executes input0 served = true) ∧ (served.health.fencedSelf (u8 input0.payload 0) (u16 input0.payload 2) = false))
    ∧ ((List.find? (fun (x : Sched) => x.jsn == input5 && x.opcode == 2817) sF.ccp.schedule = some eF)
      ∧ (sF.health.fencedSelf (u8 eF.args 0) (u16 eF.args 2) = false))
    ∧ ((fencePolicySet.executes input11 served = true) ∧ (∀ (h : Nat × Nat × Nat), h ∈ served.health.hits → h.fst ≠ u8 input11.payload 0))
    ∧ (0 = 0 ∨ 8 < 0 ∨ served.present 0 3 = false) :=
  ⟨⟨by decide +kernel, by decide +kernel, by decide +kernel, by decide +kernel, by decide +kernel, by decide +kernel, by decide +kernel,
    by decide +kernel⟩,
    ⟨by decide +kernel, by decide +kernel, by decide +kernel, by decide +kernel, by decide +kernel, by decide +kernel⟩,
    ⟨by decide +kernel, by decide +kernel, by decide +kernel, by decide +kernel⟩,
    ⟨by decide +kernel, by decide +kernel, by decide +kernel, by decide +kernel⟩,
    ⟨by decide +kernel, by decide +kernel, by decide +kernel, by decide +kernel⟩,
    ⟨by decide +kernel, by decide +kernel, by decide +kernel, by decide +kernel⟩,
    ⟨by decide +kernel, by decide +kernel, by unfold Cmd.mayWait; decide +kernel⟩,
    ⟨by decide +kernel, by decide +kernel, by decide +kernel⟩,
    ⟨by decide +kernel, by decide +kernel⟩,
    ⟨by decide +kernel, by decide +kernel⟩,
    ⟨by decide +kernel, by decide +kernel⟩,
    ⟨by decide +kernel, by decide +kernel⟩,
    by decide +kernel⟩

/-- Inputs of `Obligations.UnitTestsHoldMoveAndReturn`. -/
theorem witness_UnitTestsHoldMoveAndReturn :
    ((sU.health.tests = [xU1]) ∧ (xU1.cls = 8) ∧ (xU1.idx = 1) ∧ (xU1.running = true) ∧ (sU.ccp.jobs = [jU]) ∧ (jU.jsn = xU1.jsn) ∧ (sU.carries jU = true)
      ∧ (xU1.auto = false) ∧ (jU.opcode = 2818) ∧ (false = false))
    ∧ ((sU.health.tests = [xU1]) ∧ (xU1.cls = 8) ∧ (xU1.idx = 1) ∧ (xU1.running = true) ∧ (sU.ccp.jobs = [jU]) ∧ (jU.jsn = xU1.jsn)
      ∧ (sU.carries jU = true) ∧ (xU1.auto = false) ∧ (jU.opcode = 2818) ∧ (true = true))
    ∧ ((sUm.health.tests = [xU1]) ∧ (xU1.cls = 8) ∧ (xU1.idx = 1) ∧ (xU1.running = true) ∧ (sUm.ccp.jobs = [input16]) ∧ (input16.jsn = xU1.jsn)
      ∧ (sUm.carries input16 = true) ∧ (xU1.auto = false) ∧ (input16.opcode = 2819))
    ∧ ((sAm.health.tests = [xAm]) ∧ (xAm.cls = 8) ∧ (xAm.idx = 2) ∧ (xAm.running = true) ∧ (sAm.ccp.jobs = [jAu]) ∧ (jAu.jsn = xAm.jsn)
      ∧ (sAm.carries jAu = true) ∧ (xAm.auto = true))
    ∧ ((unitTest.executes rA served = true) ∧ (served.fenced (u8 rA.payload 0) (u16 rA.payload 2) = false) ∧ (u8 rA.payload 0 ≠ 4)
      ∧ (served.testOf (u8 rA.payload 0) (u16 rA.payload 2) = none) ∧ ((unitTest.taken rA served).unitWork (u8 rA.payload 0) (u16 rA.payload 2) = true)
      ∧ (flagAutoFence (unitTest.work rA served).flags = true) ∧ ((unitTest.taken rA served).hasSpare (u8 rA.payload 0) (u16 rA.payload 2) = true))
    ∧ ((unitTest.executes rA input15 = true) ∧ (input15.fenced (u8 rA.payload 0) (u16 rA.payload 2) = false) ∧ (u8 rA.payload 0 ≠ 4)
      ∧ (input15.testOf (u8 rA.payload 0) (u16 rA.payload 2) = none)
      ∧ ((unitTest.taken rA input15).unitWork (u8 rA.payload 0) (u16 rA.payload 2) = true) ∧ (flagAutoFence (unitTest.work rA input15).flags = true)
      ∧ ((unitTest.taken rA input15).hasSpare (u8 rA.payload 0) (u16 rA.payload 2) = false))
    ∧ ((unitTest.executes input14 served = true) ∧ (served.fenced (u8 input14.payload 0) (u16 input14.payload 2) = false) ∧ (u8 input14.payload 0 ≠ 4)
      ∧ (served.testOf (u8 input14.payload 0) (u16 input14.payload 2) = none)
      ∧ ((unitTest.taken input14 served).unitWork (u8 input14.payload 0) (u16 input14.payload 2) = true)
      ∧ (flagAutoFence (unitTest.work input14 served).flags = false))
    ∧ ((unitTest.executes input12 served = true) ∧ (served.fenced (u8 input12.payload 0) (u16 input12.payload 2) = false) ∧ (u8 input12.payload 0 ≠ 4)
      ∧ (served.testOf (u8 input12.payload 0) (u16 input12.payload 2) = none)
      ∧ ((unitTest.taken input12 served).unitWork (u8 input12.payload 0) (u16 input12.payload 2) = false))
    ∧ ((sAu.testOf 8 2 = some xAu) ∧ (xAu.auto = true) ∧ (xAu.running = false) ∧ (sAu.health.fencedSelf 8 2 = false))
    ∧ ((unitTest.executes input12 input2 = true) ∧ (input2.fenced (u8 input12.payload 0) (u16 input12.payload 2) = true)) :=
  ⟨⟨by decide +kernel, by decide +kernel, by decide +kernel, by decide +kernel, by decide +kernel, by decide +kernel, by decide +kernel,
    by decide +kernel, by decide +kernel, by decide +kernel⟩,
    ⟨by decide +kernel, by decide +kernel, by decide +kernel, by decide +kernel, by decide +kernel, by decide +kernel, by decide +kernel,
    by decide +kernel, by decide +kernel, by decide +kernel⟩,
    ⟨by decide +kernel, by decide +kernel, by decide +kernel, by decide +kernel, by decide +kernel, by decide +kernel, by decide +kernel,
    by decide +kernel, by decide +kernel⟩,
    ⟨by decide +kernel, by decide +kernel, by decide +kernel, by decide +kernel, by decide +kernel, by decide +kernel, by decide +kernel,
    by decide +kernel⟩,
    ⟨by decide +kernel, by decide +kernel, by decide +kernel, by decide +kernel, by decide +kernel, by decide +kernel, by decide +kernel⟩,
    ⟨by decide +kernel, by decide +kernel, by decide +kernel, by decide +kernel, by decide +kernel, by decide +kernel, by decide +kernel⟩,
    ⟨by decide +kernel, by decide +kernel, by decide +kernel, by decide +kernel, by decide +kernel, by decide +kernel⟩,
    ⟨by decide +kernel, by decide +kernel, by decide +kernel, by decide +kernel, by decide +kernel⟩,
    ⟨by decide +kernel, by decide +kernel, by decide +kernel, by decide +kernel⟩,
    ⟨by decide +kernel, by decide +kernel⟩⟩

/-- Inputs of `Obligations.ThermalStepsRetreatAndTrip`. -/
theorem witness_ThermalStepsRetreatAndTrip :
    ((input17.fwRunning = true) ∧ (input17.health.steps < if 1100 < 1000 then 0 else (((1100 : Int) - 1000) / 20).toNat + 1) ∧ (1100 ≤ 1100)
      ∧ (input17.boot.stage = 7) ∧ (input17.health.tests = []))
    ∧ ((served.fwRunning = true) ∧ (served.health.steps < if 1040 < 1000 then 0 else (((1040 : Int) - 1000) / 20).toNat + 1) ∧ (1040 < 1100))
    ∧ ((input18.fwRunning = true) ∧ (0 < input18.health.steps) ∧ (input18.health.tj ≤ 980 + 20 * ↑input18.health.steps - 10))
    ∧ ((input19.boot.retreat = true) ∧ (input19.health.tripped = false) ∧ (input19.health.tj ≤ 1000))
    ∧ ((sT.boot.porstN = true) ∧ (sT.health.tripped = false) ∧ (1200 ≤ 1200))
    ∧ ((sT.boot.porstN = true) ∧ (sT.health.tripped = false) ∧ (1199 < 1200))
    ∧ ((served.fwRunning = true) ∧ ((if 999 < 1000 then 0 else (((999 : Int) - 1000) / 20).toNat + 1) ≤ served.health.steps))
    ∧ ((sT.fwRunning = true) ∧ (sT.health.steps = 0 ∨ 980 + 20 * ↑sT.health.steps - 10 < sT.health.tj))
    ∧ (sT.boot.retreat = false ∨ sT.health.tripped = true ∨ 1000 < sT.health.tj) :=
  ⟨⟨by decide +kernel, by decide +kernel, by decide +kernel, by decide +kernel, by decide +kernel⟩,
    ⟨by decide +kernel, by decide +kernel, by decide +kernel⟩,
    ⟨by decide +kernel, by decide +kernel, by decide +kernel⟩,
    ⟨by decide +kernel, by decide +kernel, by decide +kernel⟩,
    ⟨by decide +kernel, by decide +kernel, by decide +kernel⟩,
    ⟨by decide +kernel, by decide +kernel, by decide +kernel⟩,
    ⟨by decide +kernel, by decide +kernel⟩,
    ⟨by decide +kernel, by decide +kernel⟩,
    by decide +kernel⟩

/-- Inputs of `Obligations.EventsReachTheirRings` (rings are enabled read and moderated). -/
theorem witness_RingsAreEnabledReadAndModerated :
    ((if View.pf0 = View.pf0 then 1 ≤ 2 else 1 = 3) ∧ ((served.ring 1).enabled = false) ∧ (6 ≤ (served.ring 1).sizeLog ∧ (served.ring 1).sizeLog ≤ 16
      ∧ (served.ring 1).base % 4096 = 0 ∧ (served.ring 1).writeback % 4096 = 0) ∧ (served.events.toBoot = true))
    ∧ ((if View.pf0 = View.pf0 then 1 ≤ 2 else 1 = 3) ∧ ((input22.ring 1).enabled = false) ∧ (6 ≤ (input22.ring 1).sizeLog
      ∧ (input22.ring 1).sizeLog ≤ 16 ∧ (input22.ring 1).base % 4096 = 0 ∧ (input22.ring 1).writeback % 4096 = 0) ∧ (input22.events.toBoot = false))
    ∧ ((3 < 4) ∧ (0 < (input24.ring 3).unsignalled) ∧ (0 < (input24.ring 3).holdoff))
    ∧ ((if View.pf0 = View.pf0 then 1 ≤ 2 else 1 = 3) ∧ ((rgBad.ring 1).enabled = false) ∧ (¬(6 ≤ (rgBad.ring 1).sizeLog ∧ (rgBad.ring 1).sizeLog ≤ 16
      ∧ (rgBad.ring 1).base % 4096 = 0 ∧ (rgBad.ring 1).writeback % 4096 = 0)))
    ∧ ((1 < 4) ∧ ((served.ring 1).unsignalled = 0 ∨ (served.ring 1).holdoff = 0))
    ∧ ((if View.pf0 = View.pf0 then 1 ≤ 2 else 1 = 3) ∧ ((rgOn.ring 1).enabled = true))
    ∧ (eventRouteSet.executes input20 served = true)
    ∧ (if View.pf0 = View.pf0 then 2 < 3 else 3 ≠ 3)
    ∧ (if View.pf1 = View.pf0 then 3 ≤ 2 else 3 = 3) :=
  ⟨⟨by decide +kernel, by decide +kernel, by decide +kernel, by decide +kernel⟩,
    ⟨by decide +kernel, by decide +kernel, by decide +kernel, by decide +kernel⟩,
    ⟨by decide +kernel, by decide +kernel, by decide +kernel⟩,
    ⟨by decide +kernel, by decide +kernel, by decide +kernel⟩,
    ⟨by decide +kernel, by decide +kernel⟩,
    ⟨by decide +kernel, by decide +kernel⟩,
    by decide +kernel,
    by decide +kernel,
    by decide +kernel⟩

/-- Inputs of `Obligations.EventsReachTheirRings` (records are admitted held and summarised). -/
theorem witness_RecordsAreAdmittedHeldAndSummarised :
    ((List.find? (fun (w : Window) => w.name == EventName.refLost && w.src == input29) sR.events.windows = some w1) ∧ (w1.opened + 100000000 ≤ sR.time.dt)
      ∧ (0 < w1.count) ∧ (input28 = none))
    ∧ ((1 < 4) ∧ ((sR.ring 1).summaries = [input31]) ∧ ((sR.ring 1).verdict input31.severity = Admit.written)
      ∧ (input31.dropped = true → (sR.ring 1).fill * 16 < (sR.ring 1).size * 15))
    ∧ ((List.find? (fun (w : Window) => w.name == EventName.glint && w.src == input29) sR.events.windows = some w0)
      ∧ (w0.opened + 100000000 ≤ sR.time.dt) ∧ (w0.count = 0))
    ∧ ((1 < 4) ∧ ((input32.ring 1).summaries = [input31]) ∧ ((input32.ring 1).verdict input31.severity ≠ Admit.written ∨ input31.dropped = true
      ∧ (input32.ring 1).size * 15 ≤ (input32.ring 1).fill * 16))
    ∧ ((1 < 4) ∧ ((sR.ring 1).verdict 0 = Admit.written) ∧ ((sR.ring 1).queue = input33 :: input34))
    ∧ ((List.find? (fun (w : Window) => w.name == EventName.refLost && w.src == input29) input30.events.windows = some w1)
      ∧ (input30.time.dt < w1.opened + 100000000))
    ∧ ((1 < 4) ∧ ((input32.ring 1).verdict 0 = Admit.held))
    ∧ (List.find? (fun (w : Window) => w.name == EventName.glint && w.src == input27) sR.events.windows = none) :=
  ⟨⟨by decide +kernel, by decide +kernel, by decide +kernel, by decide +kernel⟩,
    ⟨by decide +kernel, by decide +kernel, by decide +kernel, by decide +kernel⟩,
    ⟨by decide +kernel, by decide +kernel, by decide +kernel⟩,
    ⟨by decide +kernel, by decide +kernel, by decide +kernel⟩,
    ⟨by decide +kernel, by decide +kernel, by decide +kernel⟩,
    ⟨by decide +kernel, by decide +kernel⟩,
    ⟨by decide +kernel, by decide +kernel⟩,
    by decide +kernel⟩

end Units

namespace Registers

def rJ (j n : Nat) := dmaReq (le 8 j ++ le 2 n ++ zeros 6) [] 100000
def jsn0 := (journalRead.work (rJ 1 1) served).jsn
def rL := dmaReq (zeros 8) (zeros 4096)
def sL := after (execFirmwareLoad rL served) served
def jL : Job := match sL.ccp.jobs with | j :: _ => j | _ => (firmwareLoad.work rL served).job 1 []
def jB : Job := { jL with opcode := 0x0A0C, args := bytes [1,0,0,0,0,0,0,0] }
def pg : Package := { pkg with magic := 0x54464931, format := 1, authority := 0, signatures := 1, p384Ok := true, version := 3, commit := 2, build := 77, hashOk := [true, true, true, true] }
def sA : State := { served with flash := { served.flash with loaded := some (1, pg) }, lantern := { served.lantern with fuses := { served.lantern.fuses with authorities := [pg.keyHash] } } }
def rAc := req (bytes [1,0,0,0,0,0,0,0])
def sW := after (execFirmwareActivate rAc sA) sA
def eW : Sched := match sW.ccp.schedule with | e :: _ => e | _ => { jsn := 1, opcode := 1, view := .pf0, session := 0, flags := 0, token := 0, major := 1, minor := 0, args := [], effect := ⟨0,0,0⟩, kind := 0, status := 0, charges := [], last := true, begun := false, atDt := none }
def sW2 := after (execScheduledEffect eW.jsn 0 0 sW) sW
def mk (op kind : Nat) (a : Bytes) (jsn : Nat := 9) : Sched := { eW with jsn := jsn, opcode := op, args := a, effect := ⟨0, 5, 7⟩, kind := kind }
def sch (l : List Sched) : State := { served with ccp := { served.ccp with schedule := l } }
def rt := bytes [4,0x10,6,0x10,0,1,0,0]
def la := bytes [4,0,1,1,3,4,0,0,0,0] ++ List.replicate 12 255 ++ bytes [0,0,250,251,7,0,0,0]
def sy := bytes [4,0x10,0,1,255,255,255,255,9,0,3,0,0,0,0,0]
def sQ := served.setQuad 0 { served.quad 0 with protocol := 1 }
def input0 : Request := rJ jsn0 1
def input1 : Request := rJ (jsn0 - 1) 1
def input3 : State := { sL with ccp := { sL.ccp with jobs := [jB] } }
def input4 : State := { sA with journal := { sA.journal with swapJsn := some 4 } }
def input6 : State := { sW with health := { sW.health with tripped := true } }
def input7 : Sched := mk 0x0405 2 (zeros 16) 9
def input8 : Sched := mk 0x0407 2 (zeros 16) 8
def input9 : State := sch [mk 0x0407 2 (zeros 16) 8, mk 0x0405 2 (zeros 16) 9]
def input10 : Sched := mk 0x0401 0 rt
def input11 : State := sch [mk 0x0401 0 rt]
def input15 : Sched := mk 0x0302 0 la
def input16 : State := sch [mk 0x0302 0 la]
def input17 : Sched := mk 0x0405 2 sy
def input18 : State := sch [mk 0x0405 2 sy]
def input19 : Sched := mk 0x0407 2 sy
def input20 : State := sch [mk 0x0407 2 sy]
def input21 : Sched := mk 0x0503 2 (bytes [3,0,1,0,0,0,0,0] ++ List.replicate 24576 5)
def input22 : State := sch [mk 0x0503 2 (bytes [3,0,1,0,0,0,0,0] ++ List.replicate 24576 5)]
def input23 : Request := dmaReq [] [] 5000
def input24 : State := { served with time := { served.time with dt := 7 * 2^32 * 10^9 + 5 } }
def input25 : State := (served.setTg 0 { served.tg 0 with pos := ⟨77, 5, 9⟩ })
def input26 : State := { sQ with regs := { sQ.regs with lock := true } }
def input27 : State := { sQ with regs := { sQ.regs with writeLog := List.replicate 64 ⟨0, 0, 0, true⟩ } }
def input30 : Bytes := zeros 8
def input31 : Reg := ⟨.lane, 0, 2⟩

/-- Inputs of `Obligations.JournalPagesAndCertificatesAreRead` (journal pages are read). -/
theorem witness_JournalPagesAreRead :
    ((journalRead.executes input1 served = true) ∧ (u64 (journalRead.work input1 served).args 0 ≠ (journalRead.work input1 served).jsn)
      ∧ (u64 (journalRead.work input1 served).args 0 < (journalRead.taken input1 served).journal.chainFirst ∨ u64 (journalRead.work input1 served).args 0 < (journalRead.taken input1 served).journal.oldest))
    ∧ ((journalRead.executes input0 served = true)
      ∧ (u64 (journalRead.work input0 served).args 0 = (journalRead.work input0 served).jsn ∨ (journalRead.taken input0 served).journal.chainFirst ≤ u64 (journalRead.work input0 served).args 0
      ∧ (journalRead.taken input0 served).journal.oldest ≤ u64 (journalRead.work input0 served).args 0)) :=
  ⟨⟨by decide +kernel, by decide +kernel, by decide +kernel⟩,
    ⟨by decide +kernel, by decide +kernel⟩⟩

/-- Inputs of `Obligations.FirmwareIsLoadedAndSwapped`. -/
theorem witness_FirmwareIsLoadedAndSwapped :
    ((firmwareActivate.executes rAc sA = true) ∧ (sA.verified (u8 rAc.payload 0) = some pg) ∧ (sA.journal.swapJsn = none)
      ∧ (firmwareActivate.mayWait rAc sA Point.dusk 0))
    ∧ ((firmwareActivate.executes rAc input4 = true) ∧ (input4.verified (u8 rAc.payload 0) = some pg) ∧ (input4.journal.swapJsn.isSome = true))
    ∧ ((sL.ccp.jobs = [jL]) ∧ (jL.opcode = 3329))
    ∧ ((input3.ccp.jobs = [jB]) ∧ (jB.opcode = 2570 ∨ jB.opcode = 2572))
    ∧ ((firmwareActivate.executes rAc served = true) ∧ (served.verified (u8 rAc.payload 0) = none))
    ∧ ((sW2.journal.swapping = true) ∧ (sW2.flash.next = some (1, pg)))
    ∧ (firmwareLoad.executes rL served = true)
    ∧ (∀ (j : Job), j ∈ served.ccp.jobs → j.jsn ≠ 7)
    ∧ (served.journal.swapping = false) :=
  ⟨⟨by decide +kernel, by decide +kernel, by decide +kernel, by unfold Cmd.mayWait; decide +kernel⟩,
    ⟨by decide +kernel, by decide +kernel, by decide +kernel⟩,
    ⟨by decide +kernel, by decide +kernel⟩,
    ⟨by decide +kernel, by decide +kernel⟩,
    ⟨by decide +kernel, by decide +kernel⟩,
    ⟨by decide +kernel, by decide +kernel⟩,
    by decide +kernel,
    by decide +kernel,
    by decide +kernel⟩

/-- Inputs of `Obligations.ScheduledCommandsTakeEffect`. -/
theorem witness_ScheduledCommandsTakeEffect :
    (((List.filter (fun (y : Sched) => y.jsn == input7.jsn) input9.ccp.schedule)[0]? = some input7) ∧ (input8 ∈ input9.ccp.schedule) ∧ (input8.jsn < input7.jsn)
      ∧ (input8.kind = input7.kind) ∧ (input8.effect = input7.effect) ∧ (input8.kind < 6) ∧ (input8.kind ≠ 1) ∧ (input8.begun = false)
      ∧ (input8.opcode ≠ 2817))
    ∧ ((input11.ccp.schedule = [input10]) ∧ (input10.last = true) ∧ (input11.health.tripped = false) ∧ (input10.opcode = 1025)
      ∧ (routeEntries input10.args = [rt]) ∧ (input11.destFenced (u16 rt 0) = false) ∧ (input11.halted = false))
    ∧ ((input18.ccp.schedule = [input17]) ∧ (input17.last = true) ∧ (input18.health.tripped = false) ∧ (input17.opcode = 1029) ∧ (input17.begun = false))
    ∧ ((input20.ccp.schedule = [input19]) ∧ (input19.last = true) ∧ (input20.health.tripped = false) ∧ (input19.opcode = 1031) ∧ (input19.begun = false))
    ∧ ((input22.ccp.schedule = [input21]) ∧ (input21.last = true) ∧ (input22.health.tripped = false) ∧ (input21.opcode = 1283) ∧ (input21.begun = false))
    ∧ ((input16.ccp.schedule = [input15]) ∧ (input15.last = true) ∧ (input16.health.tripped = false) ∧ (input15.opcode = 770))
    ∧ ((List.filter (fun (e : Sched) => e.jsn == 5) served.ccp.schedule)[0]? = none)
    ∧ (input6.health.tripped = true) :=
  ⟨⟨by decide +kernel, by decide +kernel, by decide +kernel, by decide +kernel, by decide +kernel, by decide +kernel, by decide +kernel,
    by decide +kernel, by decide +kernel⟩,
    ⟨by decide +kernel, by decide +kernel, by decide +kernel, by decide +kernel, by decide +kernel, by decide +kernel, by decide +kernel⟩,
    ⟨by decide +kernel, by decide +kernel, by decide +kernel, by decide +kernel, by decide +kernel⟩,
    ⟨by decide +kernel, by decide +kernel, by decide +kernel, by decide +kernel, by decide +kernel⟩,
    ⟨by decide +kernel, by decide +kernel, by decide +kernel, by decide +kernel, by decide +kernel⟩,
    ⟨by decide +kernel, by decide +kernel, by decide +kernel, by decide +kernel⟩,
    by decide +kernel,
    by decide +kernel⟩

/-- Inputs of `Obligations.JournalPagesAndCertificatesAreRead` (certificates are read). -/
theorem witness_CertificatesAreRead :
    (devidCertRead.executes input23 served = true) ∧ (served.lantern.state = 1) ∧ (served.lantern.fuses.decommissioned = false) :=
  ⟨by decide +kernel, by decide +kernel, by decide +kernel⟩

/-- Inputs of `Obligations.FabricReadsLatchAndFaultsAreLogged`. -/
theorem witness_FabricReadsLatchAndFaultsAreLogged :
    ((input25.masterOn 4 = true) ∧ (4 = 4 ∨ 4 = 5 → input25.fwRunning = true) ∧ (8 ≤ 8) ∧ (0 < 8) ∧ ((input25.tg 0).enabled = true))
    ∧ ((input24.masterOn 4 = true) ∧ (4 = 4 ∨ 4 = 5 → input24.fwRunning = true) ∧ (8 ≤ 8))
    ∧ ((3 < 4) ∧ (4 ≠ 8))
    ∧ (served.masterOn 6 = false)
    ∧ (3 ≤ 3 ∨ 3 = 8) :=
  ⟨⟨by decide +kernel, by decide +kernel, by decide +kernel, by decide +kernel, by decide +kernel⟩,
    ⟨by decide +kernel, by decide +kernel, by decide +kernel⟩,
    ⟨by decide +kernel, by decide +kernel⟩,
    by decide +kernel,
    by decide +kernel⟩

/-- Inputs of `Obligations.RegisterWritesReachTheirOwn`. -/
theorem witness_RegisterWritesReachTheirOwn :
    ((4 ≤ 4) ∧ (3 < 144) ∧ (sQ.masterOn 4 = true) ∧ (sQ.fwRunning = true) ∧ (523003 < 2 ^ 64) ∧ (4 = 4 → sQ.regs.lock = false)
      ∧ ((sQ.quad (3 / 4)).protocol ≠ 0 ∧ -16 ≤ toSigned 8 (523003 % 256) ∧ toSigned 8 (523003 % 256) ≤ 0 ∧ -26 ≤ toSigned 8 (523003 / 256 % 256) ∧ toSigned 8 (523003 / 256 % 256) ≤ 0 ∧ 523003 / 65536 % 16 ≤ 12)
      ∧ (sQ.regs.writeLog.length < 64))
    ∧ ((4 ≤ 4) ∧ (3 < 144) ∧ (input27.masterOn 4 = true) ∧ (input27.fwRunning = true) ∧ (523003 < 2 ^ 64) ∧ (4 = 4 → input27.regs.lock = false)
      ∧ ((input27.quad (3 / 4)).protocol ≠ 0 ∧ -16 ≤ toSigned 8 (523003 % 256) ∧ toSigned 8 (523003 % 256) ≤ 0 ∧ -26 ≤ toSigned 8 (523003 / 256 % 256) ∧ toSigned 8 (523003 / 256 % 256) ≤ 0 ∧ 523003 / 65536 % 16 ≤ 12)
      ∧ (64 ≤ input27.regs.writeLog.length))
    ∧ ((4 ≤ 4) ∧ (3 < 144) ∧ (served.masterOn 4 = true) ∧ (served.fwRunning = true) ∧ (523003 < 2 ^ 64) ∧ (4 = 4 → served.regs.lock = false)
      ∧ (¬((served.quad (3 / 4)).protocol ≠ 0 ∧ -16 ≤ toSigned 8 (523003 % 256) ∧ toSigned 8 (523003 % 256) ≤ 0 ∧ -26 ≤ toSigned 8 (523003 / 256 % 256) ∧ toSigned 8 (523003 / 256 % 256) ≤ 0 ∧ 523003 / 65536 % 16 ≤ 12)))
    ∧ ((4 ≤ 4) ∧ (3 < 144) ∧ (input26.masterOn 4 = true) ∧ (input26.fwRunning = true) ∧ (523003 < 2 ^ 64) ∧ (4 = 4) ∧ (input26.regs.lock = true))
    ∧ ((served.masterOn 4 = true) ∧ (4 = 4 ∨ 4 = 5 → served.fwRunning = true) ∧ ((msixAt 4 117440512).isNone = true) ∧ (bufferAt 4 117440512 = false)
      ∧ (regOf 4 117440512 = none) ∧ (117440512 % 8 = 0) ∧ (List.length input30 = 8))
    ∧ ((served.masterOn 4 = true) ∧ (served.fwRunning = true) ∧ (1311768467463790321 < 2 ^ 64) ∧ (2 ≤ 2) ∧ (2 < 8) ∧ ((served.cvu 2).holder = none)
      ∧ ((served.cvu 2).busy = false))
    ∧ ((served.masterOn 4 = true) ∧ (4 = 4 ∨ 4 = 5 → served.fwRunning = true) ∧ ((msixAt 4 1048593).isNone = true) ∧ (bufferAt 4 1048593 = false)
      ∧ (regOf 4 (1048593 / 8 * 8) = some input31) ∧ (1048593 % 4 ≠ 0 ∨ List.length input30 % 4 ≠ 0 ∨ input30 = []))
    ∧ ((served.masterOn 4 = true) ∧ (served.fwRunning = true) ∧ (1311768467463790321 < 2 ^ 64) ∧ (2 < 3) ∧ ((served.ring 2).enabled = false))
    ∧ ((served.masterOn 4 = true) ∧ (served.fwRunning = true) ∧ (1311768467463790321 < 2 ^ 64) ∧ (16 ≤ 17) ∧ (17 < 20))
    ∧ ((served.masterOn 4 = true) ∧ (served.fwRunning = true) ∧ (1311768467463790321 < 2 ^ 64) ∧ (2 < 16))
    ∧ ((served.masterOn 4 = true) ∧ (served.fwRunning = true) ∧ (1311768467463790321 < 2 ^ 64) ∧ (1 < 2))
    ∧ (4 < 4 ∨ lockableAt 3 = false)
    ∧ (served.masterOn 6 = false) :=
  ⟨⟨by decide +kernel, by decide +kernel, by decide +kernel, by decide +kernel, by decide +kernel, by decide +kernel, by decide +kernel,
    by decide +kernel⟩,
    ⟨by decide +kernel, by decide +kernel, by decide +kernel, by decide +kernel, by decide +kernel, by decide +kernel, by decide +kernel,
    by decide +kernel⟩,
    ⟨by decide +kernel, by decide +kernel, by decide +kernel, by decide +kernel, by decide +kernel, by decide +kernel, by decide +kernel⟩,
    ⟨by decide +kernel, by decide +kernel, by decide +kernel, by decide +kernel, by decide +kernel, by decide +kernel, by decide +kernel⟩,
    ⟨by decide +kernel, by decide +kernel, by decide +kernel, by decide +kernel, by decide +kernel, by decide +kernel, by decide +kernel⟩,
    ⟨by decide +kernel, by decide +kernel, by decide +kernel, by decide +kernel, by decide +kernel, by decide +kernel, by decide +kernel⟩,
    ⟨by decide +kernel, by decide +kernel, by decide +kernel, by decide +kernel, by decide +kernel, by decide +kernel⟩,
    ⟨by decide +kernel, by decide +kernel, by decide +kernel, by decide +kernel, by decide +kernel⟩,
    ⟨by decide +kernel, by decide +kernel, by decide +kernel, by decide +kernel, by decide +kernel⟩,
    ⟨by decide +kernel, by decide +kernel, by decide +kernel, by decide +kernel⟩,
    ⟨by decide +kernel, by decide +kernel, by decide +kernel, by decide +kernel⟩,
    by decide +kernel,
    by decide +kernel⟩

end Registers

namespace Queries

def opn : Request := { req (bytes [2,0] ++ zeros 16 ++ bytes [1,3,1,0]) with mailbox := 2, major := 0, minor := 0 }
def opnB : Request := { req (bytes [2,0] ++ zeros 16 ++ bytes [7,3,8,0]) with mailbox := 2, major := 0, minor := 0 }
def input0 : Request := { req [] with atLine := 3 }
def input1 : Request := (req [])
def input4 : Request := (req (bytes [0,0,1,0,0,0,0,0]))
def input5 : List (Nat × Nat) := [(1, 0)]
def input6 : List (Nat × Nat) := [(2, 1), (1, 3)]
def input7 : Reg := ⟨.mailbox, 0, 0⟩

/-- Inputs of `Obligations.SessionsAreOpenedAttachedAndClosed`. -/
theorem witness_SessionsAreOpenedAttachedAndClosed :
    negotiate input5 input6 = some (1, 0) :=
  by decide +kernel

/-- Inputs of `Obligations.QueriesChangeNothing`. -/
theorem witness_QueriesChangeNothing :
    ((timeStatus ∈ [sessionInfo, commandResult, capacityReport, timeStatus, clockStatus, laneStatus, flowStatus, flowSdp, tallyRead, routeRead, watchStatus, pipeStatus, canvasStatus, surfaceStatus, mirrorStatus, panelStatus, channelStatistics, coreStatus, audioStatus, tdmPortStatus, memoryStatus, nightlightMapRead, nvStatus, nvLogRead, devidCertRead, lanternStatus, healthStatus, eventCatalogue, journalRead, journalHead, stateSnapshot, firmwareStatus, cascadeStatus])
      ∧ (timeStatus.passes input1 served = true) ∧ (served.journal.newChain = false) ∧ (served.journal.open_.length < 64))
   
      ∧ ((timeStatus ∈ [sessionInfo, commandResult, capacityReport, timeStatus, clockStatus, laneStatus, flowStatus, flowSdp, tallyRead, routeRead, watchStatus, pipeStatus, canvasStatus, surfaceStatus, mirrorStatus, panelStatus, channelStatistics, coreStatus, audioStatus, tdmPortStatus, memoryStatus, nightlightMapRead, nvStatus, nvLogRead, devidCertRead, lanternStatus, healthStatus, eventCatalogue, journalRead, journalHead, stateSnapshot, firmwareStatus, cascadeStatus])
      ∧ (input0.atFrame ≠ 0 ∨ input0.atLine ≠ 0 ∨ input0.group ≠ 0)) :=
  ⟨⟨by simp, by decide +kernel, by decide +kernel, by decide +kernel⟩,
    ⟨by simp, by decide +kernel⟩⟩

/-- Inputs of `Obligations.LocksAreSetAtAcceptance`. -/
theorem witness_LocksAreSetAtAcceptance :
    ((destinationLock.executes input4 served = true) ∧ ((destinationLock.taken input4 served).destFenced (u16 input4.payload 0) = false))
    ∧ (destinationLock.passes input4 served = true) :=
  ⟨⟨by decide +kernel, by decide +kernel⟩,
    by decide +kernel⟩

/-- Inputs of `Obligations.TheHighestCommonMajorIsChosen`. -/
theorem witness_TheHighestCommonMajorIsChosen :
    ((served.service opnB.view opnB.mailbox = Service.firmware) ∧ ((served.mailbox (mbKey opnB.view opnB.mailbox)).state ≠ MbState.submitted)
      ∧ ((served.mailbox (mbKey opnB.view opnB.mailbox)).state ≠ MbState.accepted) ∧ (sessionOpen.firstFailure opnB (sessionOpen.before opnB served) = none)
      ∧ (((sessionOpen.before opnB served).cachedToken opnB).isNone = true) ∧ (1 ≤ u8 opnB.payload 0) ∧ (u8 opnB.payload 0 ≤ 16)
      ∧ ((served.mailbox (mbKey opnB.view opnB.mailbox)).session = 0)
      ∧ (∀ (o : Nat × Nat), o ∈ offeredMajors opnB.payload → ∀ (d : Nat × Nat), d ∈ served.boot.majors → o.fst ≠ d.fst))
    ∧ ((sessionOpen.executes opn served = true) ∧ (served.openSessions opn.view < sessionLimit opn.view))
    ∧ (negotiate input5 input6 = some (1, 0)) :=
  ⟨⟨by decide +kernel, by decide +kernel, by decide +kernel, by decide +kernel, by decide +kernel, by decide +kernel, by decide +kernel,
    by decide +kernel, by decide +kernel⟩,
    ⟨by decide +kernel, by decide +kernel⟩,
    by decide +kernel⟩

/-- Inputs of `Obligations.TheShadedViewHidesRegisters`. -/
theorem witness_TheShadedViewHidesRegisters :
    (regPf1 4096 = some input7) ∧ (input7.shaded = false) ∧ (4096 % 8 = 0) ∧ ((msixAt 5 4096).isNone = true) ∧ (bufferAt 5 4096 = false) :=
  ⟨by decide +kernel, by decide +kernel, by decide +kernel, by decide +kernel, by decide +kernel⟩

end Queries

namespace Rules

def rq0 : Request := req []
def rV (n : Nat) : Request := { rq0 with mailbox := n }
def v1 : State := { served with ccp := { served.ccp with sessions := { id := 3, view := .pf1, major := 1, minor := 0, label := [], crypto := false, user := false } :: served.ccp.sessions } }
def stP : State := v1.setMailbox 17 { v1.mailbox 17 with session := 3 }
def rP : Request := { req (bytes [0,0,1,0,0,0,0,0]) with view := .pf1, mailbox := 1 }
def stNo : State := { served with ccp := { served.ccp with sessions := served.ccp.sessions.map fun x => { x with crypto := false, user := false } } }
def stSw : State := { served with journal := { served.journal with swapping := true } }
def stB : State := { served with boot := { served.boot with stage := 6 } }
def stQ : State := { served with pending := [.aoXoLost] }
def opn : Request := { req (bytes [2,0] ++ zeros 16 ++ bytes [1,3,1,0]) with mailbox := 2, major := 0, minor := 0 }
def rDm (a : Bytes) : Request := dmaReq a [] 100000
def rR : Request := req (le 8 5)
def cE : Cached := { jsn := 5, view := .pf0, token := 9, opcode := 0x0280, status := 0, effect := none, payload := [], digest := 0 }
def stC : State := { served with ccp := { served.ccp with cache := [cE] } }
def hid : Reg := (regPf1 4096).getD ⟨.identity, 0, 0⟩
def input0 : List Instr := []
def input1 : Request := (req [0])
def input2 : Request := (rV 5)
def input3 : Request := { rq0 with major := 2 }
def input4 : Request := (req (zeros 8))
def input5 : List (Nat × Nat) := [(1, 0)]
def input6 : List (Nat × Nat) := [(1, 3), (2, 0)]
def input7 : Nat × Nat := (1, 3)
def input8 : Nat × Nat := (1, 0)
def input9 : Request := { req (bytes [0,0,1,0,0,0,0,0]) with atLine := 3 }
def input10 : Bytes := (le 4 7)
def input11 : State := served.idle
def input13 : Request := (req (bytes [3,0,0,0,0,0,0,0]))
def input14 : Request := (req (bytes [0,0,1,0]))
def input15 : Request := (rDm (zeros 8 ++ bytes [1,0] ++ zeros 6))
def input16 : Request := (rDm [])

/-- Inputs of `Obligations.StepRunsTheFrontCommand`. -/
theorem witness_StepRunsTheFrontCommand :
    stQ.pending = Instr.aoXoLost :: input0 :=
  by decide +kernel

/-- Inputs of `Obligations.SessionsAreOpenedAttachedAndClosed`. -/
theorem witness_SessionsAreOpenedAttachedAndClosed :
    ((negotiate input5 input6 = some (1, 0)) ∧ (input7 ∈ input6) ∧ (input8 ∈ input5) ∧ (input7.fst = input8.fst))
    ∧ ((sessionOpen.executes opn served = true) ∧ (served.openSessions opn.view < sessionLimit opn.view)) :=
  ⟨⟨by decide +kernel, by decide +kernel, by decide +kernel, by decide +kernel⟩,
    ⟨by decide +kernel, by decide +kernel⟩⟩

/-- Inputs of `Obligations.CancelsAndResponsesTellTheState` (cancel and result name a jsn). -/
theorem witness_CancelAndResultNameAJsn :
    (commandResult.executes rR stC = true)
      ∧ (List.find? (fun (e : Cached) => e.jsn == u64 (commandResult.work rR stC).args 0) (commandResult.taken rR stC).ccp.cache = some cE)
      ∧ ((commandResult.work rR stC).dma = false) :=
  ⟨by decide +kernel, by decide +kernel, by decide +kernel⟩

/-- Inputs of `Obligations.QueriesChangeNothing`. -/
theorem witness_QueriesChangeNothing :
    ((timeStatus ∈ [sessionInfo, commandResult, capacityReport, timeStatus, clockStatus, laneStatus, flowStatus, flowSdp, tallyRead, routeRead, watchStatus, pipeStatus, canvasStatus, surfaceStatus, mirrorStatus, panelStatus, channelStatistics, coreStatus, audioStatus, tdmPortStatus, memoryStatus, nightlightMapRead, nvStatus, nvLogRead, devidCertRead, lanternStatus, healthStatus, eventCatalogue, journalRead, journalHead, stateSnapshot, firmwareStatus, cascadeStatus])
      ∧ (timeStatus.executes rq0 served = true))
    ∧ (257 ∈ opcodes)
    ∧ (sessionInfo.executes rq0 served = true)
    ∧ (capacityReport.executes rq0 served = true)
    ∧ (clockStatus.executes rq0 served = true)
    ∧ (laneStatus.executes rq0 served = true)
    ∧ (flowStatus.executes rq0 served = true)
    ∧ (flowSdp.executes input13 served = true)
    ∧ (tallyRead.executes rq0 served = true)
    ∧ (routeRead.executes input14 served = true)
    ∧ (watchStatus.executes rq0 served = true)
    ∧ (pipeStatus.executes rq0 served = true)
    ∧ (canvasStatus.executes rq0 served = true)
    ∧ (surfaceStatus.executes rq0 served = true)
    ∧ (mirrorStatus.executes rq0 served = true)
    ∧ (panelStatus.executes rq0 served = true)
    ∧ (channelStatistics.executes rq0 served = true)
    ∧ (coreStatus.executes rq0 served = true)
    ∧ (audioStatus.executes rq0 served = true)
    ∧ (tdmPortStatus.executes rq0 served = true)
    ∧ (memoryStatus.executes rq0 served = true)
    ∧ (nightlightMapRead.executes rq0 served = true)
    ∧ (nvStatus.executes rq0 served = true)
    ∧ (nvLogRead.executes input15 served = true)
    ∧ (lanternStatus.executes rq0 served = true)
    ∧ (healthStatus.executes rq0 served = true)
    ∧ (eventCatalogue.executes input16 served = true)
    ∧ (journalHead.executes rq0 served = true)
    ∧ (stateSnapshot.executes input16 served = true)
    ∧ (firmwareStatus.executes rq0 served = true)
    ∧ (cascadeStatus.executes rq0 served = true) :=
  ⟨⟨by simp, by decide +kernel⟩,
    by decide +kernel,
    by decide +kernel,
    by decide +kernel,
    by decide +kernel,
    by decide +kernel,
    by decide +kernel,
    by decide +kernel,
    by decide +kernel,
    by decide +kernel,
    by decide +kernel,
    by decide +kernel,
    by decide +kernel,
    by decide +kernel,
    by decide +kernel,
    by decide +kernel,
    by decide +kernel,
    by decide +kernel,
    by decide +kernel,
    by decide +kernel,
    by decide +kernel,
    by decide +kernel,
    by decide +kernel,
    by decide +kernel,
    by decide +kernel,
    by decide +kernel,
    by decide +kernel,
    by decide +kernel,
    by decide +kernel,
    by decide +kernel,
    by decide +kernel⟩

/-- Inputs of `Obligations.LocksAreSetAtAcceptance`. -/
theorem witness_LocksAreSetAtAcceptance :
    input9.atFrame ≠ 0 ∨ input9.atLine ≠ 0 ∨ input9.group ≠ 0 :=
  by decide +kernel

/-- Inputs of `Obligations.TheHighestCommonMajorIsChosen`. -/
theorem witness_TheHighestCommonMajorIsChosen :
    (negotiate input5 input6 = some (1, 0)) ∧ (input7 ∈ input6) ∧ (input8 ∈ input5) ∧ (input7.fst = input8.fst) :=
  ⟨by decide +kernel, by decide +kernel, by decide +kernel, by decide +kernel⟩

/-- Inputs of `Obligations.TheShadedViewHidesRegisters`. -/
theorem witness_TheShadedViewHidesRegisters :
    (regPf1 4096 = some hid) ∧ (hid.shaded = false) ∧ (4096 % 8 = 0) ∧ ((msixAt 5 4096).isNone = true) ∧ (bufferAt 5 4096 = false)
      ∧ (List.length input10 = 4) :=
  ⟨by decide +kernel, by decide +kernel, by decide +kernel, by decide +kernel, by decide +kernel, by decide +kernel⟩

/-- Inputs of `Obligations.RefusedRequestsLeaveNoTrace`. -/
theorem witness_RefusedRequestsLeaveNoTrace :
    ((served.service input1.view input1.mailbox = Service.firmware) ∧ ((served.mailbox (mbKey input1.view input1.mailbox)).state ≠ MbState.submitted)
      ∧ ((served.mailbox (mbKey input1.view input1.mailbox)).state ≠ MbState.accepted)
      ∧ (timeStatus.firstFailure input1 (timeStatus.before input1 served) = some stBadArgument))
    ∧ (stSw.journal.swapping = true)
    ∧ ((¬served.journal.swapping = true ∧ opensSession timeStatus.opcode = false ∧ served.sessionOf (mbKey input2.view input2.mailbox) = none))
   
      ∧ ((¬served.journal.swapping = true ∧ ¬(opensSession timeStatus.opcode = false ∧ served.sessionOf (mbKey input3.view input3.mailbox) = none) ∧ ¬if opensSession timeStatus.opcode = true then input3.major = 0 ∧ input3.minor = 0 else ∃ (y : Session), served.sessionOf (mbKey input3.view input3.mailbox) = some y ∧ input3.major.toNat = y.major ∧ input3.minor.toNat ≤ y.minor))
    ∧ ((¬stP.journal.swapping = true ∧ ¬(opensSession destinationLock.opcode = false ∧ stP.sessionOf (mbKey rP.view rP.mailbox) = none)
      ∧ (if opensSession destinationLock.opcode = true then rP.major = 0 ∧ rP.minor = 0 else ∃ (y : Session), stP.sessionOf (mbKey rP.view rP.mailbox) = some y ∧ rP.major.toNat = y.major ∧ rP.minor.toNat ≤ y.minor) ∧ rP.view = View.pf1 ∧ pf1May destinationLock.opcode = false))
    ∧ ((¬stNo.journal.swapping = true ∧ ¬(opensSession registerLock.opcode = false ∧ stNo.sessionOf (mbKey input4.view input4.mailbox) = none)
      ∧ (if opensSession registerLock.opcode = true then input4.major = 0 ∧ input4.minor = 0 else ∃ (y : Session), stNo.sessionOf (mbKey input4.view input4.mailbox) = some y ∧ input4.major.toNat = y.major ∧ input4.minor.toNat ≤ y.minor) ∧ ¬(input4.view = View.pf1 ∧ pf1May registerLock.opcode = false) ∧ registerLock.role.heldBy (stNo.sessionOf (mbKey input4.view input4.mailbox)) = false))
    ∧ ((¬served.journal.swapping = true ∧ ¬(opensSession timeStatus.opcode = false ∧ served.sessionOf (mbKey input1.view input1.mailbox) = none)
      ∧ (if opensSession timeStatus.opcode = true then input1.major = 0 ∧ input1.minor = 0 else ∃ (y : Session), served.sessionOf (mbKey input1.view input1.mailbox) = some y ∧ input1.major.toNat = y.major ∧ input1.minor.toNat ≤ y.minor) ∧ ¬(input1.view = View.pf1 ∧ pf1May timeStatus.opcode = false) ∧ ¬timeStatus.role.heldBy (served.sessionOf (mbKey input1.view input1.mailbox)) = false ∧ timeStatus.formOk input1 served = false))
    ∧ ((¬stB.journal.swapping = true ∧ ¬(opensSession timeStatus.opcode = false ∧ stB.sessionOf (mbKey rq0.view rq0.mailbox) = none)
      ∧ (if opensSession timeStatus.opcode = true then rq0.major = 0 ∧ rq0.minor = 0 else ∃ (y : Session), stB.sessionOf (mbKey rq0.view rq0.mailbox) = some y ∧ rq0.major.toNat = y.major ∧ rq0.minor.toNat ≤ y.minor) ∧ ¬(rq0.view = View.pf1 ∧ pf1May timeStatus.opcode = false) ∧ ¬timeStatus.role.heldBy (stB.sessionOf (mbKey rq0.view rq0.mailbox)) = false ∧ ¬timeStatus.formOk rq0 stB = false ∧ stB.boot.stage = 6 ∧ bootingMay timeStatus.opcode = false))
    ∧ ((¬served.journal.swapping = true ∧ ¬(opensSession timeStatus.opcode = false ∧ served.sessionOf (mbKey rq0.view rq0.mailbox) = none)
      ∧ (if opensSession timeStatus.opcode = true then rq0.major = 0 ∧ rq0.minor = 0 else ∃ (y : Session), served.sessionOf (mbKey rq0.view rq0.mailbox) = some y ∧ rq0.major.toNat = y.major ∧ rq0.minor.toNat ≤ y.minor) ∧ ¬(rq0.view = View.pf1 ∧ pf1May timeStatus.opcode = false) ∧ ¬timeStatus.role.heldBy (served.sessionOf (mbKey rq0.view rq0.mailbox)) = false ∧ ¬timeStatus.formOk rq0 served = false ∧ ¬(served.boot.stage = 6 ∧ bootingMay timeStatus.opcode = false))) :=
  ⟨⟨by decide +kernel, by decide +kernel, by decide +kernel, by decide +kernel⟩,
    by decide +kernel,
    by decide +kernel,
    by decide +kernel,
    by decide +kernel,
    by decide +kernel,
    by decide +kernel,
    by decide +kernel,
    by decide +kernel⟩

/-- Inputs of `Obligations.ResetLeavesTheStatedValues`. -/
theorem witness_ResetLeavesTheStatedValues :
    ((1 ≤ 1) ∧ (1 < 8) ∧ (1 ≤ 1))
    ∧ ((1 ≤ 7) ∧ (7 < 8)) :=
  ⟨⟨by decide +kernel, by decide +kernel, by decide +kernel⟩,
    ⟨by decide +kernel, by decide +kernel⟩⟩

/-- Inputs of `Obligations.EveryStepKeepsHbmCanonical`. -/
theorem witness_EveryStepKeepsHbmCanonical :
    (served.memory.wf = true) ∧ (step served = Host.Outcome.next input11) :=
  ⟨by decide +kernel, rfl⟩

end Rules

end Sys2Proof.Tests
end

section
/-! PROOF. The shaded view hides registers (R13, R538, R541): a write of one slot reaches one register, and a write of PF1
to a register that its view does not show changes nothing. -/

namespace Sys2Proof.Machine

/-! ## The slots of a write (R538) -/

@[simp] theorem length_le (n v : Nat) : (le n v).length = n := by
  induction n generalizing v with
  | zero => rfl
  | succ n ih => simp [le, ih]

@[simp] theorem slotWrites_nil (n off : Nat) : slotWrites n off [] = [] := by
  cases n <;> rfl

/-- Eight bytes at a slot's offset are one write of both its halves. -/
theorem slotWrites_both_halves {off : Nat} {data : Bytes} (hoff : off % 8 = 0) (hlen : data.length = 8) :
    slotWrites data.length off data = [(off, 3, u64 data 0)] := by
  have hne : data ≠ [] := List.ne_nil_of_length_pos (by omega)
  have hrest : data.drop 8 = [] := List.drop_eq_nil_of_le (Nat.le_of_eq hlen)
  rw [hlen]
  simp [slotWrites, hne, hoff, hlen, hrest]

/-- Four bytes at a slot's offset are one write of its low half. -/
theorem slotWrites_low_half {off : Nat} {data : Bytes} (hoff : off % 8 = 0) (hlen : data.length = 4) :
    slotWrites data.length off data = [(off, 1, u32 data 0)] := by
  have hne : data ≠ [] := List.ne_nil_of_length_pos (by omega)
  rw [hlen]
  simp [slotWrites, hne, hoff, hlen]

/-- Four bytes at the middle of a slot are one write of its high half. -/
theorem slotWrites_high_half {off : Nat} {data : Bytes} (hoff : off % 8 = 0) (hlen : data.length = 4) :
    slotWrites data.length (off + 4) data = [(off, 2, u32 data 0 * 2 ^ 32)] := by
  have hne : data ≠ [] := List.ne_nil_of_length_pos (by omega)
  have hmid : (off + 4) % 8 = 4 := by omega
  have hrest : data.drop 4 = [] := List.drop_eq_nil_of_le (Nat.le_of_eq hlen)
  rw [hlen]
  simp [slotWrites, hne, hmid, hrest]

/-- A wide write that covers one slot changes nothing when the write of that slot changes nothing. -/
theorem registerWrite_eq_self_of_slot {master off : Nat} {data : Bytes} {s : State} {w : Nat × Nat × Nat}
    (hwide : wideWrite off data = true) (hslots : slotWrites data.length off data = [w])
    (hslot : s.writeSlot master w = s) : registerWrite master off data s = s := by
  simp [registerWrite, hwide, hslots, hslot]

theorem exec_genericRegisterWrite (master off : Nat) (data : Bytes) (s : State) :
    exec (.genericRegisterWrite master off data) s = .next (registerWrite master off data s) := rfl

/-! ## A hidden register (R13, R541) -/

theorem readReg_pf1_of_hidden {r : Reg} (hr : r.shaded = false) (s : State) : s.readReg 5 r = 0 := by
  simp [State.readReg, hr]

/-- PF1 writes only mailboxes from 16 and ring 3, and its view shows those. -/
theorem writeReg_pf1_of_hidden {r : Reg} (hr : r.shaded = false) (s : State) (off mask v : Nat) :
    s.writeReg 5 off r mask v = s := by
  obtain ⟨blk, inst, idx⟩ := r
  cases blk with
  | mailbox =>
    have hinst : ¬ 16 ≤ inst := by simpa [Reg.shaded] using hr
    simp [State.writeReg, hinst]
  | ring =>
    have hinst : inst ≠ 3 := by simpa [Reg.shaded] using hr
    simp [State.writeReg, hinst]
  | _ => simp [State.writeReg]

/-- A write of PF1 to the slot of a hidden register is ignored: it reaches neither the MSI-X table nor a fault record. -/
theorem writeSlot_pf1_of_hidden {off : Nat} {r : Reg} (hreg : regPf1 off = some r) (hr : r.shaded = false)
    (hmsix : (msixAt 5 off).isNone) (hbuf : bufferAt 5 off = false) (s : State) (mask v : Nat) :
    s.writeSlot 5 (off, mask, v) = s := by
  have hnone : msixAt 5 off = none := Option.isNone_iff_eq_none.mp hmsix
  have hat : regOf 5 off = some r := hreg
  simp [State.writeSlot, hnone, hbuf, hat, writeReg_pf1_of_hidden hr]

/-- Settles O59: PF1 reads zero of a hidden register, and each write that the statement names is one write of its slot. -/
theorem theShadedViewHidesRegisters : Obligations.TheShadedViewHidesRegisters := by
  unfold Obligations.TheShadedViewHidesRegisters
  intro off v r s hreg hr hoff hmsix hbuf
  have hread : s.readReg 5 r = 0 := readReg_pf1_of_hidden hr s
  have hslot (mask v : Nat) : s.writeSlot 5 (off, mask, v) = s := writeSlot_pf1_of_hidden hreg hr hmsix hbuf s mask v
  have hmul : off % 4 = 0 := by omega
  refine ⟨hread, ?_, ?_, fun data hlen => ⟨?_, ?_⟩⟩
  · simp [State.readSlot, regOf, hreg, hread]
  · have hwide : wideWrite off (le 8 v) = true := by simp [wideWrite, hmul]
    rw [exec_genericRegisterWrite,
      registerWrite_eq_self_of_slot hwide (slotWrites_both_halves hoff (length_le 8 v)) (hslot _ _)]
  · have hwide : wideWrite off data = true := by simp [wideWrite, hmul, hlen]
    rw [exec_genericRegisterWrite, registerWrite_eq_self_of_slot hwide (slotWrites_low_half hoff hlen) (hslot _ _)]
  · have hwide : wideWrite (off + 4) data = true := by simp [wideWrite, hmul, hlen]
    rw [exec_genericRegisterWrite, registerWrite_eq_self_of_slot hwide (slotWrites_high_half hoff hlen) (hslot _ _)]

end Sys2Proof.Machine
end

section
/-! PROOF. The choice of a version (R77): the fold of `negotiate` ends at the highest common major, and SESSION_OPEN takes
that version or, where no major is common, is refused with the device's majors. -/

namespace Sys2Proof.Machine

/-! ## The choice of a version (R77) -/

/-- The pair with the higher major, the first of two equal ones. -/
def higherMajor (b o : Nat × Nat) : Nat × Nat := if b.1 < o.1 then o else b

theorem higherMajor_mem (b o : Nat × Nat) : higherMajor b o = b ∨ higherMajor b o = o := by
  unfold higherMajor
  split
  · exact .inr rfl
  · exact .inl rfl

theorem le_higherMajor (b o : Nat × Nat) : b.1 ≤ (higherMajor b o).1 ∧ o.1 ≤ (higherMajor b o).1 := by
  unfold higherMajor
  split <;> omega

theorem foldl_higherMajor_mem (c : Nat × Nat) (cs : List (Nat × Nat)) : cs.foldl higherMajor c ∈ c :: cs := by
  induction cs generalizing c with
  | nil => exact List.mem_singleton_self c
  | cons o cs ih =>
    rw [List.foldl_cons]
    rcases List.mem_cons.mp (ih (higherMajor c o)) with heq | hmem
    · rw [heq]
      rcases higherMajor_mem c o with h | h <;> simp [h]
    · exact List.mem_cons_of_mem _ (List.mem_cons_of_mem _ hmem)

theorem le_foldl_higherMajor (c : Nat × Nat) (cs : List (Nat × Nat)) :
    ∀ o ∈ c :: cs, o.1 ≤ (cs.foldl higherMajor c).1 := by
  induction cs generalizing c with
  | nil => simp
  | cons d cs ih =>
    have hbest : (higherMajor c d).1 ≤ (cs.foldl higherMajor (higherMajor c d)).1 := ih _ _ List.mem_cons_self
    obtain ⟨hc, hd⟩ := le_higherMajor c d
    intro o ho
    rw [List.foldl_cons]
    rcases List.mem_cons.mp ho with rfl | ho
    · exact Nat.le_trans hc hbest
    · rcases List.mem_cons.mp ho with rfl | ho
      · exact Nat.le_trans hd hbest
      · exact ih _ o (List.mem_cons_of_mem _ ho)

/-- The offered pairs whose major the device serves. -/
def commonMajors (ms offered : List (Nat × Nat)) : List (Nat × Nat) := offered.filter fun o => ms.any fun m => m.1 == o.1

theorem mem_commonMajors {ms offered : List (Nat × Nat)} {o : Nat × Nat} :
    o ∈ commonMajors ms offered ↔ o ∈ offered ∧ ∃ d, d ∈ ms ∧ d.1 = o.1 := by
  simp [commonMajors]

theorem negotiate_of_nil {ms offered : List (Nat × Nat)} (h : commonMajors ms offered = []) : negotiate ms offered = none := by
  unfold commonMajors at h
  simp [negotiate, h]

theorem negotiate_of_cons {ms offered cs : List (Nat × Nat)} {c : Nat × Nat} (h : commonMajors ms offered = c :: cs) :
    negotiate ms offered
      = some ((cs.foldl higherMajor c).1, min (cs.foldl higherMajor c).2 (deviceMinor ms (cs.foldl higherMajor c).1)) := by
  unfold commonMajors at h
  simp only [negotiate, h]
  rfl

theorem negotiate_eq_none_iff (ms offered : List (Nat × Nat)) :
    negotiate ms offered = none ↔ ∀ o d, o ∈ offered → d ∈ ms → o.1 ≠ d.1 := by
  constructor
  · intro hnone o d ho hd heq
    have hmem : o ∈ commonMajors ms offered := mem_commonMajors.mpr ⟨ho, d, hd, heq.symm⟩
    cases hcommon : commonMajors ms offered with
    | nil => simp [hcommon] at hmem
    | cons c cs => simp [negotiate_of_cons hcommon] at hnone
  · intro hdiff
    refine negotiate_of_nil (List.eq_nil_iff_forall_not_mem.mpr fun o ho => ?_)
    obtain ⟨hoff, d, hd, heq⟩ := mem_commonMajors.mp ho
    exact hdiff o d hoff hd heq.symm

/-- What is chosen is common to both sides and the highest such major, with the lower of the two minors. -/
theorem negotiate_eq_some {ms offered : List (Nat × Nat)} {major minor : Nat} (h : negotiate ms offered = some (major, minor)) :
    (∃ o, o ∈ offered ∧ o.1 = major ∧ minor = min o.2 (deviceMinor ms major)) ∧ (∃ d, d ∈ ms ∧ d.1 = major)
      ∧ ∀ o d, o ∈ offered → d ∈ ms → o.1 = d.1 → o.1 ≤ major := by
  cases hcommon : commonMajors ms offered with
  | nil => simp [negotiate_of_nil hcommon] at h
  | cons c cs =>
    obtain ⟨rfl, rfl⟩ : (cs.foldl higherMajor c).1 = major
        ∧ min (cs.foldl higherMajor c).2 (deviceMinor ms (cs.foldl higherMajor c).1) = minor := by
      simpa [negotiate_of_cons hcommon] using h
    obtain ⟨hoff, hdev⟩ := mem_commonMajors.mp (hcommon ▸ foldl_higherMajor_mem c cs)
    refine ⟨⟨_, hoff, rfl, rfl⟩, hdev, fun o d ho hd heq => ?_⟩
    exact le_foldl_higherMajor c cs o (hcommon ▸ mem_commonMajors.mpr ⟨ho, d, hd, heq.symm⟩)

/-! ## SESSION_OPEN (R76, R77) -/

theorem exec_sessionOpen (r : Request) (s : State) : exec (.sessionOpen r) s = .next (sessionOpen.serve r s) := rfl

@[simp] theorem Cmd.before_boot (c : Cmd) (r : Request) (s : State) : (c.before r s).boot = s.boot := by
  rw [c.before_protocol r s]; rfl

@[simp] theorem Cmd.taken_boot (c : Cmd) (r : Request) (s : State) : (c.taken r s).boot = s.boot := by
  rw [c.taken_protocol r s]; rfl

theorem Cmd.taken_sessions (c : Cmd) (r : Request) (s : State) : (c.taken r s).ccp.sessions = s.ccp.sessions := by
  obtain ⟨m, l, n, h⟩ := c.taken_ccp r s
  rw [h]

/-- Finishing a command leaves the sessions as its run left them. -/
theorem Cmd.finish_sessions (c : Cmd) (x : Ctx) (a : Answer) : (c.finish x a).ccp.sessions = a.state.ccp.sessions := by
  rw [c.finish_ccp x a]

/-- A request that is executed has passed the version check of R77. -/
theorem Cmd.noMajor_of_executes {c : Cmd} {r : Request} {s : State} (h : c.executes r s = true) :
    c.noMajor (c.ctx r (c.before r s) 0) (c.before r s) = none := by
  simp only [Cmd.executes, Cmd.passes, Bool.and_eq_true, Option.isNone_iff_eq_none] at h
  obtain ⟨⟨⟨⟨-, hmajor⟩, -⟩, -⟩, -⟩ := h
  exact hmajor

theorem sessionOpen_ctx_args (r : Request) (s : State) (jsn : Nat) : (sessionOpen.ctx r s jsn).args = r.payload := by
  have hdma : (sessionOpen.dma == DmaUse.ignored) = true := rfl
  simp [Cmd.ctx, hdma]

theorem sessionOpen_noMajor_of_none {r : Request} {s : State} (h : negotiate s.boot.majors (offeredMajors r.payload) = none)
    (jsn : Nat) : sessionOpen.noMajor (sessionOpen.ctx r s jsn) s
      = some (le 1 s.boot.majors.length ++ majorPairs s.boot.majors) := by
  simp [sessionOpen, Cmd.ctx, h]

/-- A SESSION_OPEN that is executed has a common major. -/
theorem sessionOpen_negotiates {r : Request} {s : State} (h : sessionOpen.executes r s = true) :
    ∃ v, negotiate s.boot.majors (offeredMajors r.payload) = some v := by
  refine Option.ne_none_iff_exists'.mp fun hnone => ?_
  have hrefused := sessionOpen_noMajor_of_none (r := r) (s := sessionOpen.before r s) (by simpa using hnone) 0
  simp [Cmd.noMajor_of_executes h] at hrefused

/-- The run of SESSION_OPEN with a common major and room for a session: it answers OK and adds a session of that version. -/
theorem sessionOpen_run {x : Ctx} {s : State} {major minor : Nat}
    (hver : negotiate s.boot.majors (offeredMajors x.args) = some (major, minor))
    (hroom : s.openSessions x.req.view < sessionLimit x.req.view) :
    (sessionOpen.run x s).status = stOk
      ∧ (sessionOpen.run x s).state.ccp.sessions = s.ccp.sessions ++ [{ id := s.freshSession, view := x.req.view, major, minor
                                                                        label := slice x.args 2 16, crypto := false
                                                                        user := false }] := by
  have hfull : ¬ sessionLimit x.req.view ≤ s.openSessions x.req.view := Nat.not_le.mpr hroom
  simp only [sessionOpen, hver, if_neg hfull]
  exact ⟨rfl, rfl⟩

theorem sessionOpen_adds_the_negotiated_session {r : Request} {s : State} (h : sessionOpen.executes r s = true)
    (hroom : s.openSessions r.view < sessionLimit r.view) :
    ∃ t x, exec (.sessionOpen r) s = .next t ∧ t.answered r stOk (sessionOpen.work r s).jsn
      ∧ t.ccp.sessions = s.ccp.sessions ++ [x]
      ∧ negotiate s.boot.majors (offeredMajors r.payload) = some (x.major, x.minor) := by
  obtain ⟨⟨major, minor⟩, hver⟩ := sessionOpen_negotiates h
  have hargs : (sessionOpen.work r s).args = r.payload := (sessionOpen.work_plain r s rfl).1
  have hsessions := sessionOpen.taken_sessions r s
  have hroom' : (sessionOpen.taken r s).openSessions r.view < sessionLimit r.view := by
    simpa only [State.openSessions, hsessions] using hroom
  obtain ⟨hstatus, hadded⟩ := sessionOpen_run (x := sessionOpen.work r s) (s := sessionOpen.taken r s)
    (by rw [hargs, Cmd.taken_boot]; exact hver) hroom'
  obtain ⟨hanswered, -⟩ := sessionOpen.serve_spec r s h (by rw [hstatus]; decide)
  rw [hstatus] at hanswered
  rw [← sessionOpen.finish_sessions (sessionOpen.work r s), ← sessionOpen.serve_executes r s h, hsessions] at hadded
  exact ⟨_, _, exec_sessionOpen r s, hanswered, hadded, hver⟩

/-! ## A request refused for its version (R61, R77) -/

/-- A request in a free mailbox is served in the state after its doorbell. -/
theorem Cmd.serve_of_free {c : Cmd} {r : Request} {s : State} (hfw : s.service r.view r.mailbox = .firmware)
    (hsub : (s.mailbox (mbKey r.view r.mailbox)).state ≠ .submitted)
    (hacc : (s.mailbox (mbKey r.view r.mailbox)).state ≠ .accepted) :
    c.before r s = s.submit (mbKey r.view r.mailbox) c.opcode r ∧ c.serve r s = c.process r (c.before r s) := by
  simp [Cmd.serve, Cmd.before, hfw, hsub, hacc]

/-- A request that passes the checks before the version and offers no common major is refused with the device's majors. -/
theorem Cmd.process_noMajor {c : Cmd} {r : Request} {b : State} {p : Bytes} (hchecks : c.firstFailure r b = none)
    (htoken : b.cachedToken r = none) (hargs : c.args (c.ctx r b 0) b = true) (hmajor : c.noMajor (c.ctx r b 0) b = some p) :
    c.process r b = b.refuse (mbKey r.view r.mailbox) r.view stBadVersion p := by
  simp [Cmd.process, hchecks, htoken, hargs, hmajor]

theorem State.refuse_badVersion (s : State) (k : Nat) (v : View) (p : Bytes) :
    s.refuse k v stBadVersion p = s.respond k ((s.mailbox k).refuse stBadVersion p) := by
  have hcounted : ¬ (stBadVersion = stNotPrivileged ∨ stBadVersion = stAuthRequired) := by decide
  simp only [State.refuse, if_neg hcounted]

@[simp] theorem State.respond_journal (s : State) (k : Nat) (m : Mailbox) : (s.respond k m).journal = s.journal := by
  unfold State.respond State.mbInterrupt
  split <;> rfl

@[simp] theorem State.submit_session (s : State) (k opcode : Nat) (r : Request) :
    ((s.submit k opcode r).mailbox k).session = (s.mailbox k).session := by
  unfold State.submit
  rw [State.mailbox_setMailbox]
  rfl

theorem sessionOpen_badVersion {r : Request} {s : State} (hfw : s.service r.view r.mailbox = .firmware)
    (hsub : (s.mailbox (mbKey r.view r.mailbox)).state ≠ .submitted)
    (hacc : (s.mailbox (mbKey r.view r.mailbox)).state ≠ .accepted)
    (hchecks : sessionOpen.firstFailure r (sessionOpen.before r s) = none)
    (htoken : (sessionOpen.before r s).cachedToken r = none) (hlow : 1 ≤ u8 r.payload 0) (hhigh : u8 r.payload 0 ≤ 16)
    (hunbound : (s.mailbox (mbKey r.view r.mailbox)).session = 0)
    (hnone : negotiate s.boot.majors (offeredMajors r.payload) = none) :
    sessionOpen.serve r s = (s.submit (mbKey r.view r.mailbox) sessionOpen.opcode r).refuse (mbKey r.view r.mailbox) r.view
      stBadVersion (le 1 s.boot.majors.length ++ majorPairs s.boot.majors) := by
  obtain ⟨hbefore, hserve⟩ := Cmd.serve_of_free (c := sessionOpen) hfw hsub hacc
  have hkey : (sessionOpen.ctx r (sessionOpen.before r s) 0).key = mbKey r.view r.mailbox := rfl
  have hsession : ((sessionOpen.before r s).mailbox (mbKey r.view r.mailbox)).session = 0 := by
    rw [hbefore, State.submit_session, hunbound]
  have hargs : sessionOpen.args (sessionOpen.ctx r (sessionOpen.before r s) 0) (sessionOpen.before r s) = true := by
    show decide _ = true
    rw [sessionOpen_ctx_args, hkey]
    exact decide_eq_true ⟨hlow, hhigh, hsession⟩
  have hmajor := sessionOpen_noMajor_of_none (r := r) (s := sessionOpen.before r s) (by simpa using hnone) 0
  rw [hserve, Cmd.process_noMajor hchecks htoken hargs hmajor, Cmd.before_boot, hbefore]

/-- Settles O8: the choice is the fold over the common majors, and SESSION_OPEN takes it or is refused where there is none. -/
theorem theHighestCommonMajorIsChosen : Obligations.TheHighestCommonMajorIsChosen := by
  unfold Obligations.TheHighestCommonMajorIsChosen
  refine ⟨fun _ _ _ _ h => negotiate_eq_some h, negotiate_eq_none_iff,
    fun _ _ h hroom => sessionOpen_adds_the_negotiated_session h hroom, ?_⟩
  intro r s hfw hsub hacc hchecks htoken hlow hhigh hunbound hdiff
  have hnone : negotiate s.boot.majors (offeredMajors r.payload) = none :=
    (negotiate_eq_none_iff _ _).mpr fun o d ho hd => hdiff o ho d hd
  refine ⟨_, exec_sessionOpen r s, ?_⟩
  rw [sessionOpen_badVersion hfw hsub hacc hchecks (Option.isNone_iff_eq_none.mp htoken) hlow hhigh hunbound hnone,
    State.refuse_badVersion]
  refine ⟨?_, ?_, ?_⟩
  · rw [State.mailbox_respond]
    exact ⟨rfl, rfl, (State.submit_session ..).trans hunbound, rfl⟩
  · rw [State.respond_ccp]
    rfl
  · rw [State.respond_journal]
    rfl

end Sys2Proof.Machine
end

section
/-! PROOF. A query that the Lantern refuses is not without a trace (R82, R455, R456): DEVID_CERT_READ of a Lantern that is
not OPERATIONAL answers SECURITY_ERROR, and the Lantern counts that answer. -/

namespace Sys2Proof.Machine

/-! ## DEVID_CERT_READ of a Lantern that is not OPERATIONAL -/

theorem State.identity_of_not_operational {s : State} (h : s.lantern.state ≠ 1) (a : Answer) : s.identity a = s.securityError := by
  simp [State.identity, State.service_, h]

theorem State.securityError_refusals (s : State) :
    s.securityError.state.lantern.refusals = (s.lantern.refusals + 1) % 2 ^ 64 := rfl

theorem Cmd.taken_lantern (c : Cmd) (r : Request) (s : State) : (c.taken r s).lantern = s.lantern := by
  rw [c.taken_protocol r s]; rfl

theorem Cmd.finish_lantern (c : Cmd) (x : Ctx) (a : Answer) : (c.finish x a).lantern = a.state.lantern := by
  rw [c.finish_protocol x a]; rfl

theorem devidCertRead_run_of_not_operational {x : Ctx} {s : State} (h : s.lantern.state ≠ 1) :
    devidCertRead.run x s = s.securityError := State.identity_of_not_operational h _

theorem devidCertRead_counts_refusal {r : Request} {s : State} (h : devidCertRead.executes r s = true)
    (hstate : s.lantern.state ≠ 1) :
    (devidCertRead.serve r s).lantern.refusals = (s.lantern.refusals + 1) % 2 ^ 64 := by
  have hlantern := devidCertRead.taken_lantern r s
  rw [devidCertRead.serve_executes r s h, Cmd.finish_lantern,
    devidCertRead_run_of_not_operational (by rw [hlantern]; exact hstate), State.securityError_refusals, hlantern]

/-- The counter never stands still, so such a query changes more than the protocol's own records. -/
theorem devidCertRead_serve_ne_protocol {r : Request} {s : State} (h : devidCertRead.executes r s = true)
    (hstate : s.lantern.state ≠ 1) : devidCertRead.serve r s ≠ s.protocol (devidCertRead.serve r s) := by
  intro heq
  have hkept : (devidCertRead.serve r s).lantern.refusals = s.lantern.refusals := by rw [heq]; rfl
  have hcounted := devidCertRead_counts_refusal h hstate
  omega

/-! ## The counterexample -/

/-- A request for the certificates: a DMA block with one response descriptor of 4 KiB and no arguments (R71, R446). -/
def certificateRequest : Request :=
  { view := .pf0, mailbox := 0, major := 1, minor := 0, flags := 4, token := 0, atFrame := 0, atLine := 0, group := 0
    reserved := 0, payload := le 2 0 ++ le 2 1 ++ zeros 4 ++ (le 8 0 ++ le 4 4096 ++ zeros 4), dma := ⟨[], false, none⟩ }

/-- A device at full function whose Lantern is in ERROR, with a session bound to the first mailbox of PF0 (R430, R455). -/
def lanternInError : State :=
  { State.reset with
    boot := { State.reset.boot with stage := 7, pcieUp := true }
    lantern := { State.reset.lantern with state := 3, cause := 2 }
    ccp := { State.reset.ccp with
      sessions := [{ id := 1, view := .pf0, major := 1, minor := 0, label := [], crypto := false, user := false }]
      mailboxes := [(0, { session := 1 })] } }

theorem certificateRequest_executes : devidCertRead.executes certificateRequest lanternInError = true := by decide +kernel

/-- Refutes O10: with the Lantern in ERROR an executed DEVID_CERT_READ leaves a higher count of SECURITY_ERROR answers. -/
theorem not_queriesChangeNothing : ¬ Obligations.QueriesChangeNothing := by
  unfold Obligations.QueriesChangeNothing
  rintro ⟨-, -, -, -, -, hexecuted, -⟩
  obtain ⟨hprotocol, -⟩ := hexecuted devidCertRead certificateRequest lanternInError (by simp) certificateRequest_executes
  exact devidCertRead_serve_ne_protocol certificateRequest_executes (by decide) hprotocol

end Sys2Proof.Machine
end

section
/-! PROOF. The destination lock (R173): what the checks of a request say of its form, and the OUTCOME entry that an
executed command writes last. -/

namespace Sys2Proof.Machine

/-! ## The form of a request (R9, R46, R59) -/

theorem length_slice (b : Bytes) (o n : Nat) : (slice b o n).length = n := by
  simp only [slice, zeros, List.length_append, List.length_take, List.length_replicate]
  omega

/-- A reserved field is zero when its bytes are. -/
theorem zeroAt_iff (b : Bytes) (o n : Nat) : zeroAt b o n = true ↔ slice b o n = zeros n := by
  simp [zeroAt, zeros, List.eq_replicate_iff, length_slice]

theorem Cmd.ctx_args_of_dma_ignored {c : Cmd} (hdma : c.dma = .ignored) (r : Request) (s : State) (jsn : Nat) :
    (c.ctx r s jsn).args = r.payload := by
  simp [Cmd.ctx, hdma]

/-- A well-formed request of a command on no timing-group object has no at fields, and its arguments their shape. -/
theorem Cmd.form_of_formOk {c : Cmd} {r : Request} {s : State} (htimed : c.timed = false) (h : c.formOk r s = true) :
    (r.atFrame = 0 ∧ r.atLine = 0 ∧ r.group = 0) ∧ c.shape (c.ctx r s 0).args = true := by
  simp only [Cmd.formOk, htimed, Bool.and_eq_true, Bool.false_eq_true, if_false, beq_iff_eq] at h
  obtain ⟨⟨⟨-, ⟨hframe, hline⟩, hgroup⟩, -⟩, hshape⟩ := h
  exact ⟨⟨hframe, hline, hgroup⟩, hshape⟩

/-- A check that fails with a status passes when its condition is false, and leaves the answer to the checks after it (R61). -/
theorem check_eq_none_iff {p : Prop} [Decidable p] {st : Nat} {rest : Option Nat} :
    (if p then some st else rest) = none ↔ ¬ p ∧ rest = none := by
  by_cases h : p
  · rw [if_pos h]
    exact ⟨fun hsome => (nomatch hsome), fun hnone => absurd h hnone.1⟩
  · rw [if_neg h]
    exact ⟨fun hrest => ⟨h, hrest⟩, fun hnone => hnone.2⟩

theorem Cmd.formOk_of_firstFailure {c : Cmd} {r : Request} {s : State} (h : c.firstFailure r s = none) :
    c.formOk r s = true := by
  simp only [Cmd.firstFailure, check_eq_none_iff] at h
  obtain ⟨-, -, -, -, -, hform, -⟩ := h
  simpa only [Bool.not_eq_true', Bool.not_eq_false] using hform

/-- A request that passes has the form of step 7 of R61 and the arguments of step 10. -/
theorem Cmd.formOk_and_args_of_passes {c : Cmd} {r : Request} {s : State} (h : c.passes r s = true) :
    c.formOk r (c.before r s) = true ∧ c.args (c.ctx r (c.before r s) 0) (c.before r s) = true := by
  simp only [Cmd.passes, Bool.and_eq_true, Option.isNone_iff_eq_none] at h
  obtain ⟨⟨⟨⟨-, hchecks⟩, -⟩, hargs⟩, -⟩ := h
  exact ⟨Cmd.formOk_of_firstFailure hchecks, hargs⟩

/-! ## The entry that is written last (R96, R97) -/

/-- An entry as the journal numbers it: the next JSN and the open page (R96, R98). -/
def Journal.numbered (j : Journal) (e : Entry) : Entry := { e with jsn := j.nextJsn, page := j.page }

theorem Journal.numbered_outcome (j : Journal) (e : Entry) : (j.numbered e).outcome = e.outcome := rfl

@[simp] theorem Journal.keepPages_open (j : Journal) (n : Nat) : (j.keepPages n).open_ = j.open_ := by
  unfold Journal.keepPages
  split <;> rfl

@[simp] theorem Journal.keepPages_newChain (j : Journal) (n : Nat) : (j.keepPages n).newChain = j.newChain := by
  unfold Journal.keepPages
  split <;> rfl

/-- An entry that does not fill the open page becomes its newest, and no new chain is called for. -/
theorem Journal.push_of_room {j : Journal} (e : Entry) (hroom : j.open_.length < 63) :
    (j.push e).open_ = j.numbered e :: j.open_ ∧ (j.push e).newChain = j.newChain := by
  have hopen : (if j.open_.isEmpty then j.keepPages 16383 else j).open_ = j.open_ := by split <;> simp
  have hchain : (if j.open_.isEmpty then j.keepPages 16383 else j).newChain = j.newChain := by split <;> simp
  have hpage : ¬ j.open_.length + 1 = 64 := by omega
  simp only [Journal.push, hopen, hchain, List.length_cons, if_neg hpage]
  exact ⟨rfl, trivial⟩

theorem Journal.append_of_room {j : Journal} (dt : Nat) (e : Entry) (hchain : j.newChain = false) (hroom : j.open_.length < 63) :
    (j.append dt e).open_ = j.numbered e :: j.open_ ∧ (j.append dt e).newChain = false := by
  obtain ⟨hopen, hkept⟩ := Journal.push_of_room e hroom
  simp only [Journal.append, hchain, Bool.false_eq_true, if_false]
  exact ⟨hopen, hkept.trans hchain⟩

theorem State.gatherStanding_journal (s : State) (jsn : Nat) : (s.gatherStanding jsn).journal = s.journal := by
  unfold State.gatherStanding State.gather State.nvTake State.nvStart State.nvBegin State.mapStore
  simp only []
  repeat' split
  all_goals rfl

theorem State.log_journal (s : State) (e : Entry) : (s.log e).journal = s.journal.append s.time.dt e := by
  unfold State.log
  split
  · exact State.gatherStanding_journal _ _
  · rfl

theorem Cmd.before_journal (c : Cmd) (r : Request) (s : State) : (c.before r s).journal = s.journal := by
  unfold Cmd.before
  simp only []
  split <;> rfl

/-- Being taken writes the COMMAND entry and nothing else into the journal (R62). -/
theorem Cmd.taken_journal (c : Cmd) (r : Request) (s : State) :
    (c.taken r s).journal
      = s.journal.append s.time.dt (commandEntry (c.ctx r (c.before r s) 0) c.opcode (c.before r s)) := by
  have htime : (c.before r s).time = s.time := by rw [c.before_protocol r s]; rfl
  rw [← htime, ← c.before_journal r s]
  exact State.log_journal _ _

/-- The OUTCOME entry of a final answer (R97): the command's opcode, and in its outcome whether it has taken effect and
whether it has changed the standing configuration. -/
def Cmd.outcomeOf (c : Cmd) (x : Ctx) (a : Answer) : Entry :=
  outcomeEntry a.state x.req.view x.session c.opcode a.status x.flags x.req.token.toNat x.req.major.toNat x.req.minor.toNat
    ((if a.status = stOk then 1 else 0) + (if a.standing then 16 else 0)) x.jsn (inlinePayload x a) a.effect

/-- The OUTCOME entry of a change of the standing configuration says so in bit 4 (R97, R106). -/
theorem Cmd.outcomeOf_standing (c : Cmd) (x : Ctx) {a : Answer} (h : a.standing = true) :
    bit (c.outcomeOf x a).outcome 4 = true := by
  simp only [Cmd.outcomeOf, outcomeEntry, h]
  split <;> rfl

/-- Finishing a command with a final answer writes its OUTCOME entry and nothing else into the journal. -/
theorem Cmd.finish_journal (c : Cmd) (x : Ctx) {a : Answer} (hfinal : openStatus a.status = false) :
    (c.finish x a).journal = a.state.journal.append a.state.time.dt (c.outcomeOf x a) := by
  have hpend : a.status ≠ stPending := by
    intro heq
    simp [openStatus, heq] at hfinal
  rw [← State.log_journal]
  simp only [Cmd.finish, hfinal, if_neg hpend, State.respond_journal]
  split <;> rfl

/-- After an executed command with a final answer the OUTCOME entry is the last one of the journal, when the page has room
for both entries of the command and its run writes none. -/
theorem Cmd.serve_journal_last {c : Cmd} {r : Request} {s : State} {a : Answer} (h : c.executes r s = true)
    (hrun : c.run (c.work r s) (c.taken r s) = a) (hfinal : openStatus a.status = false)
    (hjournal : a.state.journal = (c.taken r s).journal) (hchain : s.journal.newChain = false)
    (hroom : s.journal.open_.length < 62) :
    ∃ j : Journal, (c.serve r s).journal.last = some (j.numbered (c.outcomeOf (c.work r s) a)) := by
  obtain ⟨hopen, hnone⟩ := Journal.append_of_room s.time.dt
    (commandEntry (c.ctx r (c.before r s) 0) c.opcode (c.before r s)) hchain (by omega)
  rw [← c.taken_journal r s, ← hjournal] at hopen hnone
  obtain ⟨hlast, -⟩ := Journal.append_of_room a.state.time.dt (c.outcomeOf (c.work r s) a) hnone
    (by rw [hopen, List.length_cons]; omega)
  rw [c.serve_executes r s h, hrun]
  refine ⟨a.state.journal, ?_⟩
  rw [Journal.last, c.finish_journal _ hfinal, hlast]

/-! ## DESTINATION_LOCK (R173) -/

theorem exec_destinationLock (r : Request) (s : State) : exec (.destinationLock r) s = .next (destinationLock.serve r s) := rfl

theorem destinationLock_shape_iff (p : Bytes) :
    destinationLock.shape p = true ↔ p.length = 8 ∧ slice p 3 5 = zeros 5 := by
  simp [destinationLock, exactly, zeroFields, zeroAt_iff]

theorem destinationLock_value_of_args {x : Ctx} {s : State} (h : destinationLock.args x s = true) : u8 x.args 2 ≤ 1 := by
  simp only [destinationLock, Bool.and_eq_true, decide_eq_true_eq] at h
  exact h.2

/-- The state whose destination has the lock that a payload gives. -/
def State.lockDest (s : State) (p : Bytes) : State :=
  s.setDest (u16 p 0) { s.dest (u16 p 0) with locked := u8 p 2 == 1 }

theorem destinationLock_run_of_not_fenced {x : Ctx} {s : State} (h : s.destFenced (u16 x.args 0) = false) :
    destinationLock.run x s = (s.lockDest x.args).done [] true := by
  simp [destinationLock, h, State.lockDest]

theorem destinationLock_form {r : Request} {s : State} (h : destinationLock.passes r s = true) :
    r.payload.length = 8 ∧ u8 r.payload 2 ≤ 1 ∧ slice r.payload 3 5 = zeros 5
      ∧ r.atFrame = 0 ∧ r.atLine = 0 ∧ r.group = 0 := by
  obtain ⟨hform, hargs⟩ := Cmd.formOk_and_args_of_passes h
  obtain ⟨hat, hshape⟩ := Cmd.form_of_formOk rfl hform
  have hvalue := destinationLock_value_of_args hargs
  rw [Cmd.ctx_args_of_dma_ignored rfl] at hshape hvalue
  obtain ⟨hlength, hreserved⟩ := (destinationLock_shape_iff _).mp hshape
  exact ⟨hlength, hvalue, hreserved, hat⟩

theorem destinationLock_formOk_of_at {r : Request} (s : State) (hat : r.atFrame ≠ 0 ∨ r.atLine ≠ 0 ∨ r.group ≠ 0) :
    destinationLock.formOk r s = false := by
  cases hform : destinationLock.formOk r s with
  | false => rfl
  | true =>
    obtain ⟨⟨hframe, hline, hgroup⟩, -⟩ := Cmd.form_of_formOk rfl hform
    rcases hat with hat | hat | hat
    · exact absurd hframe hat
    · exact absurd hline hat
    · exact absurd hgroup hat

theorem State.lockDest_dest (s : State) (p : Bytes) :
    (s.lockDest p).dest (u16 p 0) = { s.dest (u16 p 0) with locked := u8 p 2 == 1 } := State.setDest_dest ..

theorem State.lockDest_dest_other (s : State) (p : Bytes) {d : Nat} (hne : d ≠ u16 p 0) : (s.lockDest p).dest d = s.dest d :=
  State.setDest_dest_other _ _ _ _ hne

theorem State.protocol_dest (s t : State) (d : Nat) : (s.protocol t).dest d = s.dest d := rfl

theorem destinationLock_work_run {r : Request} {s : State}
    (hfence : (destinationLock.taken r s).destFenced (u16 r.payload 0) = false) :
    destinationLock.run (destinationLock.work r s) (destinationLock.taken r s)
      = ((destinationLock.taken r s).lockDest r.payload).done [] true := by
  have hargs : (destinationLock.work r s).args = r.payload := (destinationLock.work_plain r s rfl).1
  rw [← hargs] at hfence ⊢
  exact destinationLock_run_of_not_fenced hfence

/-- The executed command is answered OK at once; the lock of its destination is all that it changes beside the protocol's
records. -/
theorem destinationLock_serve {r : Request} {s : State} (h : destinationLock.executes r s = true)
    (hfence : (destinationLock.taken r s).destFenced (u16 r.payload 0) = false) :
    (destinationLock.serve r s).answered r stOk (destinationLock.work r s).jsn
      ∧ destinationLock.serve r s = (s.lockDest r.payload).protocol (destinationLock.serve r s) := by
  have hok : stOk ≠ stPending := by decide
  obtain ⟨hanswered, hprotocol, -⟩ := destinationLock.serve_done r s _ _ h (destinationLock_work_run hfence) hok rfl
  rw [destinationLock.taken_protocol r s] at hprotocol
  exact ⟨hanswered, hprotocol⟩

/-- Settles O23: the form is what the checks ask, and the executed command sets the lock and is finished at once, with an
OUTCOME entry that says the change is standing. -/
theorem locksAreSetAtAcceptance : Obligations.LocksAreSetAtAcceptance := by
  unfold Obligations.LocksAreSetAtAcceptance
  refine ⟨fun _ _ h => destinationLock_form h, fun _ s hat => destinationLock_formOk_of_at s hat, by decide, ?_⟩
  intro r s h hfence d
  obtain ⟨hanswered, hprotocol⟩ := destinationLock_serve h hfence
  have hdest (e : Nat) : (destinationLock.serve r s).dest e = (s.lockDest r.payload).dest e := by
    rw [hprotocol, State.protocol_dest]
  have hframe : destinationLock.serve r s = { s.protocol (destinationLock.serve r s) with
      routing := { s.routing with dests := (destinationLock.serve r s).routing.dests } } := by
    rw [hprotocol]
    rfl
  refine ⟨_, exec_destinationLock r s, hanswered, ?_, fun e hne => ?_, hframe, fun hchain hroom => ?_⟩
  · rw [hdest, State.lockDest_dest]
  · rw [hdest, State.lockDest_dest_other s r.payload hne]
  · obtain ⟨j, hlast⟩ := Cmd.serve_journal_last h (destinationLock_work_run hfence) rfl rfl hchain hroom
    refine ⟨_, hlast, rfl, rfl, ?_⟩
    rw [Journal.numbered_outcome]
    exact destinationLock.outcomeOf_standing _ rfl

end Sys2Proof.Machine
end
